-- ==== Sys2Proof/Word.lean ====
section
/-! DEFINITION. The word of the host bus: 16 bits (00_scope.md, Conventions). -/
namespace Sys2Proof

/-- A word of the bus, of a register and of a block. -/
abbrev Word := BitVec 16

/-- The selection of one of the 32 registers by the five word-address lines A[4:0] (section 11.1): the register at byte
offset 2k has word address k. -/
abbrev RegAddr := BitVec 5

/-- The 256 words of one block (00_scope.md), or the fewer words received so far. -/
abbrev Words := List Word

end Sys2Proof
end

