-- ==== Sys2Proof/Syntax.lean ====
section
/-! DEFINITION. The commands of the part: one constructor for each row of spec/opcode_table.json. -/
namespace Sys2Proof

/-- The outcome of a READ BLOCK, "which the world chooses" (R65). `corrected b` is CORRECTED(b + 1): 1 to 8 bits. -/
inductive ReadOutcome
  | clean
  | corrected (b : Fin 8)
  | uncorrectable
  deriving DecidableEq, Repr

/-- The outcome of a PROGRAM BLOCK (R66). -/
inductive ProgramOutcome
  | pass
  | fail
  deriving DecidableEq, Repr

/-- One command: a register access, or an event inside the part or on its reset line. `v` is the word written. A device
command's code is the low byte of the word written to CMD; `hi` is its high byte, which the layout of CMD leaves
undefined (R185, R200). -/
inductive Instr
  | submission (v : Word)
  | abortRequest (v : Word)
  | ptagWrite (v : Word)
  | pdataRead
  | pdataWrite (v : Word)
  | svcnextPop
  | patrolSegment (hi : BitVec 8)
  | patrolPass (hi : BitVec 8)
  | patrolAuto (hi : BitVec 8)
  | patrolStop (hi : BitVec 8)
  | reportBuild (hi : BitVec 8)
  | reportBuildCompletion
  | thresholdLoad (hi : BitVec 8)
  | conditionSave (hi : BitVec 8)
  | badCommand (v : Word)
  | rdataRead
  | rdataWrite (v : Word)
  | acauseWrite (v : Word)
  | aenableWrite (v : Word)
  | cfgaWrite (v : Word)
  | cfgbWrite (v : Word)
  | registerWrite (a : RegAddr) (v : Word)
  | softReset
  | powerOnReset
  | startUp
  | readBlockCompletion (outcome : ReadOutcome)
  | programBlockCompletion (outcome : ProgramOutcome)
  | quietTimerExpiry
  | gapTimerExpiry
  deriving DecidableEq, Repr

end Sys2Proof
end

