-- ==== Sys2Proof/Decode.lean ====
section
/-! DEFINITION. The words that spell a command by the bits of spec/opcode_table.json: no row of the table gives bits. -/
namespace Sys2Proof

/-- The command a word spells by the table's bits. Every row of the table has an empty list of fields and no fixed bits,
so no word spells a command. -/
def decodeTableWord (_nbits _w : Nat) : Option Instr := none

end Sys2Proof
end

