-- ==== Sys2Proof/Config.lean ====
section
/-! DEFINITION. What the manual leaves open: free values with no body, so that no proof can see them
(notes/assumptions/5.md, 6.md, 7.md). -/
namespace Sys2Proof.Config

/-- Word `k` of the data that draw number `n` of an undefined block returns (R66: "the block's content is undefined"). -/
opaque freeWord (n k : Nat) : Word

/-- How many words an abandoned REPORT_BUILD had written, taken modulo 256, at draw number `n` (R177: "the words already
written hold the new report and the rest hold what the buffer held before"). -/
opaque freeProgress (n : Nat) : Nat

/-- The integrity check of a state image, "a check value computed over every other field" (R150). The fields are given in
order: sequence, remap entries, retired spares, pending list, thresholds, raw counts, worst grades, resume LBN. -/
opaque imageCheck (sequence : Nat) (remap : List (Nat × Nat)) (retired pendingLbns thresholds raws worst : List Nat)
    (resume : Nat) : Nat

end Sys2Proof.Config
end

