-- ==== Sys2Proof/Machine/State.lean ====
section
/-! DEFINITION. The state of the part, one structure for each functional block (00_scope.md), and the state in power-on
reset. -/
namespace Sys2Proof.Machine

/-! ## Numbers of the part (00_scope.md, R62) -/

/-- A tag, 0 to 15. -/
abbrev TagNo := Fin 16

/-- A staging slot, 0 to 7. -/
abbrev SlotNo := Fin 8

/-- A condition by its place in the table: condition id k stands at k - 1 (R168). -/
abbrev CondId := Fin 12

/-- Storage by number, one canonical list: numbers strictly rising, and no entry for a number whose content is undefined.
It holds the array's blocks by PBN and the remap table by LBN. -/
abbrev Memory (α : Type) := List (Nat × α)

/-! ## Requests (chapter 1) -/

/-- The request kinds (section 1.1). -/
inductive Kind
  | read | write | check | zero
  deriving DecidableEq, Repr

/-- The tag states (section 1.2). -/
inductive TagState
  | free | held | queued | active | ending | done
  deriving DecidableEq, Repr

/-- The completion statuses (R23). -/
inductive Status
  | ok | recovered | mediaError | writeFault | aborted | writeProtected | journalFault
  deriving DecidableEq, Repr

/-- The results of a submission (R10). -/
inductive QResult
  | none | accepted | notReady | tagBusy | badKind | badCount | range | writeProtected
  deriving DecidableEq, Repr

/-- The current block of a READ or CHECK tag (R77). -/
structure CurrentBlock where
  lbn : Nat
  retries : Nat
  retryOwed : Bool
  inFlight : Bool
  deriving DecidableEq, Repr

/-- Where a program's words come from (R96). -/
inductive ProgramSource
  | slot (n : SlotNo)
  | zeroSource
  | patrolBuffer
  deriving DecidableEq, Repr

/-- The stage of a block in program (R96). -/
inductive Stage
  | inPlace | spare
  deriving DecidableEq, Repr

/-- A block in program (R96). -/
structure BlockInProgram where
  lbn : Nat
  source : ProgramSource
  stage : Stage
  target : Nat
  inFlight : Bool
  owed : Bool
  deriving DecidableEq, Repr

/-- The record of one tag (section 1.1). `moved` is "delivered or received" (R2). `passed` counts the blocks resolved by a
PASS (R24, R113). -/
structure Tag where
  state : TagState
  kind : Kind
  firstLbn : Nat
  count : Nat
  urgent : Bool
  noRetry : Bool
  arrival : Nat
  blockers : List TagNo
  issued : Nat
  completed : Nat
  moved : Nat
  passed : Nat
  worst : Nat
  retriesUsed : Nat
  reallocs : Nat
  uncorrCount : Nat
  firstFail : Option Nat
  needed : Option Nat
  abortMark : Bool
  wpMark : Bool
  soFar : Status
  final : Option Status
  cur : Option CurrentBlock
  prog : Option BlockInProgram
  deriving DecidableEq, Repr

/-- The record of a FREE tag: its fields other than the state "have no meaning" (section 1.1), so they take one fixed
value. DESIGN CHOICE, notes/assumptions/14.md. -/
def Tag.free : Tag where
  state := .free
  kind := .read
  firstLbn := 0
  count := 0
  urgent := false
  noRetry := false
  arrival := 0
  blockers := []
  issued := 0
  completed := 0
  moved := 0
  passed := 0
  worst := 0
  retriesUsed := 0
  reallocs := 0
  uncorrCount := 0
  firstFail := none
  needed := none
  abortMark := false
  wpMark := false
  soFar := .ok
  final := none
  cur := none
  prog := none

/-- The Request Unit: the tag table, the dispatch queue (R14), the arrival counter (R13) and its registers (R10, R19). -/
structure RequestUnit where
  tags : Vector Tag 16
  queue : List TagNo
  arrival : Nat
  qlbn : Word
  qcount : Word
  qctrl : Word
  qresult : QResult
  qresultTag : TagNo
  qabort : Word
  abortIgnored : Bool
  deriving DecidableEq, Repr

/-! ## Slots, Data Port and Service List (chapters 2 and 3) -/

/-- The slot states (section 2.2). -/
inductive SlotState
  | free | reserved | loading | full | draining | filling | programming
  deriving DecidableEq, Repr

/-- The record of one staging slot (R27). `data` lists the words the slot holds, word 0 first. -/
structure Slot where
  state : SlotState
  owner : Option TagNo
  lbn : Option Nat
  pos : Nat
  data : Words
  deriving DecidableEq, Repr

/-- A FREE slot (R29). -/
def Slot.free : Slot where
  state := .free
  owner := none
  lbn := none
  pos := 0
  data := []

/-- The Slot Pool. The free-slot list and the slot-wait list are computed (`freeSlots`, `slotWait`). -/
structure SlotPool where
  slots : Vector Slot 8
  deriving DecidableEq, Repr

/-- The Data Port (section 2.7). -/
structure DataPort where
  attached : TagNo
  miss : Bool
  deriving DecidableEq, Repr

/-- A completion record as the readout registers hold it (R24, R57). -/
structure Completion where
  tag : TagNo
  kind : Kind
  status : Status
  blocksDone : Nat
  firstFail : Option Nat
  worst : Nat
  retriesUsed : Nat
  uncorrCount : Nat
  reallocs : Nat
  deriving DecidableEq, Repr

/-- The Service List (R49) and the completion readout (R57); an absent readout is the status NONE. -/
structure ServiceUnit where
  list : List TagNo
  readout : Option Completion
  deriving DecidableEq, Repr

/-! ## The journal's image (R150) -/

/-- A state image (R150). `raws` are the raw counts of conditions 1, 2, 3, 4, 7, 8, 9, 10, 11, 12 in that order. -/
structure StateImage where
  sequence : Nat
  remap : Memory Nat
  retired : List Nat
  pendingLbns : List Nat
  thresholds : List Nat
  raws : List Nat
  worst : List Nat
  resume : Nat
  check : Nat
  deriving DecidableEq, Repr

/-! ## The Array Unit (chapter 4) -/

/-- The two array operations (R64). -/
inductive Operation
  | readBlock | programBlock
  deriving DecidableEq, Repr

/-- The block whose rule handles a completion (R64). -/
inductive Requester
  | tag (t : TagNo)
  | patrol
  | journal
  | none
  deriving DecidableEq, Repr

/-- The purpose of an operation (R64). -/
inductive Purpose
  | load | checkRead | retry | programInPlace | reallocation | patrolRead | refreshRead | refreshProgram
  | ringRead | ringProgram
  deriving DecidableEq, Repr

/-- Where read data goes, or where program data comes from (R64). -/
inductive DataPlace
  | slot (n : SlotNo)
  | patrolBuffer
  | imageBuffer
  | zeroSource
  | none
  deriving DecidableEq, Repr

/-- What a program writes: the words, or the image, that its source held at the grant. -/
inductive Payload
  | none
  | words (ws : Words)
  | image (i : StateImage)
  deriving DecidableEq, Repr

/-- The operation record (R64). -/
structure ArrayOp where
  operation : Operation
  pbn : Nat
  lbn : Option Nat
  requester : Requester
  purpose : Purpose
  data : DataPlace
  payload : Payload
  deriving DecidableEq, Repr

/-- The Array Unit: the operation in flight, and the array itself. A block that is not listed has undefined content. -/
structure ArrayUnit where
  op : Option ArrayOp
  blocks : Memory Words
  ring : Memory StateImage
  deriving DecidableEq, Repr

/-- What the arbiter can grant at one choice (R69, R70, R72). -/
inductive Grant
  | ringRead (p : Nat)
  | commitFirst
  | commitNext
  | load (t : TagNo)
  | checkRead (t : TagNo)
  | retry (t : TagNo)
  | program (t : TagNo)
  | reallocate (t : TagNo)
  | patrolRetry
  | refreshProgram
  | refreshReallocate
  | refreshRead
  | patrolRead
  deriving DecidableEq, Repr

/-- The class of a block's final read outcome, with its corrected bits (R81). -/
inductive ReadClass
  | clean
  | corrected (c : Nat)
  | retryRecovered (c : Nat)
  | uncorrectable
  deriving DecidableEq, Repr

/-! ## The Media Map (chapters 6 and 7) -/

/-- The remap table (R100), the retired-spare set (R101), the pending list (R118) with its overflow note (R122) and the
refresh list (R123). -/
structure MediaMap where
  remap : Memory Nat
  retired : List Nat
  pendingLbns : List Nat
  overflow : Nat
  refresh : List Nat
  deriving DecidableEq, Repr

/-! ## The Patrol Engine (chapter 8) -/

/-- The patrol states (R130). -/
inductive PatrolState
  | idle | waiting | running | gap
  deriving DecidableEq, Repr

/-- The patrol modes (R130). -/
inductive PatrolMode
  | segment | pass | auto
  deriving DecidableEq, Repr

/-- The patrol status codes (R131). -/
inductive PatrolStatus
  | neverRun | inProgress | segmentDone | passDone | stopped | haltedReset | haltedReadOnly
  deriving DecidableEq, Repr

/-- The background read outstanding (R140). `patrolRead` says its purpose: PATROL READ, or else REFRESH READ. `dropped`
says that a soft reset came while it was in flight (R148). -/
structure BackgroundRead where
  lbn : Nat
  patrolRead : Bool
  retries : Nat
  retryOwed : Bool
  inFlight : Bool
  cancelled : Bool
  dropped : Bool
  deriving DecidableEq, Repr

/-- The patrol buffer (R143). -/
structure PatrolBuffer where
  lbn : Option Nat
  valid : Bool
  words : Words
  deriving DecidableEq, Repr

/-- A patrol buffer that is invalid, its words discarded. -/
def PatrolBuffer.discarded : PatrolBuffer where
  lbn := none
  valid := false
  words := []

/-- The Patrol Engine (R130). A timer is stopped (`none`) or running with a length: milliseconds for the quiet timer,
minutes for the gap timer. -/
structure PatrolEngine where
  state : PatrolState
  mode : Option PatrolMode
  status : PatrolStatus
  resume : Nat
  quietTimer : Option Nat
  quietElapsed : Bool
  gapTimer : Option Nat
  bgRead : Option BackgroundRead
  buf : PatrolBuffer
  refreshBlock : Option BlockInProgram
  deriving DecidableEq, Repr

/-! ## The Journal (chapter 9) -/

/-- The store modes (R160). -/
inductive StoreMode
  | starting | ready | readOnly
  deriving DecidableEq, Repr

/-- A commit in progress (R152). -/
structure Commit where
  sequence : Nat
  attempts : Nat
  deriving DecidableEq, Repr

/-- What the image buffer holds (R152): a snapshot or an image read, or the words of a block with undefined content. -/
inductive ImageBuffer
  | nothing
  | image (i : StateImage)
  | undefined
  deriving DecidableEq, Repr

/-- The scan candidate (R152); its sequence is the image's. -/
structure Candidate where
  position : Nat
  image : StateImage
  deriving DecidableEq, Repr

/-- The Journal (R152). `scanNext` is the ring position whose read the start-up scan owes (R69). -/
structure Journal where
  mode : StoreMode
  lastStarted : Nat
  lastDone : Nat
  nextPos : Nat
  commitNeeded : Bool
  commit : Option Commit
  imageBuffer : ImageBuffer
  candidate : Option Candidate
  scanNext : Option Nat
  deriving DecidableEq, Repr

/-! ## The Condition Monitor, the Command Unit, configuration and attention (chapters 10 and 11) -/

/-- The fields of a condition record that change (R168). -/
structure Condition where
  raw : Nat
  grade : Nat
  worst : Nat
  threshold : Nat
  deriving DecidableEq, Repr

/-- The device commands (R200). -/
inductive Command
  | patrolSegment | patrolPass | patrolAuto | patrolStop | reportBuild | thresholdLoad | conditionSave
  deriving DecidableEq, Repr

/-- The command results (R188). -/
inductive CmdResult
  | none | ok | badCommand | notReady | refusedReadOnly | refusedImage | journalFault
  deriving DecidableEq, Repr

/-- The current command: a build with the report it fixed, or a command that waits for the sequence `needed`. -/
inductive Running
  | reportBuild (report : Vector Word 256)
  | thresholdLoad (needed : Nat)
  | conditionSave (needed : Nat)
  deriving DecidableEq, Repr

/-- The Command Unit (section 11.2). -/
structure CommandUnit where
  running : Option Running
  result : CmdResult
  resultCode : BitVec 8
  buffer : Vector Word 256
  rptr : BitVec 8
  deriving DecidableEq, Repr

/-- CFGA, CFGB, PGAP and CFG_REJECT (section 11.3). -/
structure ConfigRegs where
  refreshLevel : Nat
  retryLimit : Nat
  slotQuota : Nat
  quietCode : Nat
  segCode : Nat
  passGap : Word
  cfgReject : Bool
  deriving DecidableEq, Repr

/-- The latched causes at their ACAUSE positions, and AENABLE (section 11.4). Bit 0, SERVICE, is never latched: it is a
level (R58). -/
structure Attention where
  latched : BitVec 8
  enable : BitVec 8
  deriving DecidableEq, Repr

/-! ## The whole state -/

/-- The state of the part, with the commands that wait. -/
structure State where
  rstnLow : Bool
  lastRead : Word
  req : RequestUnit
  pool : SlotPool
  port : DataPort
  svc : ServiceUnit
  array : ArrayUnit
  map : MediaMap
  patrol : PatrolEngine
  jrnl : Journal
  cond : Vector Condition 12
  cmd : CommandUnit
  cfg : ConfigRegs
  attn : Attention
  freeDraws : Nat
  pending : List Instr
  deriving DecidableEq, Repr

/-- The factory default thresholds of conditions 1 to 12 (R168). -/
def defaultThresholds : List Nat := [10, 50, 60, 40, 20, 30, 10, 0, 5, 0, 50, 0]

/-- The power-on table of conditions (R183): raw values 0 but condition 5 at 96, grades 100, factory thresholds. -/
def powerOnConditions : Vector Condition 12 :=
  Vector.ofFn fun i => { raw := if i = 4 then 96 else 0, grade := 100, worst := 100,
                         threshold := defaultThresholds.getD i 0 }

/-- The part held in power-on reset (R199): RSTn is low, every block holds its power-on values, the array lists nothing
(notes/assumptions/3.md, 4.md), and no command waits. -/
def State.reset : State where
  rstnLow := true
  lastRead := 0
  req := { tags := Vector.replicate 16 Tag.free, queue := [], arrival := 0, qlbn := 0, qcount := 0, qctrl := 0,
           qresult := .none, qresultTag := 0, qabort := 0, abortIgnored := false }
  pool := { slots := Vector.replicate 8 Slot.free }
  port := { attached := 0, miss := false }
  svc := { list := [], readout := none }
  array := { op := none, blocks := [], ring := [] }
  map := { remap := [], retired := [], pendingLbns := [], overflow := 0, refresh := [] }
  patrol := { state := .idle, mode := none, status := .neverRun, resume := 0, quietTimer := none, quietElapsed := false,
              gapTimer := none, bgRead := none, buf := PatrolBuffer.discarded, refreshBlock := none }
  jrnl := { mode := .starting, lastStarted := 0, lastDone := 0, nextPos := 0, commitNeeded := false, commit := none,
            imageBuffer := .nothing, candidate := none, scanNext := none }
  cond := powerOnConditions
  cmd := { running := none, result := .none, resultCode := 0, buffer := Vector.replicate 256 0, rptr := 0 }
  cfg := { refreshLevel := 5, retryLimit := 2, slotQuota := 4, quietCode := 10, segCode := 2, passGap := 0,
           cfgReject := false }
  attn := { latched := 0, enable := 0 }
  freeDraws := 0
  pending := []

/-- Why the machine could stop with a fault. The spec gives the part none: what it cannot serve it answers with a port
miss, a refusal code or an ignored access, each a next state (notes/assumptions/1.md). -/
inductive Fault
  deriving DecidableEq, Repr

/-- Why a command could have no meaning. -/
inductive Refusal
  /-- A command of the table whose meaning is not written: raised by an arm of `exec` only. Safe: nothing is claimed of
  it. No arm raises it. -/
  | notModelled (mnemonic : String)
  deriving DecidableEq, Repr

end Sys2Proof.Machine
end

