-- ==== Sys2Proof/WellFormed.lean ====
section
/-! DEFINITION. Which commands stand for the row they name: BAD_COMMAND carries no defined code (R187) and REGISTER_WRITE
addresses no register whose write has a row of its own (R185). Every other operand is bounded by its type. -/
namespace Sys2Proof

/-- The seven command codes of CMD (R200). -/
def commandCodes : List (BitVec 8) := [0x01#8, 0x02#8, 0x03#8, 0x04#8, 0x10#8, 0x11#8, 0x12#8]

/-- The word addresses (byte offset ÷ 2) of the registers whose write has a row of its own: ACAUSE, AENABLE, QCTRL, PTAG,
PDATA, QABORT, CMD, RDATA, CFGA, CFGB (section 11.6). -/
def ownRowAddrs : List RegAddr :=
  [0x02#5, 0x03#5, 0x06#5, 0x09#5, 0x0B#5, 0x0C#5, 0x0D#5, 0x14#5, 0x15#5, 0x16#5]

/-- The word address of SRESET (offset 0x32). -/
def sresetAddr : RegAddr := 0x19#5

/-- A well-formed command. -/
def Instr.wf : Instr → Bool
  | .badCommand v => !commandCodes.contains (v.setWidth 8)
  | .registerWrite a v => !ownRowAddrs.contains a && !(a == sresetAddr && v == 1#16)
  | .submission _ | .abortRequest _ | .ptagWrite _ | .pdataRead | .pdataWrite _ | .svcnextPop
  | .patrolSegment _ | .patrolPass _ | .patrolAuto _ | .patrolStop _ | .reportBuild _ | .reportBuildCompletion
  | .thresholdLoad _ | .conditionSave _ | .rdataRead | .rdataWrite _ | .acauseWrite _ | .aenableWrite _
  | .cfgaWrite _ | .cfgbWrite _ | .softReset | .powerOnReset | .startUp | .readBlockCompletion _
  | .programBlockCompletion _ | .quietTimerExpiry | .gapTimerExpiry => true

end Sys2Proof
end

