-- ==== Sys2Proof/Machine/Operands.lean ====
section
/-! DEFINITION. The register layouts of section 11.6 (R200): the fields a written word carries, and the codes a read shows. -/
namespace Sys2Proof.Machine

/-! ## Fields of a written word -/

/-- Bits `lo` to `lo + len - 1` of a word, as a number. -/
def field (w : Word) (lo len : Nat) : Nat := (w.toNat >>> lo) % 2 ^ len

/-- The tag in bits 3:0 (QCTRL, PTAG). -/
def tagField (w : Word) : TagNo := ⟨w.toNat % 16, Nat.mod_lt _ (by decide)⟩

/-- The kind in bits 6:4 of QCTRL: 1 READ, 2 WRITE, 3 CHECK, 4 ZERO (R200). -/
def kindField (w : Word) : Option Kind :=
  match field w 4 3 with
  | 1 => some .read
  | 2 => some .write
  | 3 => some .check
  | 4 => some .zero
  | _ => none

/-- URGENT, bit 8 of QCTRL. -/
def urgentField (w : Word) : Bool := w.getLsbD 8

/-- NO_RETRY, bit 9 of QCTRL. -/
def noRetryField (w : Word) : Bool := w.getLsbD 9

/-- The low byte of a written word: the command code of CMD, the pointer of RPTR, the bits of ACAUSE and AENABLE. -/
def lowByte (w : Word) : BitVec 8 := w.setWidth 8

/-- The ALL code of QABORT (R200). -/
def abortAll : Word := 0x8000#16

/-- The code of a command (R200). -/
def Command.code : Command → BitVec 8
  | .patrolSegment => 0x01#8
  | .patrolPass => 0x02#8
  | .patrolAuto => 0x03#8
  | .patrolStop => 0x04#8
  | .reportBuild => 0x10#8
  | .thresholdLoad => 0x11#8
  | .conditionSave => 0x12#8

/-- The command with a code, if the code is defined (R200). -/
def commandOf (c : BitVec 8) : Option Command :=
  [.patrolSegment, .patrolPass, .patrolAuto, .patrolStop, .reportBuild, .thresholdLoad, .conditionSave].find?
    (fun k => Command.code k == c)

/-! ## Codes that a read shows (R200) -/

/-- A number placed at bit `lo` of a word. -/
def at16 (lo v : Nat) : Word := BitVec.ofNat 16 v <<< lo

/-- A flag placed at bit `lo` of a word. -/
def bit16 (lo : Nat) (b : Bool) : Word := at16 lo b.toNat

/-- The kind codes. -/
def Kind.code : Kind → Nat
  | .read => 1
  | .write => 2
  | .check => 3
  | .zero => 4

/-- The status codes of CPLSTAT; NONE is 0. -/
def Status.code : Status → Nat
  | .ok => 1
  | .recovered => 2
  | .mediaError => 3
  | .writeFault => 4
  | .aborted => 5
  | .writeProtected => 6
  | .journalFault => 7

/-- The result codes of QRESULT. -/
def QResult.code : QResult → Nat
  | .none => 0
  | .accepted => 1
  | .notReady => 2
  | .tagBusy => 3
  | .badKind => 4
  | .badCount => 5
  | .range => 6
  | .writeProtected => 7

/-- The result codes of CMDRES. -/
def CmdResult.code : CmdResult → Nat
  | .none => 0
  | .ok => 1
  | .badCommand => 2
  | .notReady => 3
  | .refusedReadOnly => 4
  | .refusedImage => 5
  | .journalFault => 6

/-- The store mode codes of STAT and of the report. -/
def StoreMode.code : StoreMode → Nat
  | .starting => 0
  | .ready => 1
  | .readOnly => 2

/-- The patrol status codes of STAT and of the report. -/
def PatrolStatus.code : PatrolStatus → Nat
  | .neverRun => 0
  | .inProgress => 1
  | .segmentDone => 2
  | .passDone => 3
  | .stopped => 4
  | .haltedReset => 5
  | .haltedReadOnly => 6

/-- The patrol state codes of STAT. -/
def PatrolState.code : PatrolState → Nat
  | .idle => 0
  | .waiting => 1
  | .running => 2
  | .gap => 3

/-- The code of the command that runs. -/
def Running.code : Running → BitVec 8
  | .reportBuild _ => Command.code .reportBuild
  | .thresholdLoad _ => Command.code .thresholdLoad
  | .conditionSave _ => Command.code .conditionSave

/-- SVCNEXT's kind codes: COMPLETE, DATA_IN, DATA_OUT; EMPTY is 0. -/
inductive PopKind
  | complete | dataIn | dataOut
  deriving DecidableEq, Repr

/-- The code of a pop's kind. -/
def PopKind.code : PopKind → Nat
  | .complete => 1
  | .dataIn => 2
  | .dataOut => 3

/-- The word a pop returns (R52): tag in 3:0, kind in 5:4, MORE in 15. An EMPTY pop reads 0x0000. -/
def svcWord (hit : Option (TagNo × PopKind)) (more : Bool) : Word :=
  match hit with
  | none => 0
  | some (t, k) => at16 0 t.val ||| at16 4 k.code ||| bit16 15 more

/-- CPLSTAT: tag in 3:0, kind in 6:4, status in 11:8; 0 after reset. -/
def cplStatWord : Option Completion → Word
  | none => 0
  | some c => at16 0 c.tag.val ||| at16 4 c.kind.code ||| at16 8 c.status.code

/-- CPLBLK: blocks_done. -/
def cplBlkWord : Option Completion → Word
  | none => 0
  | some c => at16 0 c.blocksDone

/-- CPLLBN: the first failing LBN, 0xFFFF when absent. -/
def cplLbnWord : Option Completion → Word
  | none => 0xFFFF#16
  | some c => match c.firstFail with
    | none => 0xFFFF#16
    | some n => at16 0 n

/-- CPLINFO, laid out by kind. -/
def cplInfoWord : Option Completion → Word
  | none => 0
  | some c => match c.kind with
    | .read => at16 0 c.worst ||| at16 8 c.retriesUsed
    | .check => at16 0 c.worst ||| at16 4 c.uncorrCount
    | .write => at16 0 c.reallocs
    | .zero => at16 0 c.reallocs

/-! ## Configuration words (R193, R194) -/

/-- The segment length in LBNs that a segment-length code gives. -/
def segLength (code : Nat) : Nat := 64 * 2 ^ code

/-- The refresh level field of CFGA, if valid. -/
def cfgaRefresh (w : Word) : Option Nat :=
  let v := field w 0 4
  if 1 ≤ v ∧ v ≤ 8 then some v else none

/-- The retry limit field of CFGA, if valid. -/
def cfgaRetry (w : Word) : Option Nat :=
  let v := field w 4 3
  if v ≤ 3 then some v else none

/-- The slot quota field of CFGA, if valid. -/
def cfgaQuota (w : Word) : Option Nat :=
  let v := field w 8 4
  if 1 ≤ v ∧ v ≤ 8 then some v else none

/-- The quiet code field of CFGB: every value is valid. -/
def cfgbQuiet (w : Word) : Nat := field w 0 8

/-- The segment-length code field of CFGB, if valid. -/
def cfgbSeg (w : Word) : Option Nat :=
  let v := field w 8 3
  if v ≤ 3 then some v else none

/-- The quiet time of a quiet code, in milliseconds (R136); 0 for code 0. -/
def quietTime (code : Nat) : Nat :=
  if code ≤ 100 then code * 10 else if code ≤ 200 then (code - 100) * 1000 else (code - 200) * 60000

end Sys2Proof.Machine
end

