-- ==== Sys2Proof/Machine/Flags.lean ====
section
/-! DEFINITION. Attention causes (section 11.4), grades, tripping and the verdict (chapter 10). -/
namespace Sys2Proof.Machine

/-! ## Attention causes -/

/-- The latched causes (R195). -/
inductive Cause
  | command | health | patrol | fault | port | cmdOverrun | start
  deriving DecidableEq, Repr

/-- The position of a cause in ACAUSE and AENABLE (R200). SERVICE stands at 0. -/
def Cause.pos : Cause → Nat
  | .command => 1
  | .health => 2
  | .patrol => 3
  | .fault => 4
  | .port => 5
  | .cmdOverrun => 6
  | .start => 7

/-- The ACAUSE bit of a cause. -/
def Cause.mask (c : Cause) : BitVec 8 := 1#8 <<< c.pos

/-- Latches a cause (R195). -/
def latch (c : Cause) (s : State) : State :=
  { s with attn := { s.attn with latched := s.attn.latched ||| c.mask } }

/-- Whether a latched cause is present. -/
def hasCause (c : Cause) (s : State) : Bool := s.attn.latched.getLsbD c.pos

/-- Every present cause, SERVICE included (R58, R195): what ACAUSE reads. -/
def causes (s : State) : BitVec 8 := s.attn.latched ||| (if s.svc.list.isEmpty then 0#8 else 1#8)

/-- ATTNn is driven low while a present cause is enabled (R196). -/
def attnLow (s : State) : Bool := (causes s &&& s.attn.enable) != 0#8

/-! ## Conditions -/

/-- The classes of a condition (R168). -/
inductive CondClass
  | prefail | advisory | info
  deriving DecidableEq, Repr

/-- The collections of a condition (R168). -/
inductive Collection
  | fg | bg | both | sys
  deriving DecidableEq, Repr

/-- Corrected reads, condition 1. -/
def CondId.correctedReads : CondId := 0
/-- Retry recoveries, condition 2. -/
def CondId.retryRecoveries : CondId := 1
/-- Uncorrectable reads, condition 3. -/
def CondId.uncorrectableReads : CondId := 2
/-- Reallocations, condition 4. -/
def CondId.reallocations : CondId := 3
/-- Spares remaining, condition 5. -/
def CondId.sparesRemaining : CondId := 4
/-- Pending blocks, condition 6. -/
def CondId.pendingBlocks : CondId := 5
/-- Program failures, condition 7. -/
def CondId.programFailures : CondId := 6
/-- Patrol passes, condition 8. -/
def CondId.patrolPasses : CondId := 7
/-- Refreshes, condition 9. -/
def CondId.refreshes : CondId := 8
/-- Journal commits, condition 10. -/
def CondId.journalCommits : CondId := 9
/-- Journal skips, condition 11. -/
def CondId.journalSkips : CondId := 10
/-- Power starts, condition 12. -/
def CondId.powerStarts : CondId := 11

/-- The class of each condition (R168). -/
def condClass (i : CondId) : CondClass :=
  match i.val with
  | 0 | 6 | 8 => .advisory
  | 7 | 9 | 11 => .info
  | _ => .prefail

/-- The collection of each condition (R168). -/
def condCollection (i : CondId) : Collection :=
  match i.val with
  | 4 | 5 | 9 | 10 | 11 => .sys
  | 7 | 8 => .bg
  | _ => .both

/-- The codes of class and collection in a report entry (R200). -/
def CondClass.code : CondClass → Nat
  | .prefail => 0
  | .advisory => 1
  | .info => 2

/-- The code of a collection in a report entry (R200). -/
def Collection.code : Collection → Nat
  | .fg => 0
  | .bg => 1
  | .both => 2
  | .sys => 3

/-- The grade of a raw value (R172). -/
def gradeOf (i : CondId) (raw : Nat) : Nat :=
  match i.val with
  | 0 => max 1 (100 - raw / 1024)
  | 1 => max 1 (100 - raw / 64)
  | 2 => max 1 (100 - raw / 4)
  | 3 => max 1 (100 - raw / 8)
  | 4 => 1 + 99 * raw / 96
  | 5 => 100 - 6 * raw
  | 6 => max 1 (100 - raw / 16)
  | 8 => max 1 (100 - raw / 256)
  | 10 => max 1 (100 - raw / 2)
  | _ => 100

/-- The limit of a raw count, of a sequence and of the arrival counter: 4,294,967,295 (R13, R159, R171). -/
def max32 : Nat := 4294967295

/-- A condition record with a new raw value, its grade and worst grade following (R172, R173). A raw value reported
unchanged causes no recomputation (R170). -/
def Condition.setRaw (i : CondId) (v : Nat) (c : Condition) : Condition :=
  if c.raw = v then c
  else { c with raw := v, grade := gradeOf i v, worst := min c.worst (gradeOf i v) }

/-- A cumulative record after one more event; at the limit nothing changes (R169, R171). -/
def Condition.bump (i : CondId) (c : Condition) : Condition :=
  if max32 ≤ c.raw then c else c.setRaw i (c.raw + 1)

/-- Replaces the record of condition `i`. -/
def State.setCond (s : State) (i : CondId) (c : Condition) : State := { s with cond := s.cond.set i.val c }

/-- Sets the raw value of condition `i` (R170). -/
def State.setRaw (s : State) (i : CondId) (v : Nat) : State := s.setCond i ((s.cond[i]).setRaw i v)

/-- One counting event of condition `i` (R169). -/
def State.bump (s : State) (i : CondId) : State := s.setCond i ((s.cond[i]).bump i)

/-- Whether a record of condition `i` is tripped (R174). -/
def Condition.tripped (i : CondId) (c : Condition) : Bool :=
  condClass i != .info && decide (1 ≤ c.threshold) && decide (c.grade ≤ c.threshold)

/-- Whether condition `i` is in the tripped set (R174). -/
def isTripped (s : State) (i : CondId) : Bool := (s.cond[i]).tripped i

/-- The tripped set (R174). -/
def trippedSet (s : State) : List CondId := (List.finRange 12).filter (isTripped s)

/-- The verdicts (R175). -/
inductive Verdict
  | good | advisory | failing
  deriving DecidableEq, Repr

/-- The verdict codes of STAT and of the report (R200). -/
def Verdict.code : Verdict → Nat
  | .good => 0
  | .advisory => 1
  | .failing => 2

/-- The verdict (R175). -/
def verdict (s : State) : Verdict :=
  let tr := trippedSet s
  if tr.any (fun i => condClass i == .prefail) then .failing
  else if tr.any (fun i => condClass i == .advisory) then .advisory
  else .good

/-- Latches HEALTH when the tripped set holds a condition that it did not hold in `s₀`, before the event (R176). -/
def latchHealth (s₀ s : State) : State :=
  if (List.finRange 12).any (fun i => isTripped s i && !isTripped s₀ i) then latch .health s else s

end Sys2Proof.Machine
end

