-- ==== Sys2Proof/Machine/Ops.lean ====
section
/-! DEFINITION. The shared operations: storage by number, tags and slots, the Media Map's lists, the journal's reasons, the
patrol's timers, and what closes every event (the queue, the slot grants, HEALTH, the arbiter). -/
namespace Sys2Proof.Machine

/-! ## Storage by number (the array's blocks, the remap table) -/

/-- The value stored at a number. -/
def Memory.find {α : Type} : Memory α → Nat → Option α
  | [], _ => none
  | (b, v) :: m, a => if b = a then some v else Memory.find m a

/-- Stores a value at its place, replacing the one there. -/
def Memory.put {α : Type} : Memory α → Nat → α → Memory α
  | [], a, v => [(a, v)]
  | (b, w) :: m, a, v =>
    if a < b then (a, v) :: (b, w) :: m
    else if a = b then (a, v) :: m
    else (b, w) :: Memory.put m a v

/-- Removes the entry of a number. -/
def Memory.drop {α : Type} : Memory α → Nat → Memory α
  | [], _ => []
  | (b, w) :: m, a => if b = a then m else (b, w) :: Memory.drop m a

/-- The canonical form: numbers strictly rising. -/
def Memory.wf {α : Type} : Memory α → Bool
  | [] => true
  | [_] => true
  | (a, _) :: (b, w) :: m => decide (a < b) && Memory.wf ((b, w) :: m)

/-! ## Fields of the state -/

/-- The record of a tag. -/
def State.tag (s : State) (t : TagNo) : Tag := s.req.tags[t]

/-- Replaces the record of a tag. -/
def State.setTag (s : State) (t : TagNo) (x : Tag) : State :=
  { s with req := { s.req with tags := s.req.tags.set t.val x } }

/-- Changes the record of a tag. -/
def State.modTag (s : State) (t : TagNo) (f : Tag → Tag) : State := s.setTag t (f (s.tag t))

/-- The record of a slot. -/
def State.slot (s : State) (n : SlotNo) : Slot := s.pool.slots[n]

/-- Replaces the record of a slot. -/
def State.setSlot (s : State) (n : SlotNo) (x : Slot) : State :=
  { s with pool := { s.pool with slots := s.pool.slots.set n.val x } }

/-! ## Tags and slots -/

/-- A tag is live in HELD, QUEUED, ACTIVE and ENDING (section 1.2). -/
def TagState.live : TagState → Bool
  | .free | .done => false
  | .held | .queued | .active | .ending => true

/-- WRITE and ZERO change blocks. -/
def Kind.writes : Kind → Bool
  | .write | .zero => true
  | .read | .check => false

/-- The tag whose operation is in flight. -/
def opTag (s : State) : Option TagNo :=
  match s.array.op with
  | some o => match o.requester with
    | .tag t => some t
    | .patrol | .journal | .none => none
  | none => none

/-- The slot that the operation in flight uses. -/
def opSlot (s : State) : Option SlotNo :=
  match s.array.op with
  | some o => match o.data with
    | .slot n => some n
    | .patrolBuffer | .imageBuffer | .zeroSource | .none => none
  | none => none

/-- The slots that a tag owns in the states `p`, lowest number first. -/
def slotsOf (s : State) (t : TagNo) (p : SlotState → Bool) : List SlotNo :=
  (List.finRange 8).filter fun n => (s.slot n).owner == some t && p (s.slot n).state

/-- Slot states that hold a READ block for the host (R41, R53). -/
def SlotState.readable : SlotState → Bool
  | .full | .draining => true
  | .free | .reserved | .loading | .filling | .programming => false

/-- Slot states that take the host's next word of a WRITE (R42, R53). -/
def SlotState.fillable : SlotState → Bool
  | .reserved | .filling => true
  | .free | .loading | .full | .draining | .programming => false

/-- Slot states with no array work of their own: what an abort frees at once (R45). -/
def SlotState.resting : SlotState → Bool
  | .reserved | .filling | .full | .draining => true
  | .free | .loading | .programming => false

/-- The free-slot list: the FREE slots in increasing order (R29). -/
def freeSlots (s : State) : List SlotNo := (List.finRange 8).filter fun n => (s.slot n).state == .free

/-- How many slots a tag owns (R28). -/
def heldCount (s : State) (t : TagNo) : Nat := (slotsOf s t fun _ => true).length

/-- Among slots, one with the lowest bound LBN (R41, R97). -/
def lowestBound (s : State) : List SlotNo → Option SlotNo
  | [] => none
  | n :: ns => match lowestBound s ns with
    | none => some n
    | some m => if (s.slot n).lbn.getD 0 ≤ (s.slot m).lbn.getD 0 then some n else some m

/-- The slot a PDATA read of an attached tag takes from (R41): the lowest-LBN FULL or DRAINING slot of a READ tag. -/
def readPortSlot (s : State) (t : TagNo) : Option SlotNo :=
  if (s.tag t).state.live && (s.tag t).kind == .read then lowestBound s (slotsOf s t SlotState.readable) else none

/-- The slot a PDATA write of an attached tag fills (R42): the RESERVED or FILLING slot of a WRITE tag. -/
def writePortSlot (s : State) (t : TagNo) : Option SlotNo :=
  if (s.tag t).state.live && (s.tag t).kind == .write then (slotsOf s t SlotState.fillable).head? else none

/-- Frees a slot (R29). -/
def freeSlot (n : SlotNo) (s : State) : State := s.setSlot n Slot.free

/-- Frees the slots that a tag owns in the states `p` (R29). -/
def freeSlotsOf (t : TagNo) (p : SlotState → Bool) (s : State) : State :=
  { s with pool := { s.pool with slots := Vector.ofFn fun n =>
      if (s.slot n).owner == some t && p (s.slot n).state then Slot.free else s.slot n } }

/-- Frees the slot a block in program takes its words from; the zero source and the patrol buffer are no slots. -/
def freeSource (p : ProgramSource) (s : State) : State :=
  match p with
  | .slot n => freeSlot n s
  | .zeroSource | .patrolBuffer => s

/-- Frees the slot that an operation used (R22, R47). -/
def freeDataSlot (d : DataPlace) (s : State) : State :=
  match d with
  | .slot n => freeSlot n s
  | .patrolBuffer | .imageBuffer | .zeroSource | .none => s

/-- Appends a tag to the service list unless it stands there (R50). -/
def serviceAppend (t : TagNo) (s : State) : State :=
  if s.svc.list.contains t then s else { s with svc := { s.svc with list := s.svc.list ++ [t] } }

/-- Brings a tag to DONE with its final status (R8): its slots are freed first (R29), and its current block and its block
in program are over. The queue, the blocker sets and the service list follow at the close of the event (`closeQueue`). -/
def finish (t : TagNo) (st : Status) (s : State) : State :=
  (freeSlotsOf t (fun _ => true) s).modTag t fun x =>
    { x with state := .done, final := some st, blockers := [], cur := none, prog := none }

/-- Makes an ACTIVE tag ENDING. -/
def becomeEnding (t : TagNo) (s : State) : State := s.modTag t fun x => { x with state := .ending }

/-- The commit a WRITE or ZERO tag still waits for: its needed sequence is present and above last-done (R6, R109). -/
def owesCommit (s : State) (x : Tag) : Bool :=
  match x.needed with
  | some q => decide (s.jrnl.lastDone < q)
  | none => false

/-! ## The Media Map -/

/-- The spares, PBN 3968 to 4063 (R62). -/
def spares : List Nat := (List.range 96).map (3968 + ·)

/-- Whether a remap entry names the PBN. -/
def isMapped (s : State) (pbn : Nat) : Bool := s.map.remap.any fun e => e.2 == pbn

/-- The free spares, lowest first (R101). -/
def freeSpares (s : State) : List Nat := spares.filter fun p => !isMapped s p && !s.map.retired.contains p

/-- Translation (R63). -/
def translate (s : State) (lbn : Nat) : Nat := (Memory.find s.map.remap lbn).getD lbn

/-- Replaces the pending list and reports its length as condition 6 (R118, R170). -/
def setPending (l : List Nat) (s : State) : State :=
  ({ s with map := { s.map with pendingLbns := l } } : State).setRaw CondId.pendingBlocks l.length

/-- Removes an LBN from the pending list if present (R121). -/
def removePending (lbn : Nat) (s : State) : State :=
  if s.map.pendingLbns.contains lbn then setPending (s.map.pendingLbns.erase lbn) s else s

/-- Removes an LBN from the refresh list if present (R125). -/
def removeRefresh (lbn : Nat) (s : State) : State :=
  { s with map := { s.map with refresh := s.map.refresh.erase lbn } }

/-- The greatest value of the overflow note (R122). -/
def maxOverflow : Nat := 65535

/-- Offers an LBN to the pending list (R119): it leaves the refresh list; then it is kept, appended, or refused and counted
by the overflow note (R122). -/
def offerPending (lbn : Nat) (s : State) : State :=
  let s := removeRefresh lbn s
  if s.map.pendingLbns.contains lbn then s
  else if s.map.pendingLbns.length < 16 then setPending (s.map.pendingLbns ++ [lbn]) s
  else { s with map := { s.map with overflow := min maxOverflow (s.map.overflow + 1) } }

/-- Offers an LBN to the refresh list (R124). -/
def offerRefresh (lbn : Nat) (s : State) : State :=
  if s.map.pendingLbns.contains lbn || s.map.refresh.contains lbn || decide (8 ≤ s.map.refresh.length) then s
  else { s with map := { s.map with refresh := s.map.refresh ++ [lbn] } }

/-- Reports the number of free spares as condition 5 (R101, R170). -/
def reportSpares (s : State) : State := s.setRaw CondId.sparesRemaining (freeSpares s).length

/-- A set of spares with one more member, in increasing order. -/
def insertSorted (p : Nat) : List Nat → List Nat
  | [] => [p]
  | q :: l => if p < q then p :: q :: l else if p = q then q :: l else q :: insertSorted p l

/-- Retires a spare (R101). -/
def retire (pbn : Nat) (s : State) : State :=
  { s with map := { s.map with retired := insertSorted pbn s.map.retired } }

/-- Maps an LBN to a spare: the entry is inserted at its place, or its PBN is replaced and the spare it named before is
retired (R104, step 1). -/
def remapTo (lbn pbn : Nat) (s : State) : State :=
  let old := Memory.find s.map.remap lbn
  let s := { s with map := { s.map with remap := Memory.put s.map.remap lbn pbn } }
  match old with
  | none => s
  | some p => retire p s

/-- What a PASS of a program does to the two lists (R126): first the pending list, then the refresh list. -/
def clearLists (lbn : Nat) (s : State) : State := removeRefresh lbn (removePending lbn s)

/-! ## Final read outcomes -/

/-- The class of a final outcome (R81); `retried` says that a retry came before it. -/
def classify (retried : Bool) (out : ReadOutcome) : ReadClass :=
  match out with
  | .uncorrectable => .uncorrectable
  | .clean => if retried then .retryRecovered 0 else .clean
  | .corrected b => if retried then .retryRecovered (b.val + 1) else .corrected (b.val + 1)

/-- The corrections of a class (R81). -/
def ReadClass.corrections : ReadClass → Nat
  | .corrected c => c
  | .retryRecovered c => c
  | .clean | .uncorrectable => 0

/-- Whether a successful block is weak under a refresh level (R81). -/
def ReadClass.weak (level : Nat) : ReadClass → Bool
  | .corrected c => decide (level ≤ c)
  | .retryRecovered _ => true
  | .clean | .uncorrectable => false

/-- Whether a class is a success. -/
def ReadClass.success : ReadClass → Bool
  | .uncorrectable => false
  | .clean | .corrected _ | .retryRecovered _ => true

/-- The hand-off to the lists (R82): a success leaves the pending list, and is then offered to the refresh list if weak; an
UNCORRECTABLE is offered to the pending list. -/
def handOffLists (lbn : Nat) (c : ReadClass) (s : State) : State :=
  if c.success then
    let s := removePending lbn s
    if c.weak s.cfg.refreshLevel then offerRefresh lbn s else s
  else offerPending lbn s

/-- The hand-off to the Condition Monitor (R83): one count per block. -/
def handOffCount (c : ReadClass) (s : State) : State :=
  match c with
  | .clean => s
  | .corrected _ => s.bump CondId.correctedReads
  | .retryRecovered _ => s.bump CondId.retryRecoveries
  | .uncorrectable => s.bump CondId.uncorrectableReads

/-- The hand-offs of a final read outcome (R82, R83). -/
def handOff (lbn : Nat) (c : ReadClass) (s : State) : State := handOffCount c (handOffLists lbn c s)

/-- What a final read outcome does to a tag's fields (R3, R86, R87, R91). -/
def Tag.takeRead (lbn level : Nat) (c : ReadClass) (x : Tag) : Tag :=
  { x with
    cur := none
    completed := x.completed + 1
    worst := max x.worst c.corrections
    uncorrCount := if !c.success && x.kind == .check then x.uncorrCount + 1 else x.uncorrCount
    firstFail := if c.success then x.firstFail else some (x.firstFail.getD lbn)
    soFar := if !c.success then .mediaError
             else if c.weak level && x.soFar == .ok then .recovered else x.soFar }

/-! ## The patrol's buffer, states and timers -/

/-- Discards the patrol buffer. -/
def discardBuffer (s : State) : State := { s with patrol := { s.patrol with buf := PatrolBuffer.discarded } }

/-- What a foreground or orphan program of an LBN does to what the patrol holds for it (R145). -/
def cancelPatrol (lbn : Nat) (s : State) : State :=
  let p := s.patrol
  let p := match p.refreshBlock with
    | some b => if b.lbn == lbn && b.owed then { p with refreshBlock := none, buf := PatrolBuffer.discarded } else p
    | none => if p.buf.valid && p.buf.lbn == some lbn then { p with buf := PatrolBuffer.discarded } else p
  let p := { p with bgRead := p.bgRead.map fun r => if r.lbn == lbn then { r with cancelled := true } else r }
  { s with patrol := p }

/-- Sets the patrol status; a code other than IN_PROGRESS latches PATROL (R131). -/
def setPatrolStatus (st : PatrolStatus) (s : State) : State :=
  let s := { s with patrol := { s.patrol with status := st } }
  if st == .inProgress then s else latch .patrol s

/-- The part is foreground-idle (R134). -/
def foregroundIdle (s : State) : Bool := s.req.queue.isEmpty

/-- Background is permitted (R134). -/
def bgPermitted (s : State) : Bool := foregroundIdle s && s.patrol.quietElapsed && s.jrnl.mode != .starting

/-- The quiet time has run out: a WAITING engine becomes RUNNING if background is now permitted (R134, R135). -/
def quietOver (s : State) : State :=
  let s := { s with patrol := { s.patrol with quietTimer := none, quietElapsed := true } }
  if bgPermitted s && s.patrol.state == .waiting then { s with patrol := { s.patrol with state := .running } } else s

/-- The part becomes foreground-idle: the quiet timer starts, or with code 0 the quiet time is over at once (R135). -/
def startQuiet (s : State) : State :=
  if s.cfg.quietCode = 0 then quietOver s
  else { s with patrol := { s.patrol with quietTimer := some (quietTime s.cfg.quietCode), quietElapsed := false } }

/-- The patrol state a start or the gap's end leads to (R137, R138). -/
def runOrWait (s : State) : PatrolState := if bgPermitted s then .running else .waiting

/-- The resume LBN after a patrol read of `n` (R132). -/
def nextResume (n : Nat) : Nat := if n = 3967 then 0 else n + 1

/-- Advances the resume LBN after a patrol read of `lbn` (R132). -/
def advanceResume (lbn : Nat) (s : State) : State :=
  { s with patrol := { s.patrol with resume := nextResume lbn } }

/-! ## Commands -/

/-- A command completes (R188): CMDRES is written, the current command is cleared, COMMAND is latched. -/
def completeCommand (code : BitVec 8) (r : CmdResult) (s : State) : State :=
  latch .command { s with cmd := { s.cmd with running := none, result := r, resultCode := code } }

/-- The needed sequence of a command that waits for a commit (R181, R182). -/
def Running.waitsFor : Running → Option Nat
  | .reportBuild _ => none
  | .thresholdLoad q => some q
  | .conditionSave q => some q

/-- The change to READ_ONLY completes a command that waits (R161, R181, R182). -/
def failWaitingCommand (s : State) : State :=
  match s.cmd.running with
  | none => s
  | some r => if r.waitsFor.isSome then completeCommand r.code .journalFault s else s

/-- A commit that passed completes a command whose needed sequence it covers (R155, R181, R182). -/
def releaseCommand (sequence : Nat) (s : State) : State :=
  match s.cmd.running with
  | none => s
  | some r => match r.waitsFor with
    | none => s
    | some q => if q ≤ sequence then completeCommand r.code .ok s else s

/-! ## Owed reallocations that no spare will serve -/

/-- Resolves a tag's block with an owed reallocation where none is permitted (R114, R115): the LBN is offered to the
pending list and the tag ends. -/
def endUnresolved (t : TagNo) (lbn : Nat) (st : Status) (s : State) : State :=
  finish t st ((offerPending lbn s).modTag t fun x => { x with completed := x.completed + 1 })

/-- Spare exhaustion of a tag's block (R106). -/
def exhaust (t : TagNo) (lbn : Nat) (s : State) : State :=
  let s := freeSlotsOf t (fun _ => true) (offerPending lbn s)
  let s := s.modTag t fun x =>
    { x with completed := x.completed + 1, prog := none, soFar := .writeFault, firstFail := some (x.firstFail.getD lbn) }
  if owesCommit s (s.tag t) then becomeEnding t s else finish t .writeFault s

/-- Resolves the owed reallocation of a tag, if it has one that cannot be served: the tag is marked, the store is READ_ONLY,
or no spare is free. -/
def resolveOwedTag (s : State) (t : TagNo) : State :=
  let x := s.tag t
  match x.prog with
  | none => s
  | some b =>
    if !b.owed then s
    else if x.abortMark then endUnresolved t b.lbn .aborted s
    else if x.wpMark || s.jrnl.mode == .readOnly then endUnresolved t b.lbn .writeProtected s
    else if (freeSpares s).isEmpty then exhaust t b.lbn s
    else s

/-- The same for the refresh block (R106, R115, R147): "with a patrol block last" (R107). -/
def resolveOwedRefresh (s : State) : State :=
  match s.patrol.refreshBlock with
  | none => s
  | some b =>
    if b.owed && (s.jrnl.mode == .readOnly || (freeSpares s).isEmpty) then
      discardBuffer (offerPending b.lbn { s with patrol := { s.patrol with refreshBlock := none } })
    else s

/-- Every owed reallocation that cannot be served is resolved, in dispatch-queue order, the patrol's last (R107, R120). -/
def resolveOwed (s : State) : State := resolveOwedRefresh (s.req.queue.foldl resolveOwedTag s)

/-! ## The change to READ_ONLY (R161) -/

/-- What the change does to one tag (R18, R46, R115). -/
def readOnlyTag (s : State) (t : TagNo) : State :=
  let x := s.tag t
  if !x.kind.writes then s
  else match x.state with
    | .free | .done => s
    | .held | .queued => finish t .writeProtected s
    | .ending => finish t .journalFault s
    | .active =>
      if opTag s = some t then
        if x.abortMark then s
        else (freeSlotsOf t SlotState.resting s).modTag t fun x => { x with wpMark := true }
      else match x.prog with
        | some b => if b.owed then endUnresolved t b.lbn .writeProtected s else finish t .writeProtected s
        | none => finish t .writeProtected s

/-- The final outcome of a background read that served an LBN: the hand-offs, and the resume LBN of a PATROL READ
(R141, R147). -/
def closeBgRead (r : BackgroundRead) (c : ReadClass) (s : State) : State :=
  let s := handOff r.lbn c { s with patrol := { s.patrol with bgRead := none } }
  if r.patrolRead then advanceResume r.lbn s else s

/-- The patrol halts (R147). -/
def haltPatrol (s : State) : State :=
  let s := if s.patrol.state == .idle then s
    else setPatrolStatus .haltedReadOnly { s with patrol := { s.patrol with state := .idle, mode := none } }
  let s := resolveOwedRefresh (discardBuffer { s with patrol := { s.patrol with gapTimer := none } })
  match s.patrol.bgRead with
  | none => s
  | some r => if r.retryOwed then closeBgRead r .uncorrectable s else s

/-- The store mode becomes READ_ONLY (R161). -/
def becomeReadOnly (s : State) : State :=
  let s := latch .fault { s with jrnl := { s.jrnl with mode := .readOnly } }
  failWaitingCommand (haltPatrol (s.req.queue.foldl readOnlyTag s))

/-! ## Commit reasons (R153) -/

/-- A commit reason with no waiter. -/
def commitReason (s : State) : State := { s with jrnl := { s.jrnl with commitNeeded := true } }

/-- The needed sequence of a reason made now (R153). -/
def neededNow (s : State) : Nat := s.jrnl.lastStarted + 1

/-- A commit reason that a tag's program makes: the tag records its needed sequence unless it carries the abort mark
(R108). -/
def commitReasonFor (t : TagNo) (s : State) : State :=
  let s := commitReason s
  s.modTag t fun x => if x.abortMark then x else { x with needed := some (max (x.needed.getD 0) (neededNow s)) }

/-- After a reason's own effects: with the sequence exhausted the store mode becomes READ_ONLY (R159). -/
def checkSequence (s : State) : State :=
  if s.jrnl.commitNeeded && decide (max32 ≤ s.jrnl.lastStarted) && s.jrnl.mode == .ready then becomeReadOnly s else s

/-! ## The close of an event -/

/-- A HELD tag loses the blockers that are no longer live, and becomes QUEUED when none is left (R4, R17). -/
def releaseTag (s : State) (x : Tag) : Tag :=
  if x.state == .held then
    let bs := x.blockers.filter fun b => (s.tag b).state.live
    { x with blockers := bs, state := if bs.isEmpty then .queued else .held }
  else x

/-- The queue after an event that began in `s₀`: tags that reached DONE are appended to the service list in the order of
the queue before the event (R51), leave the queue and the blocker sets (R8, R17); an emptied queue resets the arrival
counter (R13) and starts the quiet timer (R135). -/
def closeQueue (s₀ s : State) : State :=
  let dones := s₀.req.queue.filter fun t => (s.tag t).state == .done
  let s := dones.foldl (fun s t => serviceAppend t s) s
  let tags := Vector.ofFn fun t : TagNo => releaseTag s (s.req.tags[t])
  let queue := s.req.queue.filter fun t => (s.tag t).state.live
  let s := { s with req := { s.req with tags := tags, queue := queue } }
  if queue.isEmpty && !s₀.req.queue.isEmpty then startQuiet { s with req := { s.req with arrival := 0 } } else s

/-- The conditions of R30 and R31 but for R32. -/
def wantsSlot (s : State) (t : TagNo) : Bool :=
  let x := s.tag t
  (x.state == .held || x.state == .queued || x.state == .active) && !x.abortMark &&
    decide (heldCount s t < s.cfg.slotQuota) &&
    match x.kind with
    | .read => decide (x.issued + (slotsOf s t (· == .reserved)).length < x.count)
    | .write => !x.wpMark && decide (x.moved < x.count) && (slotsOf s t SlotState.fillable).isEmpty
    | .check | .zero => false

/-- The slot-wait list (R33): the eligible tags in dispatch-queue order; HELD tags only while no QUEUED or ACTIVE tag is
eligible (R32). -/
def slotWait (s : State) : List TagNo :=
  let ts := s.req.queue.filter (wantsSlot s)
  let run := ts.filter fun t => (s.tag t).state != .held
  if run.isEmpty then ts else run

/-- Grants a slot as RESERVED (R34); a WRITE tag gains a reason for attention. -/
def reserveSlot (n : SlotNo) (t : TagNo) (s : State) : State :=
  let s := s.setSlot n { state := .reserved, owner := some t, lbn := none, pos := 0, data := [] }
  if (s.tag t).kind == .write then serviceAppend t s else s

/-- The grant, repeated until a list is empty (R34): at most `fuel` times, and no more than eight slots are free. -/
def grantSlots : Nat → State → State
  | 0, s => s
  | fuel + 1, s => match freeSlots s, slotWait s with
    | n :: _, t :: _ => grantSlots fuel (reserveSlot n t s)
    | _, _ => s

/-! ## The arbiter (section 4.3) -/

/-- The journal work that is runnable (R69). With the unit idle, a commit in progress owes its next attempt. -/
def journalWork (s : State) : Option Grant :=
  match s.jrnl.scanNext with
  | some p => if s.jrnl.mode == .starting then some (.ringRead p) else none
  | none =>
    if s.jrnl.mode == .readOnly then none
    else if s.jrnl.commit.isSome then some .commitNext
    else if s.jrnl.commitNeeded then some .commitFirst
    else none

/-- The first operation of a tag that is runnable (R70, R71, R73). -/
def tagWork (s : State) (t : TagNo) : Option Grant :=
  let x := s.tag t
  if !(x.state == .queued || x.state == .active) || x.abortMark || x.wpMark then none
  else match x.kind with
    | .read => match x.cur with
      | some c => if c.retryOwed then some (.retry t) else none
      | none => if (slotsOf s t (· == .reserved)).isEmpty then none else some (.load t)
    | .check => match x.cur with
      | some c => if c.retryOwed then some (.retry t) else none
      | none => if x.issued < x.count then some (.checkRead t) else none
    | .write =>
      if s.jrnl.mode == .readOnly then none
      else match x.prog with
        | some b => if b.owed && !(freeSpares s).isEmpty then some (.reallocate t) else none
        | none => if (slotsOf s t (· == .full)).isEmpty then none else some (.program t)
    | .zero =>
      if s.jrnl.mode == .readOnly then none
      else match x.prog with
        | some b => if b.owed && !(freeSpares s).isEmpty then some (.reallocate t) else none
        | none => if x.issued < x.count then some (.program t) else none

/-- The foreground work: the first tag in dispatch order with a runnable operation (R70). -/
def foregroundWork (s : State) : Option Grant := s.req.queue.findSome? (tagWork s)

/-- The background work (R72), which needs background permitted and the store READY (R140, R143, R146). -/
def backgroundWork (s : State) : Option Grant :=
  let p := s.patrol
  if !(bgPermitted s && s.jrnl.mode == .ready) then none
  else match p.bgRead, p.refreshBlock with
    | some r, _ => if r.retryOwed then some .patrolRetry else none
    | none, some b => if b.owed && !(freeSpares s).isEmpty then some .refreshReallocate else none
    | none, none =>
      if p.buf.valid then some .refreshProgram
      else if !s.map.refresh.isEmpty then some .refreshRead
      else if p.state == .running then some .patrolRead
      else none

/-- The arbiter's choice: journal, then foreground, then background (R68). -/
def choose (s : State) : Option Grant :=
  (journalWork s).or ((foregroundWork s).or (backgroundWork s))

/-- Makes the unit busy with an operation (R64). -/
def begin (o : ArrayOp) (s : State) : State := { s with array := { s.array with op := some o } }

/-- A QUEUED tag becomes ACTIVE at its first grant (R5). -/
def Tag.activate (x : Tag) : Tag := if x.state == .queued then { x with state := .active } else x

/-- A ring operation: PBN 4064 + p (R62). -/
def ringOp (operation : Operation) (purpose : Purpose) (p : Nat) (payload : Payload) : ArrayOp :=
  { operation := operation, pbn := 4064 + p, lbn := none, requester := .journal, purpose := purpose,
    data := .imageBuffer, payload := payload }

/-- A READ BLOCK that serves an LBN, at its translation (R63). -/
def readOp (s : State) (lbn : Nat) (r : Requester) (purpose : Purpose) (d : DataPlace) : ArrayOp :=
  { operation := .readBlock, pbn := translate s lbn, lbn := some lbn, requester := r, purpose := purpose, data := d,
    payload := .none }

/-- A PROGRAM BLOCK of an LBN at a PBN. -/
def programOp (lbn pbn : Nat) (r : Requester) (purpose : Purpose) (d : DataPlace) (ws : Words) : ArrayOp :=
  { operation := .programBlock, pbn := pbn, lbn := some lbn, requester := r, purpose := purpose, data := d,
    payload := .words ws }

/-- The zero source: 256 words of 0 (R66). -/
def zeroWords : Words := List.replicate 256 0

/-- The data place and the words of a program's source (R66). -/
def sourceData (s : State) : ProgramSource → DataPlace × Words
  | .slot n => (.slot n, (s.slot n).data)
  | .zeroSource => (.zeroSource, zeroWords)
  | .patrolBuffer => (.patrolBuffer, s.patrol.buf.words)

/-- The order in which an image lists the ten raw counts (R150). -/
def imageRawIds : List CondId := [0, 1, 2, 3, 6, 7, 8, 9, 10, 11]

/-- The snapshot of a commit (R150, R154), with its integrity check over the other fields. -/
def snapshot (s : State) (sequence : Nat) : StateImage :=
  let thresholds := (List.finRange 12).map fun i => (s.cond[i]).threshold
  let raws := imageRawIds.map fun i => (s.cond[i]).raw
  let worst := (List.finRange 12).map fun i => (s.cond[i]).worst
  { sequence := sequence, remap := s.map.remap, retired := s.map.retired, pendingLbns := s.map.pendingLbns,
    thresholds := thresholds, raws := raws, worst := worst, resume := s.patrol.resume,
    check := Config.imageCheck sequence s.map.remap s.map.retired s.map.pendingLbns thresholds raws worst
      s.patrol.resume }

/-- The image that the buffer holds, as a payload. -/
def ImageBuffer.payload : ImageBuffer → Payload
  | .image i => .image i
  | .nothing | .undefined => .none

/-- Grants a ring read of the start-up scan (R163). -/
def grantRingRead (p : Nat) (s : State) : State :=
  begin (ringOp .readBlock .ringRead p .none) { s with jrnl := { s.jrnl with scanNext := none } }

/-- Grants a commit's first attempt (R154). -/
def grantCommitFirst (s : State) : State :=
  let q := neededNow s
  let i := snapshot s q
  begin (ringOp .programBlock .ringProgram s.jrnl.nextPos (.image i))
    { s with jrnl := { s.jrnl with imageBuffer := .image i, lastStarted := q, commitNeeded := false,
                                   commit := some { sequence := q, attempts := 1 } } }

/-- Grants a commit's next attempt, from the unchanged image buffer (R156). -/
def grantCommitNext (s : State) : State :=
  begin (ringOp .programBlock .ringProgram s.jrnl.nextPos s.jrnl.imageBuffer.payload)
    { s with jrnl := { s.jrnl with commit := s.jrnl.commit.map fun c => { c with attempts := c.attempts + 1 } } }

/-- Grants a READ tag's next load into its lowest-numbered RESERVED slot (R36, R78). -/
def grantLoad (t : TagNo) (s : State) : State :=
  match slotsOf s t (· == .reserved) with
  | [] => s
  | n :: _ =>
    let x := s.tag t
    let lbn := x.firstLbn + x.issued
    let s := s.setSlot n { s.slot n with state := .loading, lbn := some lbn }
    let s := s.setTag t { x.activate with
      issued := x.issued + 1
      cur := some { lbn := lbn, retries := 0, retryOwed := false, inFlight := true } }
    begin (readOp s lbn (.tag t) .load (.slot n)) s

/-- Grants a CHECK tag's next read (R78). -/
def grantCheckRead (t : TagNo) (s : State) : State :=
  let x := s.tag t
  let lbn := x.firstLbn + x.issued
  let s := s.setTag t { x.activate with
    issued := x.issued + 1
    cur := some { lbn := lbn, retries := 0, retryOwed := false, inFlight := true } }
  begin (readOp s lbn (.tag t) .checkRead .none) s

/-- Grants the retry of a tag's current block (R80). -/
def grantRetry (t : TagNo) (s : State) : State :=
  let x := s.tag t
  match x.cur with
  | none => s
  | some c =>
    let d : DataPlace := match slotsOf s t (· == .loading) with
      | [] => .none
      | n :: _ => .slot n
    let s := s.setTag t { x with
      retriesUsed := if x.kind == .read then x.retriesUsed + 1 else x.retriesUsed
      cur := some { c with retries := c.retries + 1, retryOwed := false, inFlight := true } }
    begin (readOp s c.lbn (.tag t) .retry d) s

/-- Grants a tag's program in place (R97): a WRITE tag's FULL slot with the lowest bound LBN, or a ZERO tag's next LBN. -/
def grantProgram (t : TagNo) (s : State) : State :=
  let x := s.tag t
  let go (lbn : Nat) (src : ProgramSource) (s : State) : State :=
    let pbn := translate s lbn
    let (d, ws) := sourceData s src
    begin (programOp lbn pbn (.tag t) .programInPlace d ws)
      (s.setTag t { x.activate with
        issued := x.issued + 1
        prog := some { lbn := lbn, source := src, stage := .inPlace, target := pbn, inFlight := true, owed := false } })
  match x.kind with
  | .write => match lowestBound s (slotsOf s t (· == .full)) with
    | none => s
    | some n => go ((s.slot n).lbn.getD 0) (.slot n) (s.setSlot n { s.slot n with state := .programming })
  | .zero => go (x.firstLbn + x.issued) .zeroSource s
  | .read | .check => s

/-- A block in program whose next spare program is granted (R103). -/
def BlockInProgram.onSpare (b : BlockInProgram) (pbn : Nat) : BlockInProgram :=
  { b with stage := .spare, target := pbn, owed := false, inFlight := true }

/-- Grants a tag's owed reallocation, to the lowest free spare (R103). -/
def grantReallocate (t : TagNo) (s : State) : State :=
  let x := s.tag t
  match x.prog, freeSpares s with
  | some b, pbn :: _ =>
    let (d, ws) := sourceData s b.source
    begin (programOp b.lbn pbn (.tag t) .reallocation d ws) (s.setTag t { x with prog := some (b.onSpare pbn) })
  | _, _ => s

/-- Grants the retry of the background read (R140). -/
def grantPatrolRetry (s : State) : State :=
  match s.patrol.bgRead with
  | none => s
  | some r =>
    begin (readOp s r.lbn .patrol .retry .patrolBuffer)
      { s with patrol := { s.patrol with
          bgRead := some { r with retries := r.retries + 1, retryOwed := false, inFlight := true } } }

/-- Grants the refresh program of the valid patrol buffer (R143). -/
def grantRefreshProgram (s : State) : State :=
  let lbn := s.patrol.buf.lbn.getD 0
  let pbn := translate s lbn
  begin (programOp lbn pbn .patrol .refreshProgram .patrolBuffer s.patrol.buf.words)
    { s with patrol := { s.patrol with
        refreshBlock := some { lbn := lbn, source := .patrolBuffer, stage := .inPlace, target := pbn, inFlight := true,
                               owed := false } } }

/-- Grants the reallocation owed by a failed refresh program (R144). -/
def grantRefreshReallocate (s : State) : State :=
  match s.patrol.refreshBlock, freeSpares s with
  | some b, pbn :: _ =>
    begin (programOp b.lbn pbn .patrol .reallocation .patrolBuffer s.patrol.buf.words)
      { s with patrol := { s.patrol with refreshBlock := some (b.onSpare pbn) } }
  | _, _ => s

/-- A new background read record, in flight (R140). -/
def newBgRead (lbn : Nat) (patrolRead : Bool) : BackgroundRead :=
  { lbn := lbn, patrolRead := patrolRead, retries := 0, retryOwed := false, inFlight := true, cancelled := false,
    dropped := false }

/-- Grants a read of the refresh list's head, which leaves the list (R125, R146). -/
def grantRefreshRead (s : State) : State :=
  match s.map.refresh with
  | [] => s
  | lbn :: l =>
    begin (readOp s lbn .patrol .refreshRead .patrolBuffer)
      { s with map := { s.map with refresh := l }
               patrol := { s.patrol with bgRead := some (newBgRead lbn false) } }

/-- Grants a patrol read of the resume LBN (R140). -/
def grantPatrolRead (s : State) : State :=
  begin (readOp s s.patrol.resume .patrol .patrolRead .patrolBuffer)
    { s with patrol := { s.patrol with bgRead := some (newBgRead s.patrol.resume true) } }

/-- What a grant does. -/
def applyGrant (g : Grant) (s : State) : State :=
  match g with
  | .ringRead p => grantRingRead p s
  | .commitFirst => grantCommitFirst s
  | .commitNext => grantCommitNext s
  | .load t => grantLoad t s
  | .checkRead t => grantCheckRead t s
  | .retry t => grantRetry t s
  | .program t => grantProgram t s
  | .reallocate t => grantReallocate t s
  | .patrolRetry => grantPatrolRetry s
  | .refreshProgram => grantRefreshProgram s
  | .refreshReallocate => grantRefreshReallocate s
  | .refreshRead => grantRefreshRead s
  | .patrolRead => grantPatrolRead s

/-- The arbiter: with the unit idle, the first runnable operation is granted (R68). -/
def arbitrate (s : State) : State :=
  if s.array.op.isSome then s
  else match choose s with
    | none => s
    | some g => applyGrant g s

/-- The close of an event that began in `s₀` and whose own effects gave `s`: the queue and the service list (R8, R51), the
slot grants (R34), HEALTH (R176), the arbiter's choice (R68). -/
def settle (s₀ s : State) : State := arbitrate (latchHealth s₀ (grantSlots 8 (closeQueue s₀ s)))

/-! ## Outcomes -/

/-- The outcome of every command: the part never stops. -/
abbrev Result := Host.Outcome State Fault Refusal

/-- A bus access is taken only while RSTn is high (R185). -/
def busAccess (s : State) (f : State → State) : Result := .next (if s.rstnLow then s else f s)

end Sys2Proof.Machine
end

