-- ==== Sys2Proof/Machine/Requests.lean ====
section
/-! DEFINITION. SUBMISSION (R11) and ABORT_REQUEST (R19). -/
namespace Sys2Proof.Machine

/-! ## SUBMISSION -/

/-- The greatest count of a kind (R11). -/
def maxBlocks : Kind → Nat
  | .read | .write => 16
  | .check | .zero => 256

/-- The check of a submission, in the order of R11: the kind, or the first refusal. -/
def checkSubmission (v : Word) (s : State) : Except QResult Kind :=
  let count := s.req.qcount.toNat
  if s.jrnl.mode == .starting then .error .notReady
  else if (s.tag (tagField v)).state != .free then .error .tagBusy
  else match kindField v with
    | none => .error .badKind
    | some k =>
      if count = 0 ∨ maxBlocks k < count then .error .badCount
      else if 3968 < s.req.qlbn.toNat + count then .error .range
      else if k.writes && s.jrnl.mode == .readOnly then .error .writeProtected
      else .ok k

/-- Two ranges share an LBN (R16). -/
def overlaps (x y : Tag) : Bool :=
  decide (x.firstLbn < y.firstLbn + y.count) && decide (y.firstLbn < x.firstLbn + x.count)

/-- A tag in the queue that a new request must wait for (R16). -/
def conflicts (x y : Tag) : Bool := overlaps x y && (x.kind.writes || y.kind.writes)

/-- The blocker set of a new request (R16). -/
def blockerSet (s : State) (x : Tag) : List TagNo := s.req.queue.filter fun u => conflicts x (s.tag u)

/-- The queue with a new tag at its place (R14): urgent tags before the others, each group in order of arrival. -/
def enqueue (s : State) (t : TagNo) (urgent : Bool) : List TagNo :=
  if urgent then
    s.req.queue.takeWhile (fun u => (s.tag u).urgent) ++ t :: s.req.queue.dropWhile (fun u => (s.tag u).urgent)
  else s.req.queue ++ [t]

/-- Renumbering (R13): arrival numbers 0, 1, 2, … in the order of the existing ones. -/
def renumber (s : State) : State :=
  let tags := Vector.ofFn fun t : TagNo =>
    let x := s.req.tags[t]
    if s.req.queue.contains t then
      { x with arrival := (s.req.queue.filter fun u => decide ((s.tag u).arrival < x.arrival)).length }
    else x
  { s with req := { s.req with tags := tags, arrival := s.req.queue.length } }

/-- The record of a new request (R1). -/
def newTag (v : Word) (k : Kind) (s : State) : Tag :=
  { Tag.free with
    state := .queued
    kind := k
    firstLbn := s.req.qlbn.toNat
    count := s.req.qcount.toNat
    urgent := urgentField v
    noRetry := noRetryField v
    arrival := s.req.arrival }

/-- The acceptance ends background-permitted: the quiet timer is stopped and cleared, a RUNNING patrol becomes WAITING
(R12, R134, R135). -/
def endQuiet (s : State) : State :=
  { s with patrol := { s.patrol with
      quietTimer := none
      quietElapsed := false
      state := if s.patrol.state == .running then .waiting else s.patrol.state } }

/-- Acceptance (R12). -/
def accept (v : Word) (k : Kind) (s : State) : State :=
  let s := if max32 ≤ s.req.arrival ∧ s.req.queue ≠ [] then renumber s else s
  let x := newTag v k s
  let bs := blockerSet s x
  let t := tagField v
  let x := { x with blockers := bs, state := if bs.isEmpty then .queued else .held }
  let queue := enqueue s t x.urgent
  let s := s.setTag t x
  endQuiet { s with req := { s.req with queue := queue, arrival := s.req.arrival + 1 } }

/-- QCTRL takes the value written, QRESULT the result with the tag field (R10, R200). -/
def setQResult (v : Word) (r : QResult) (s : State) : State :=
  { s with req := { s.req with qctrl := v, qresult := r, qresultTag := tagField v } }

/-- A write to QCTRL (R11, R12). -/
def submit (v : Word) (s : State) : State :=
  match checkSubmission v s with
  | .error r => setQResult v r s
  | .ok k => settle s (setQResult v .accepted (accept v k s))

/-- SUBMISSION. -/
def execSubmission (v : Word) (s : State) : Result := busAccess s (submit v)

/-! ## ABORT_REQUEST -/

/-- What an abort does to one live tag (R20, R21, R45, R93, R114). A write-protect-marked tag keeps that mark alone
(R18). -/
def abortTag (s : State) (t : TagNo) : State :=
  let x := s.tag t
  match x.state with
  | .free | .done => s
  | .held | .queued => finish t .aborted s
  | .active | .ending =>
    if opTag s = some t then
      if x.wpMark || x.abortMark then s
      else (freeSlotsOf t SlotState.resting s).modTag t fun x => { x with abortMark := true }
    else match x.cur, x.prog with
      | some c, _ =>
        finish t .aborted ((handOff c.lbn .uncorrectable s).modTag t (Tag.takeRead c.lbn s.cfg.refreshLevel .uncorrectable))
      | none, some b => endUnresolved t b.lbn .aborted s
      | none, none => finish t .aborted s

/-- Sets or clears ABORT_IGNORED. -/
def setAbortIgnored (b : Bool) (s : State) : State := { s with req := { s.req with abortIgnored := b } }

/-- An abort of one named tag (R19). -/
def abortOne (t : TagNo) (s : State) : State :=
  let x := s.tag t
  match x.state with
  | .free => setAbortIgnored true s
  | .done => s
  | .held | .queued | .active | .ending => if x.abortMark then s else setAbortIgnored false (abortTag s t)

/-- An abort of every live tag, in dispatch-queue order (R19). -/
def abortEvery (s : State) : State :=
  if s.req.queue.isEmpty then setAbortIgnored true s
  else
    let fresh := s.req.queue.any fun t => !(s.tag t).abortMark
    let s := s.req.queue.foldl abortTag s
    if fresh then setAbortIgnored false s else s

/-- A write to QABORT (R19). -/
def requestAbort (v : Word) (s : State) : State :=
  let s₁ := { s with req := { s.req with qabort := v } }
  settle s
    (if v = abortAll then abortEvery s₁
     else if h : v.toNat < 16 then abortOne ⟨v.toNat, h⟩ s₁
     else setAbortIgnored true s₁)

/-- ABORT_REQUEST. -/
def execAbortRequest (v : Word) (s : State) : Result := busAccess s (requestAbort v)

end Sys2Proof.Machine
end

