-- ==== Sys2Proof/Machine/Patrol.lean ====
section
/-! DEFINITION. The patrol's ends (R142), its start and stop (R138, R139), and the two timers (R135, R137). -/
namespace Sys2Proof.Machine

/-- A patrol read of `n` is a segment end under a segment length (R133). -/
def segmentEnd (length n : Nat) : Bool := (n + 1) % length == 0 || n == 3967

/-- The engine becomes IDLE with the mode absent. -/
def patrolIdle (s : State) : State := { s with patrol := { s.patrol with state := .idle, mode := none } }

/-- The end of a pass (R142): condition 8, a commit reason with no waiter, PASS_DONE. -/
def passEnd (s : State) : State := setPatrolStatus .passDone (commitReason (s.bump CondId.patrolPasses))

/-- After a pass end in AUTO mode (R137): the gap timer starts, or with a gap of 0 the next pass begins at once. -/
def startGap (s : State) : State :=
  if s.cfg.passGap = 0 then
    setPatrolStatus .inProgress { s with patrol := { s.patrol with state := runOrWait s } }
  else { s with patrol := { s.patrol with state := .gap, gapTimer := some s.cfg.passGap.toNat } }

/-- The segment and pass tests after the final outcome of a patrol read of `n` (R142). -/
def testEnds (n : Nat) (s : State) : State :=
  if s.patrol.state == .running || s.patrol.state == .waiting then
    match s.patrol.mode with
    | none => s
    | some .segment =>
      if segmentEnd (segLength s.cfg.segCode) n then setPatrolStatus .segmentDone (patrolIdle s) else s
    | some .pass => if n = 3967 then checkSequence (patrolIdle (passEnd s)) else s
    | some .auto => if n = 3967 then checkSequence (startGap (passEnd s)) else s
  else s

/-- The engine starts in a mode (R138). -/
def beginPatrol (m : PatrolMode) (s : State) : State :=
  setPatrolStatus .inProgress
    { s with patrol := { s.patrol with state := runOrWait s, mode := some m, gapTimer := none } }

/-- What a start command does in READY, by patrol state (R138). -/
def startPatrol (m : PatrolMode) (s : State) : State :=
  match s.patrol.state with
  | .idle => beginPatrol m s
  | .waiting | .running => { s with patrol := { s.patrol with mode := some m } }
  | .gap => match m with
    | .auto => s
    | .segment | .pass => beginPatrol m s

/-- What PATROL_STOP does (R139). -/
def stopPatrol (s : State) : State :=
  match s.patrol.state with
  | .idle => s
  | .waiting | .running | .gap =>
    setPatrolStatus .stopped (patrolIdle { s with patrol := { s.patrol with gapTimer := none } })

/-- QUIET_TIMER_EXPIRY (R135). With the timer stopped no expiry can come: nothing changes. -/
def execQuietTimerExpiry (s : State) : Result :=
  .next (if s.patrol.quietTimer.isSome then arbitrate (quietOver s) else s)

/-- The gap timer expires (R137). -/
def gapOver (s : State) : State :=
  setPatrolStatus .inProgress { s with patrol := { s.patrol with gapTimer := none, state := runOrWait s } }

/-- GAP_TIMER_EXPIRY (R137). With the timer stopped no expiry can come: nothing changes. -/
def execGapTimerExpiry (s : State) : Result :=
  .next (if s.patrol.gapTimer.isSome then arbitrate (gapOver s) else s)

end Sys2Proof.Machine
end

