-- ==== Sys2Proof/Machine/Port.lean ====
section
/-! DEFINITION. The Data Port: PTAG_WRITE (R40), PDATA_READ (R41), PDATA_WRITE (R42). -/
namespace Sys2Proof.Machine

/-- The word last driven on D[15:0]. -/
def drive (w : Word) (s : State) : State := { s with lastRead := w }

/-- A port miss (R43). -/
def portMiss (s : State) : State := latch .port { s with port := { s.port with miss := true } }

/-- A write to PTAG (R40). -/
def attach (v : Word) (s : State) : State := { s with port := { attached := tagField v, miss := false } }

/-- PTAG_WRITE. -/
def execPtagWrite (v : Word) (s : State) : Result := busAccess s (attach v)

/-- A READ tag delivers a block: its slot is freed and delivered rises; an ENDING tag whose last FULL or DRAINING slot this
was becomes DONE (R7, R41). -/
def deliver (t : TagNo) (n : SlotNo) (s : State) : State :=
  let s := (freeSlot n s).modTag t fun x => { x with moved := x.moved + 1 }
  let x := s.tag t
  if x.state == .ending && (slotsOf s t SlotState.readable).isEmpty then finish t x.soFar s else s

/-- A read of PDATA (R41, R43). -/
def readPort (s : State) : State :=
  match readPortSlot s s.port.attached with
  | none => drive 0xFFFF#16 (portMiss s)
  | some n =>
    let x := s.slot n
    let s₁ := drive (x.data.getD x.pos 0) s
    if x.pos + 1 < 256 then s₁.setSlot n { x with state := .draining, pos := x.pos + 1 }
    else settle s (deliver s.port.attached n s₁)

/-- PDATA_READ. -/
def execPdataRead (s : State) : Result := busAccess s readPort

/-- A WRITE tag receives a block: its slot becomes FULL, bound to the tag's next LBN, and received rises (R38). -/
def receive (t : TagNo) (n : SlotNo) (x : Slot) (s : State) : State :=
  let lbn := (s.tag t).firstLbn + (s.tag t).moved
  (s.setSlot n { x with state := .full, lbn := some lbn }).modTag t fun y => { y with moved := y.moved + 1 }

/-- A write of PDATA (R38, R42, R43). -/
def writePort (v : Word) (s : State) : State :=
  match writePortSlot s s.port.attached with
  | none => portMiss s
  | some n =>
    let x := s.slot n
    let y := { x with state := .filling, pos := x.pos + 1, data := x.data ++ [v] }
    if x.pos + 1 < 256 then s.setSlot n y else settle s (receive s.port.attached n y s)

/-- PDATA_WRITE. -/
def execPdataWrite (v : Word) (s : State) : Result := busAccess s (writePort v)

end Sys2Proof.Machine
end

