-- ==== Sys2Proof/Machine/Commands.lean ====
section
/-! DEFINITION. The Command Unit (section 11.2): the check of a CMD write (R187), the device commands, the condition report
(R177 to R179) and RDATA (R190). -/
namespace Sys2Proof.Machine

/-! ## The check of a CMD write -/

/-- The commands that READ_ONLY refuses (R187, order 4). -/
def Command.needsReady : Command → Bool
  | .patrolSegment | .patrolPass | .patrolAuto | .thresholdLoad | .conditionSave => true
  | .patrolStop | .reportBuild => false

/-- A write of a defined command code (R187): dropped, refused by the store mode, or taken. -/
def requestCommand (c : Command) (take : State → State) (s : State) : State :=
  if s.cmd.running.isSome then latch .cmdOverrun s
  else if s.jrnl.mode = .starting then completeCommand c.code .notReady s
  else if s.jrnl.mode = .readOnly ∧ c.needsReady = true then completeCommand c.code .refusedReadOnly s
  else take s

/-- A write of an undefined command code (R187, orders 1 and 2). -/
def refuseCode (code : BitVec 8) (s : State) : State :=
  if s.cmd.running.isSome then latch .cmdOverrun s else completeCommand code .badCommand s

/-! ## Patrol commands -/

/-- A start command that is taken: the patrol acts (R138), the command completes with OK, and the arbiter may choose the
patrol's work at the same event (R68). -/
def takeStart (c : Command) (m : PatrolMode) (s : State) : State :=
  arbitrate (completeCommand c.code .ok (startPatrol m s))

/-- A CMD write of PATROL_SEGMENT. -/
def requestSegment : State → State := requestCommand .patrolSegment (takeStart .patrolSegment .segment)

/-- A CMD write of PATROL_PASS. -/
def requestPass : State → State := requestCommand .patrolPass (takeStart .patrolPass .pass)

/-- A CMD write of PATROL_AUTO. -/
def requestAuto : State → State := requestCommand .patrolAuto (takeStart .patrolAuto .auto)

/-- A CMD write of PATROL_STOP (R139): a stop makes nothing runnable. -/
def requestStop : State → State :=
  requestCommand .patrolStop fun s => completeCommand (Command.code .patrolStop) .ok (stopPatrol s)

/-- PATROL_SEGMENT. The high byte of the word written is ignored (R185). -/
def execPatrolSegment (_hi : BitVec 8) (s : State) : Result := busAccess s requestSegment

/-- PATROL_PASS. -/
def execPatrolPass (_hi : BitVec 8) (s : State) : Result := busAccess s requestPass

/-- PATROL_AUTO. -/
def execPatrolAuto (_hi : BitVec 8) (s : State) : Result := busAccess s requestAuto

/-- PATROL_STOP. -/
def execPatrolStop (_hi : BitVec 8) (s : State) : Result := busAccess s requestStop

/-! ## The condition report -/

/-- The format revision word of a report and of a threshold image. -/
def formatRevision : Word := 0x0301#16

/-- The low and the high half of a 32-bit value (00_scope.md: the low half comes first). -/
def lowHalf (v : Nat) : Word := BitVec.ofNat 16 v

/-- The high half. -/
def highHalf (v : Nat) : Word := BitVec.ofNat 16 (v / 65536)

/-- The segment index (R133). -/
def segmentIndex (s : State) : Nat := s.patrol.resume / segLength s.cfg.segCode

/-- The segment count (R133): 3968 ÷ segment length, rounded up. -/
def segmentCount (s : State) : Nat := (3968 + segLength s.cfg.segCode - 1) / segLength s.cfg.segCode

/-- Words 0 to 15 of the report (R178, R200). -/
def headerWord (s : State) (k : Nat) : Word :=
  match k with
  | 0 => formatRevision
  | 1 => at16 0 (verdict s).code
  | 2 => at16 0 s.jrnl.mode.code
  | 3 => at16 0 s.patrol.status.code
  | 4 => at16 0 (segmentIndex s)
  | 5 => at16 0 (segmentCount s)
  | 6 => at16 0 s.patrol.resume
  | 7 => lowHalf s.jrnl.lastDone
  | 8 => highHalf s.jrnl.lastDone
  | 9 => at16 0 s.map.overflow
  | _ => 0

/-- Word `j` of the entry of condition `i` (R179, R200). -/
def entryWord (s : State) (i : CondId) (j : Nat) : Word :=
  let c := s.cond[i]
  match j with
  | 0 => at16 0 (i.val + 1)
  | 1 => at16 0 (condClass i).code ||| at16 4 (condCollection i).code
  | 2 => at16 0 c.grade
  | 3 => at16 0 c.worst
  | 4 => at16 0 c.threshold
  | 5 => lowHalf c.raw
  | 6 => highHalf c.raw
  | _ => 0

/-- Words 0 to 254 of the report: the header, the twelve entries of eight words from word 16 on, zeros. -/
def reportWord (s : State) (k : Nat) : Word :=
  if k < 16 then headerWord s k
  else if h : k < 112 then entryWord s ⟨(k - 16) / 8, by omega⟩ (k % 8)
  else 0

/-- A sum of words modulo 65536. -/
def sumWords (l : Words) : Word := l.foldl (· + ·) 0

/-- The checksum, word 255: the sum of all 256 words is 0 (R179). -/
def reportChecksum (s : State) : Word := 0 - sumWords ((List.range 255).map (reportWord s))

/-- The report as it stands (R177 to R179). -/
def reportOf (s : State) : Vector Word 256 :=
  let c := reportChecksum s
  Vector.ofFn fun k => if k.val = 255 then c else reportWord s k.val

/-- REPORT_BUILD is taken (R177): the report's values are fixed, and the build runs. -/
def takeReport (s : State) : State := { s with cmd := { s.cmd with running := some (.reportBuild (reportOf s)) } }

/-- A CMD write of REPORT_BUILD. -/
def requestReport : State → State := requestCommand .reportBuild takeReport

/-- REPORT_BUILD. -/
def execReportBuild (_hi : BitVec 8) (s : State) : Result := busAccess s requestReport

/-- The last word of a report is written (R191). -/
def finishReport (r : Vector Word 256) (s : State) : State :=
  completeCommand (Command.code .reportBuild) .ok { s with cmd := { s.cmd with buffer := r } }

/-- REPORT_BUILD_COMPLETION. With no build running no completion can come: nothing changes. -/
def execReportBuildCompletion (s : State) : Result :=
  .next (match s.cmd.running with
    | some (.reportBuild r) => finishReport r s
    | some (.thresholdLoad _) | some (.conditionSave _) | none => s)

/-! ## THRESHOLD_LOAD and CONDITION_SAVE -/

/-- The word of the buffer that holds the threshold of a condition: word 4 of its entry. -/
def thresholdWord (b : Vector Word 256) (i : CondId) : Nat := (b[20 + 8 * i.val]'(by have := i.isLt; omega)).toNat

/-- The word of the buffer that holds the id of a condition: word 0 of its entry. -/
def idWord (b : Vector Word 256) (i : CondId) : Nat := (b[16 + 8 * i.val]'(by have := i.isLt; omega)).toNat

/-- The four tests of R180. -/
def thresholdsValid (b : Vector Word 256) : Bool :=
  b[0] == formatRevision && sumWords b.toList == 0 &&
    (List.finRange 12).all (fun i => idWord b i == i.val + 1) &&
    (List.finRange 12).all (fun i => decide (thresholdWord b i ≤ 255))

/-- All twelve thresholds are replaced (R181). -/
def loadThresholds (s : State) : State :=
  { s with cond := Vector.ofFn fun i : CondId => { s.cond[i] with threshold := thresholdWord s.cmd.buffer i } }

/-- A command makes its commit reason and waits for the sequence it records (R181, R182); with the sequence exhausted it
completes with JOURNAL_FAULT at once (R159). -/
def waitForCommit (r : Nat → Running) (s : State) : State :=
  checkSequence (commitReason { s with cmd := { s.cmd with running := some (r (neededNow s)) } })

/-- THRESHOLD_LOAD is taken (R180, R181). -/
def takeThresholds (s : State) : State :=
  if thresholdsValid s.cmd.buffer then settle s (waitForCommit .thresholdLoad (loadThresholds s))
  else completeCommand (Command.code .thresholdLoad) .refusedImage s

/-- A CMD write of THRESHOLD_LOAD. -/
def requestThresholds : State → State := requestCommand .thresholdLoad takeThresholds

/-- THRESHOLD_LOAD. -/
def execThresholdLoad (_hi : BitVec 8) (s : State) : Result := busAccess s requestThresholds

/-- CONDITION_SAVE is taken (R182). -/
def takeSave (s : State) : State := settle s (waitForCommit .conditionSave s)

/-- A CMD write of CONDITION_SAVE. -/
def requestSave : State → State := requestCommand .conditionSave takeSave

/-- CONDITION_SAVE. -/
def execConditionSave (_hi : BitVec 8) (s : State) : Result := busAccess s requestSave

/-! ## Every CMD write -/

/-- A write of `v` to CMD: the low byte is the code (R200). -/
def writeCmd (v : Word) : State → State :=
  match commandOf (lowByte v) with
  | none => refuseCode (lowByte v)
  | some .patrolSegment => requestSegment
  | some .patrolPass => requestPass
  | some .patrolAuto => requestAuto
  | some .patrolStop => requestStop
  | some .reportBuild => requestReport
  | some .thresholdLoad => requestThresholds
  | some .conditionSave => requestSave

/-- BAD_COMMAND. A word that does carry a defined code acts as that command (notes/assumptions/15.md). -/
def execBadCommand (v : Word) (s : State) : Result := busAccess s (writeCmd v)

/-! ## RDATA -/

/-- An RDATA access is dropped while REPORT_BUILD or THRESHOLD_LOAD runs (R190). -/
def bufferClosed (s : State) : Bool :=
  match s.cmd.running with
  | some (.reportBuild _) | some (.thresholdLoad _) => true
  | some (.conditionSave _) | none => false

/-- The buffer word at RPTR. -/
def bufferWord (s : State) : Word := s.cmd.buffer[s.cmd.rptr.toNat]'s.cmd.rptr.isLt

/-- RPTR rises by one, from 255 to 0. -/
def advancePointer (s : State) : State := { s with cmd := { s.cmd with rptr := s.cmd.rptr + 1 } }

/-- A read of RDATA (R190). -/
def readReport (s : State) : State :=
  if bufferClosed s then drive 0xFFFF#16 s else advancePointer (drive (bufferWord s) s)

/-- RDATA_READ. -/
def execRdataRead (s : State) : Result := busAccess s readReport

/-- A write of RDATA (R190). -/
def writeReport (v : Word) (s : State) : State :=
  if bufferClosed s then s
  else advancePointer { s with cmd := { s.cmd with
    buffer := s.cmd.buffer.set s.cmd.rptr.toNat v s.cmd.rptr.isLt } }

/-- RDATA_WRITE. -/
def execRdataWrite (v : Word) (s : State) : Result := busAccess s (writeReport v)

end Sys2Proof.Machine
end

