-- ==== Sys2Proof/Machine/Journal.lean ====
section
/-! DEFINITION. The Journal: ring reads and the end of the start-up scan (R151, R164 to R166), and the outcomes of a commit
attempt (R155, R156). -/
namespace Sys2Proof.Machine

/-! ## The tests of R151 -/

/-- A list holds no number twice. -/
def distinct : List Nat → Bool
  | [] => true
  | a :: l => !l.contains a && distinct l

/-- Test 2: the integrity check matches the other fields. -/
def checkMatches (i : StateImage) : Bool :=
  i.check == Config.imageCheck i.sequence i.remap i.retired i.pendingLbns i.thresholds i.raws i.worst i.resume

/-- A spare's PBN (R62). -/
def isSpare (p : Nat) : Bool := decide (3968 ≤ p) && decide (p ≤ 4063)

/-- Test 4: the remap entries. -/
def remapValid (i : StateImage) : Bool :=
  Memory.wf i.remap && distinct (i.remap.map (·.2)) &&
    i.remap.all fun e => decide (e.1 ≤ 3967) && isSpare e.2 && !i.retired.contains e.2

/-- Test 5: the retired spares, the pending list, the worst grades and the resume LBN. -/
def listsValid (i : StateImage) : Bool :=
  i.retired.all isSpare && distinct i.retired &&
    decide (i.pendingLbns.length ≤ 16) && i.pendingLbns.all (fun n => decide (n ≤ 3967)) && distinct i.pendingLbns &&
    i.worst.all (fun g => decide (1 ≤ g) && decide (g ≤ 100)) && decide (i.resume ≤ 3967)

/-- Tests 3 to 5 of R151: what the fields of an image must meet, whatever its check. -/
def fieldsValid (i : StateImage) : Bool :=
  decide (1 ≤ i.sequence) && decide (i.sequence ≤ max32) && remapValid i && listsValid i

/-- Tests 2 to 5 of R151: an image read from the ring is valid. -/
def imageValid (i : StateImage) : Bool := checkMatches i && fieldsValid i

/-! ## The start-up scan -/

/-- The next ring position, from 31 to 0 (R155). -/
def nextRing (p : Nat) : Nat := if 31 ≤ p then 0 else p + 1

/-- A valid image at ring position `p` becomes the scan candidate if its sequence is greater than the candidate's, or if
there is none (R164). -/
def considerImage (p : Nat) (i : StateImage) (s : State) : State :=
  let better := match s.jrnl.candidate with
    | none => true
    | some c => decide (c.image.sequence < i.sequence)
  if imageValid i && better then { s with jrnl := { s.jrnl with candidate := some { position := p, image := i } } } else s

/-- The condition table from an image (R183): thresholds, raw counts and worst grades; conditions 5 and 6 from the loaded
map and list. -/
def loadedConditions (i : StateImage) (free pendingLength : Nat) : Vector Condition 12 :=
  Vector.ofFn fun k : CondId =>
    let raw := if k = CondId.sparesRemaining then free
      else if k = CondId.pendingBlocks then pendingLength
      else i.raws.getD (imageRawIds.idxOf k) 0
    { raw := raw, grade := gradeOf k raw, worst := min (i.worst.getD k.val 100) (gradeOf k raw),
      threshold := i.thresholds.getD k.val 0 }

/-- The start-up ends: START is latched and the quiet timer starts, the part being foreground-idle (R135, R165, R166). -/
def endStartUp (s : State) : State := startQuiet (latch .start s)

/-- The candidate is loaded (R165, R183). -/
def loadImage (c : Candidate) (s : State) : State :=
  let i := c.image
  let s := { s with
    map := { remap := i.remap, retired := i.retired, pendingLbns := i.pendingLbns, overflow := 0, refresh := [] }
    patrol := { s.patrol with resume := i.resume }
    jrnl := { s.jrnl with lastStarted := i.sequence, lastDone := i.sequence, nextPos := nextRing c.position,
                          candidate := none, mode := .ready } }
  let s := { s with cond := loadedConditions i (freeSpares s).length i.pendingLbns.length }
  endStartUp (s.bump CondId.powerStarts)

/-- The fresh state, and the fresh-start reason (R166). -/
def freshState (s : State) : State :=
  let s := { s with
    map := { s.map with remap := [], retired := [], pendingLbns := [] }
    patrol := { s.patrol with resume := 0 }
    cond := powerOnConditions }
  commitReason (s.bump CondId.powerStarts)

/-- The end of the scan (R165, R166). -/
def endScan (s : State) : State :=
  match s.jrnl.candidate with
  | some c => loadImage c s
  | none => freshState s

/-- What a successful ring read places in the image buffer (R65). -/
def ringContent (s : State) (pbn : Nat) : ImageBuffer :=
  match Memory.find s.array.ring pbn with
  | some i => .image i
  | none => .undefined

/-- The completion of a ring read (R151, R164): only the start-up scan grants one (R151). -/
def ringReadDone (o : ArrayOp) (out : ReadOutcome) (s : State) : State :=
  let p := o.pbn - 4064
  let s := if out = .uncorrectable then s
    else
      let b := ringContent s o.pbn
      let s := { s with jrnl := { s.jrnl with imageBuffer := b } }
      match b with
      | .image i => considerImage p i s
      | .nothing | .undefined => s
  if p < 31 then { s with jrnl := { s.jrnl with scanNext := some (p + 1) } } else endScan s

/-! ## Commit attempts -/

/-- A tag that a commit of `sequence` releases: ENDING, WRITE or ZERO, its needed sequence at or below it (R7, R109). -/
def releasedBy (sequence : Nat) (x : Tag) : Bool :=
  x.state == .ending && x.kind.writes && match x.needed with
    | some q => decide (q ≤ sequence)
    | none => false

/-- Releases one tag at a commit's PASS. -/
def releaseWaiter (sequence : Nat) (s : State) (t : TagNo) : State :=
  if releasedBy sequence (s.tag t) then finish t (s.tag t).soFar s else s

/-- A commit attempt passes (R155, R166). -/
def commitPass (s : State) : State :=
  match s.jrnl.commit with
  | none => s
  | some c =>
    let starting := s.jrnl.mode == .starting
    let s := { s with jrnl := { s.jrnl with
      lastDone := c.sequence, nextPos := nextRing s.jrnl.nextPos, commit := none,
      mode := if starting then .ready else s.jrnl.mode } }
    let s := s.bump CondId.journalCommits
    let s := releaseCommand c.sequence (s.req.queue.foldl (releaseWaiter c.sequence) s)
    if starting then endStartUp s else s

/-- A commit attempt fails (R156, R166). -/
def commitFail (s : State) : State :=
  match s.jrnl.commit with
  | none => s
  | some c =>
    let starting := s.jrnl.mode == .starting
    let s := { s with jrnl := { s.jrnl with nextPos := nextRing s.jrnl.nextPos } }
    let s := s.bump CondId.journalSkips
    if s.jrnl.mode == .readOnly then { s with jrnl := { s.jrnl with commit := none } }
    else if c.attempts < 4 then s
    else
      let s := becomeReadOnly { s with jrnl := { s.jrnl with commit := none } }
      if starting then endStartUp s else s

end Sys2Proof.Machine
end

