-- ==== Sys2Proof/Machine/Reading.lean ====
section
/-! DEFINITION. READ_BLOCK_COMPLETION (R65): the handling of a read by its requester (chapters 5, 8 and 9). -/
namespace Sys2Proof.Machine

/-- The unit becomes idle (R64, R67). -/
def idleUnit (s : State) : State := { s with array := { s.array with op := none } }

/-- The words of a block with undefined content: free values (R66), fresh at each read. -/
def freeBlock (n : Nat) : Words := (List.range 256).map (Config.freeWord n)

/-- The words that a successful read of a PBN returns: the block as stored (R65), or free values where its content is
undefined. The state counts the draw. -/
def blockWords (s : State) (pbn : Nat) : Words × State :=
  match Memory.find s.array.blocks pbn with
  | some ws => (ws, s)
  | none => (freeBlock s.freeDraws, { s with freeDraws := s.freeDraws + 1 })

/-- The retry allowance of a tag (R79). -/
def retryAllowance (s : State) (x : Tag) : Nat := if x.noRetry then 0 else s.cfg.retryLimit

/-- A READ tag's slot becomes FULL with the block as read (R86). -/
def fillSlot (t : TagNo) (pbn : Nat) (d : DataPlace) (s : State) : State :=
  match d with
  | .slot n =>
    let (ws, s) := blockWords s pbn
    serviceAppend t (s.setSlot n { s.slot n with state := .full, pos := 0, data := ws })
  | .patrolBuffer | .imageBuffer | .zeroSource | .none => s

/-- A READ tag's array work has ended (R6). -/
def endRead (t : TagNo) (s : State) : State :=
  if (slotsOf s t SlotState.readable).isEmpty then finish t (s.tag t).soFar s else becomeEnding t s

/-- The part of a final outcome that is a READ tag's: its slot, and the end of its work (R37, R86, R87). -/
def readTagFinal (t : TagNo) (o : ArrayOp) (c : ReadClass) (s : State) : State :=
  if c.success then
    let s := fillSlot t o.pbn o.data s
    if (s.tag t).completed = (s.tag t).count then endRead t s else s
  else endRead t (freeSlotsOf t (· == .reserved) (freeDataSlot o.data s))

/-- The final outcome of a tag's current block (R86, R87, R91, R93). -/
def tagReadFinal (t : TagNo) (o : ArrayOp) (lbn : Nat) (c : ReadClass) (s : State) : State :=
  let s := (handOff lbn c s).modTag t (Tag.takeRead lbn s.cfg.refreshLevel c)
  let x := s.tag t
  if x.abortMark then finish t .aborted s
  else match x.kind with
    | .read => readTagFinal t o c s
    | .check => if x.completed = x.count then finish t x.soFar s else s
    | .write | .zero => s

/-- The completion of a READ BLOCK for a tag's current block (R79). -/
def tagReadDone (t : TagNo) (o : ArrayOp) (out : ReadOutcome) (s : State) : State :=
  let x := s.tag t
  match x.cur with
  | none => s
  | some c =>
    if out = .uncorrectable ∧ x.abortMark = false ∧ c.retries < retryAllowance s x then
      s.setTag t { x with cur := some { c with retryOwed := true, inFlight := false } }
    else tagReadFinal t o c.lbn (classify (decide (0 < c.retries)) out) s

/-- An orphan read (R84): final, with no retry; its slot is freed. -/
def orphanReadDone (o : ArrayOp) (out : ReadOutcome) (s : State) : State :=
  match o.lbn with
  | none => s
  | some lbn => freeDataSlot o.data (handOff lbn (classify (o.purpose == .retry) out) s)

/-- The words of a background read enter the patrol buffer, which becomes valid (R141, R146). -/
def fillBuffer (lbn pbn : Nat) (s : State) : State :=
  let (ws, s) := blockWords s pbn
  { s with patrol := { s.patrol with buf := { lbn := some lbn, valid := true, words := ws } } }

/-- A background read's final outcome comes with no retry and keeps no words: after a soft reset (R148), or in READ_ONLY
(R147). -/
def bgReadLast (s : State) (r : BackgroundRead) : Bool := r.dropped || s.jrnl.mode == .readOnly

/-- Whether the words of a background read enter the buffer (R141, R146). -/
def keepsWords (s : State) (r : BackgroundRead) (c : ReadClass) : Bool :=
  c.success && !r.cancelled && !bgReadLast s r && (!r.patrolRead || c.weak s.cfg.refreshLevel)

/-- The completion of a background read (R141, R146, R147, R148). -/
def patrolReadDone (o : ArrayOp) (out : ReadOutcome) (s : State) : State :=
  match s.patrol.bgRead with
  | none => s
  | some r =>
    if out = .uncorrectable ∧ bgReadLast s r = false ∧ r.retries < s.cfg.retryLimit then
      { s with patrol := { s.patrol with bgRead := some { r with retryOwed := true, inFlight := false } } }
    else
      let c := classify (decide (0 < r.retries)) out
      let s₁ := closeBgRead r c s
      let s₁ := if keepsWords s r c then fillBuffer r.lbn o.pbn s₁ else s₁
      if r.patrolRead then testEnds r.lbn s₁ else s₁

/-- A completed READ BLOCK is handed to its requester's rule (R67). -/
def readDone (o : ArrayOp) (out : ReadOutcome) (s : State) : State :=
  match o.requester with
  | .tag t => tagReadDone t o out s
  | .patrol => patrolReadDone o out s
  | .journal => ringReadDone o out s
  | .none => orphanReadDone o out s

/-- READ_BLOCK_COMPLETION. With no READ BLOCK in flight no completion can come: nothing changes. -/
def execReadBlockCompletion (out : ReadOutcome) (s : State) : Result :=
  .next (match s.array.op with
    | some o => if o.operation = .readBlock then settle s (readDone o out (idleUnit s)) else s
    | none => s)

end Sys2Proof.Machine
end

