-- ==== Sys2Proof/Machine/Writing.lean ====
section
/-! DEFINITION. PROGRAM_BLOCK_COMPLETION (R66): what the array then holds, and the handling by the requester (chapters 6, 8
and 9). -/
namespace Sys2Proof.Machine

/-- A block's content becomes undefined (R66, R76). -/
def undefine (pbn : Nat) (a : ArrayUnit) : ArrayUnit :=
  { a with blocks := Memory.drop a.blocks pbn, ring := Memory.drop a.ring pbn }

/-- What the array holds after a program (R66): at a PASS the programmed words, at a FAIL undefined content. -/
def storeProgram (o : ArrayOp) (out : ProgramOutcome) (a : ArrayUnit) : ArrayUnit :=
  match out, o.payload with
  | .pass, .words ws => { a with blocks := Memory.put a.blocks o.pbn ws }
  | .pass, .image i => { a with ring := Memory.put a.ring o.pbn i }
  | .pass, .none => undefine o.pbn a
  | .fail, _ => undefine o.pbn a

/-- A tag's block is resolved by a PASS (R96, R98, R104). -/
def Tag.passBlock (reallocated : Bool) (x : Tag) : Tag :=
  { x with
    prog := none
    completed := x.completed + 1
    passed := x.passed + 1
    reallocs := if reallocated then x.reallocs + 1 else x.reallocs
    soFar := if reallocated && x.soFar == .ok then .recovered else x.soFar }

/-- Where a tag goes when a block of it has passed (R6, R18, R22). -/
def afterPass (t : TagNo) (s : State) : State :=
  let x := s.tag t
  if x.abortMark then finish t .aborted s
  else if x.completed = x.count then
    if owesCommit s x then (if x.wpMark then finish t .journalFault s else becomeEnding t s)
    else finish t x.soFar s
  else if x.wpMark then finish t .writeProtected s
  else s

/-- A tag's block passes, in place or on a spare (R98, R104 steps 5 and 6). -/
def tagBlockPasses (t : TagNo) (reallocated : Bool) (s : State) : State :=
  match (s.tag t).prog with
  | none => s
  | some b => afterPass t ((freeSource b.source s).modTag t (Tag.passBlock reallocated))

/-- A tag's program has failed: a reallocation is owed (R99, R105), to be resolved at once where none is permitted or no
spare is free. -/
def tagOwes (t : TagNo) (s : State) : State :=
  resolveOwed (s.modTag t fun x => { x with prog := x.prog.map fun b => { b with inFlight := false, owed := true } })

/-- The refresh block's program has failed (R144): the buffer is no longer valid, and a reallocation is owed. -/
def refreshOwes (s : State) : State :=
  resolveOwed { s with patrol := { s.patrol with
    buf := { s.patrol.buf with valid := false }
    refreshBlock := s.patrol.refreshBlock.map fun b => { b with inFlight := false, owed := true } } }

/-- A tag's program ends (R98, R99, R104, R105). At a reallocation's PASS that leaves no free spare, the passed LBN leaves the
lists (R104 step 4) before the other blocks' exhaustion offers (R107): no rule orders the two (R120, R126), and with the
pending list full the order decides what is appended. DESIGN CHOICE, notes/assumptions/23.md. -/
def tagProgramDone (t : TagNo) (lbn pbn : Nat) (reallocation : Bool) (out : ProgramOutcome) (s : State) : State :=
  match out, reallocation with
  | .pass, false => tagBlockPasses t false (cancelPatrol lbn (clearLists lbn s))
  | .fail, false => tagOwes t (cancelPatrol lbn (s.bump CondId.programFailures))
  | .pass, true =>
    let s := commitReasonFor t (remapTo lbn pbn s)
    let s := reportSpares (s.bump CondId.reallocations)
    let s := cancelPatrol lbn (clearLists lbn s)
    checkSequence (resolveOwed (tagBlockPasses t true s))
  | .fail, true =>
    let s := reportSpares (retire pbn (s.bump CondId.programFailures))
    checkSequence (tagOwes t (cancelPatrol lbn (commitReasonFor t s)))

/-- The refresh program is over: the refresh block is removed and the buffer's words are discarded (R144). -/
def endRefresh (s : State) : State := discardBuffer { s with patrol := { s.patrol with refreshBlock := none } }

/-- A refresh program ends (R144, R147). At a reallocation's PASS the passed LBN leaves the lists before the exhaustion offers:
DESIGN CHOICE, notes/assumptions/23.md. -/
def refreshDone (lbn pbn : Nat) (reallocation : Bool) (out : ProgramOutcome) (s : State) : State :=
  match out, reallocation with
  | .pass, false => endRefresh ((clearLists lbn s).bump CondId.refreshes)
  | .fail, false => refreshOwes (s.bump CondId.programFailures)
  | .pass, true =>
    let s := commitReason (remapTo lbn pbn s)
    let s := reportSpares (s.bump CondId.reallocations)
    checkSequence (resolveOwed (endRefresh (clearLists lbn s)))
  | .fail, true =>
    let s := reportSpares (retire pbn (s.bump CondId.programFailures))
    checkSequence (refreshOwes (commitReason s))

/-- An orphan program ends (R116): no tag, no waiter, no reallocation after a FAIL. At a reallocation that leaves no free spare,
the orphan's own removal or offer comes before the other blocks' exhaustion offers: DESIGN CHOICE, notes/assumptions/23.md. -/
def orphanProgramDone (lbn pbn : Nat) (reallocation : Bool) (d : DataPlace) (out : ProgramOutcome) (s : State) : State :=
  match out, reallocation with
  | .pass, false => freeDataSlot d (cancelPatrol lbn (clearLists lbn s))
  | .fail, false => freeDataSlot d (offerPending lbn (cancelPatrol lbn (s.bump CondId.programFailures)))
  | .pass, true =>
    let s := commitReason (remapTo lbn pbn s)
    let s := reportSpares (s.bump CondId.reallocations)
    checkSequence (resolveOwed (freeDataSlot d (cancelPatrol lbn (clearLists lbn s))))
  | .fail, true =>
    let s := commitReason (reportSpares (retire pbn (s.bump CondId.programFailures)))
    checkSequence (resolveOwed (freeDataSlot d (offerPending lbn (cancelPatrol lbn s))))

/-- A program whose requester is the patrol ends (R144): after a soft reset its record is gone, and it is an orphan program
that still counts condition 9 at a PASS in place (R148). -/
def patrolProgramDone (lbn pbn : Nat) (reallocation : Bool) (out : ProgramOutcome) (s : State) : State :=
  match s.patrol.refreshBlock with
  | some _ => refreshDone lbn pbn reallocation out s
  | none =>
    let s := orphanProgramDone lbn pbn reallocation .none out s
    if out = .pass ∧ reallocation = false then s.bump CondId.refreshes else s

/-- A completed PROGRAM BLOCK is handed to its requester's rule (R67). -/
def programDone (o : ArrayOp) (out : ProgramOutcome) (s : State) : State :=
  let reallocation := o.purpose == .reallocation
  let lbn := o.lbn.getD 0
  match o.requester with
  | .tag t => tagProgramDone t lbn o.pbn reallocation out s
  | .patrol => patrolProgramDone lbn o.pbn reallocation out s
  | .journal => match out with
    | .pass => commitPass s
    | .fail => commitFail s
  | .none => orphanProgramDone lbn o.pbn reallocation o.data out s

/-- PROGRAM_BLOCK_COMPLETION. With no PROGRAM BLOCK in flight no completion can come: nothing changes. -/
def execProgramBlockCompletion (out : ProgramOutcome) (s : State) : Result :=
  .next (match s.array.op with
    | some o =>
      if o.operation = .programBlock then
        settle s (programDone o out { s with array := { storeProgram o out s.array with op := none } })
      else s
    | none => s)

end Sys2Proof.Machine
end

