-- ==== Sys2Proof/Machine/Resets.lean ====
section
/-! DEFINITION. SOFT_RESET (R198), POWER_ON_RESET (R199) and START_UP (R163). -/
namespace Sys2Proof.Machine

/-! ## SOFT_RESET, block by block -/

/-- Tags, queue and request registers (R25, R10, R13, R19). -/
def resetRequests : RequestUnit := State.reset.req

/-- A slot after a soft reset (R47): freed, but for the slot of the operation in flight, which loses its owner. -/
def resetSlots (s : State) : SlotPool :=
  { slots := Vector.ofFn fun n =>
      if opSlot s = some n then { s.slot n with owner := none } else Slot.free }

/-- The operation in flight loses a tag as its requester (R75). -/
def ArrayOp.orphan (o : ArrayOp) : ArrayOp :=
  match o.requester with
  | .tag _ => { o with requester := .none }
  | .patrol | .journal | .none => o

/-- The background read after a soft reset (R148): kept only if in flight. -/
def BackgroundRead.afterReset (r : BackgroundRead) : Option BackgroundRead :=
  if r.inFlight then some { r with dropped := true } else none

/-- The Patrol Engine, before the quiet timer starts again (R148). -/
def resetPatrol (p : PatrolEngine) : PatrolEngine :=
  { p with
    state := .idle
    mode := none
    status := if p.state = .idle then p.status else .haltedReset
    quietTimer := none
    quietElapsed := false
    gapTimer := none
    bgRead := p.bgRead.bind BackgroundRead.afterReset
    buf := PatrolBuffer.discarded
    refreshBlock := none }

/-- The buffer that an abandoned build leaves (R177, R192): the first words of the new report, the rest as before; how many
is a free value. -/
def partialReport (n : Nat) (report before : Vector Word 256) : Vector Word 256 :=
  Vector.ofFn fun k : Fin 256 => if k.val < Config.freeProgress n % 256 then report[k] else before[k]

/-- The Command Unit (R192). -/
def resetCommands (n : Nat) (c : CommandUnit) : CommandUnit :=
  { running := none, result := .none, resultCode := 0, rptr := 0
    buffer := match c.running with
      | some (.reportBuild r) => partialReport n r c.buffer
      | some (.thresholdLoad _) | some (.conditionSave _) | none => c.buffer }

/-- Whether a build runs, so that its abandonment draws a free value. -/
def buildRuns (c : CommandUnit) : Bool :=
  match c.running with
  | some (.reportBuild _) => true
  | some (.thresholdLoad _) | some (.conditionSave _) | none => false

/-- Every block's part of a soft reset (R198), before the quiet timer starts and the arbiter chooses. -/
def resetBlocks (s : State) : State :=
  { s with
    req := resetRequests
    pool := resetSlots s
    port := { attached := 0, miss := false }
    svc := { list := [], readout := none }
    array := { s.array with op := s.array.op.map ArrayOp.orphan }
    map := { s.map with refresh := [] }
    patrol := resetPatrol s.patrol
    cmd := resetCommands s.freeDraws s.cmd
    cfg := { s.cfg with cfgReject := false }
    attn := { s.attn with latched := 0 }
    freeDraws := if buildRuns s.cmd then s.freeDraws + 1 else s.freeDraws }

/-- A write of 1 to SRESET (R198): ignored during STARTING. -/
def softReset (s : State) : State :=
  if s.jrnl.mode = .starting then s else arbitrate (startQuiet (resetBlocks s))

/-- SOFT_RESET. -/
def execSoftReset (s : State) : Result := busAccess s softReset

/-! ## POWER_ON_RESET and START_UP -/

/-- The array after the loss of the operation in flight (R76): a program's target has undefined content. -/
def losePower (a : ArrayUnit) : ArrayUnit :=
  match a.op with
  | none => a
  | some o =>
    let a := { a with op := none }
    if o.operation = .programBlock then undefine o.pbn a else a

/-- POWER_ON_RESET (R199): every block holds its power-on values; the array keeps its content. The word last driven on the
bus, the count of free values and the waiting commands are no block's. -/
def execPowerOnReset (s : State) : Result :=
  .next { State.reset with
    lastRead := s.lastRead
    array := losePower s.array
    freeDraws := s.freeDraws
    pending := s.pending }

/-- RSTn returns high (R163): the Journal begins the scan, whose first read is granted at once. -/
def startScan (s : State) : State :=
  arbitrate { s with
    rstnLow := false
    jrnl := { mode := .starting, lastStarted := 0, lastDone := 0, nextPos := 0, commitNeeded := false, commit := none,
              imageBuffer := .nothing, candidate := none, scanNext := some 0 } }

/-- START_UP. With RSTn high already it cannot return high: nothing changes. -/
def execStartUp (s : State) : Result := .next (if s.rstnLow then startScan s else s)

end Sys2Proof.Machine
end

