-- ==== Sys2Proof/Machine/Service.lean ====
section
/-! DEFINITION. SVCNEXT_POP (R52): the head of the service list is taken and classified. -/
namespace Sys2Proof.Machine

/-- The kind of an entry, decided from its tag at the pop; none is stale (R53). -/
def popKind (s : State) (t : TagNo) : Option PopKind :=
  if (s.tag t).state == .done then some .complete
  else if (readPortSlot s t).isSome then some .dataIn
  else if (writePortSlot s t).isSome then some .dataOut
  else none

/-- The first entry that is not stale with its kind, and the entries behind it (R52, R56). -/
def popEntries (s : State) : List TagNo → Option (TagNo × PopKind) × List TagNo
  | [] => (none, [])
  | t :: l => match popKind s t with
    | some k => (some (t, k), l)
    | none => popEntries s l

/-- blocks_done, by kind (R24). -/
def blocksDone (x : Tag) : Nat :=
  match x.kind with
  | .read => x.moved
  | .write | .zero => x.passed
  | .check => x.completed

/-- The completion record of a tag (R24). -/
def completionOf (t : TagNo) (x : Tag) : Completion :=
  { tag := t, kind := x.kind, status := x.final.getD .ok, blocksDone := blocksDone x, firstFail := x.firstFail,
    worst := x.worst, retriesUsed := x.retriesUsed, uncorrCount := x.uncorrCount, reallocs := x.reallocs }

/-- What a COMPLETE pop does besides: the record is copied into the readout and the tag becomes FREE (R54, R57). -/
def collect (t : TagNo) (s : State) : State :=
  ({ s with svc := { s.svc with readout := some (completionOf t (s.tag t)) } } : State).setTag t Tag.free

/-- A read of SVCNEXT (R52, R53). -/
def pop (s : State) : State :=
  let (hit, rest) := popEntries s s.svc.list
  let s₁ := drive (svcWord hit !rest.isEmpty) { s with svc := { s.svc with list := rest } }
  match hit with
  | some (t, .complete) => collect t s₁
  | some (_, .dataIn) | some (_, .dataOut) | none => s₁

/-- SVCNEXT_POP. -/
def execSvcnextPop (s : State) : Result := busAccess s pop

end Sys2Proof.Machine
end

