-- ==== Sys2Proof/Machine/Registers.lean ====
section
/-! DEFINITION. The register window (section 11.1): ACAUSE, AENABLE, CFGA and CFGB writes, REGISTER_WRITE (R185), and the
value each register reads (R186, R200). -/
namespace Sys2Proof.Machine

/-! ## Attention registers -/

/-- A write to ACAUSE (R195): each latched cause whose bit is 1 is cleared. Bit 0 is never latched. -/
def clearCauses (v : Word) (s : State) : State :=
  { s with attn := { s.attn with latched := s.attn.latched &&& ~~~(lowByte v) } }

/-- ACAUSE_WRITE. -/
def execAcauseWrite (v : Word) (s : State) : Result := busAccess s (clearCauses v)

/-- A write to AENABLE (R196). -/
def setEnable (v : Word) (s : State) : State := { s with attn := { s.attn with enable := lowByte v } }

/-- AENABLE_WRITE. -/
def execAenableWrite (v : Word) (s : State) : Result := busAccess s (setEnable v)

/-! ## Configuration registers -/

/-- The fields of CFGA after a write, each tested on its own (R193). -/
def setCfga (v : Word) (c : ConfigRegs) : ConfigRegs :=
  { c with
    refreshLevel := (cfgaRefresh v).getD c.refreshLevel
    retryLimit := (cfgaRetry v).getD c.retryLimit
    slotQuota := (cfgaQuota v).getD c.slotQuota
    cfgReject := (cfgaRefresh v).isNone || (cfgaRetry v).isNone || (cfgaQuota v).isNone }

/-- A write to CFGA (R193): a new slot quota may grant free slots at once (R35). -/
def writeCfga (v : Word) (s : State) : State :=
  let s' := { s with cfg := setCfga v s.cfg }
  if s'.cfg.slotQuota = s.cfg.slotQuota then s' else arbitrate (grantSlots 8 s')

/-- CFGA_WRITE. -/
def execCfgaWrite (v : Word) (s : State) : Result := busAccess s (writeCfga v)

/-- The fields of CFGB after a write (R194). -/
def setCfgb (v : Word) (c : ConfigRegs) : ConfigRegs :=
  { c with
    quietCode := cfgbQuiet v
    segCode := (cfgbSeg v).getD c.segCode
    cfgReject := (cfgbSeg v).isNone }

/-- A write to CFGB (R194). -/
def writeCfgb (v : Word) (s : State) : State := { s with cfg := setCfgb v s.cfg }

/-- CFGB_WRITE. -/
def execCfgbWrite (v : Word) (s : State) : Result := busAccess s (writeCfgb v)

/-! ## REGISTER_WRITE -/

/-- A write to the register at a word address (R185). Registers that are read-only and reserved offsets ignore it; a
register whose write has a row of its own acts as that row (notes/assumptions/15.md). -/
def writeRegister (a : RegAddr) (v : Word) (s : State) : State :=
  match a.toNat with
  | 0x02 => clearCauses v s
  | 0x03 => setEnable v s
  | 0x04 => { s with req := { s.req with qlbn := v } }
  | 0x05 => { s with req := { s.req with qcount := v } }
  | 0x06 => submit v s
  | 0x09 => attach v s
  | 0x0B => writePort v s
  | 0x0C => requestAbort v s
  | 0x0D => writeCmd v s
  | 0x13 => { s with cmd := { s.cmd with rptr := lowByte v } }
  | 0x14 => writeReport v s
  | 0x15 => writeCfga v s
  | 0x16 => writeCfgb v s
  | 0x17 => { s with cfg := { s.cfg with passGap := v } }
  | 0x19 => if v = 1 then softReset s else s
  | _ => s

/-- REGISTER_WRITE. -/
def execRegisterWrite (a : RegAddr) (v : Word) (s : State) : Result := busAccess s (writeRegister a v)

/-! ## What a read returns -/

/-- STAT (R186). -/
def statWord (s : State) : Word :=
  at16 0 s.jrnl.mode.code ||| at16 2 (verdict s).code ||| at16 4 s.patrol.status.code ||| at16 7 s.patrol.state.code |||
    bit16 9 s.array.op.isSome ||| bit16 10 s.cmd.running.isSome ||| bit16 11 (foregroundIdle s) |||
    bit16 12 s.req.abortIgnored ||| bit16 13 s.cfg.cfgReject

/-- The slot that the next PDATA access in the tag's direction is served from (R44). -/
def portSlot (s : State) : Option SlotNo :=
  (readPortSlot s s.port.attached).or (writePortSlot s s.port.attached)

/-- PSTAT (R44). -/
def pstatWord (s : State) : Word :=
  let left := match portSlot s with
    | none => 0
    | some n => 256 - (s.slot n).pos
  at16 0 s.port.attached.val ||| bit16 4 (portSlot s).isSome ||| bit16 5 s.port.miss ||| at16 7 left

/-- QRESULT. -/
def qresultWord (s : State) : Word := at16 0 s.req.qresult.code ||| at16 8 s.req.qresultTag.val

/-- CMD: the code of the current command, 0 with none (R187). -/
def cmdWord (s : State) : Word :=
  match s.cmd.running with
  | none => 0
  | some r => r.code.setWidth 16

/-- CMDRES. -/
def cmdresWord (s : State) : Word := at16 0 s.cmd.result.code ||| s.cmd.resultCode.setWidth 16 <<< 8

/-- CFGA. -/
def cfgaWord (s : State) : Word :=
  at16 0 s.cfg.refreshLevel ||| at16 4 s.cfg.retryLimit ||| at16 8 s.cfg.slotQuota

/-- CFGB. -/
def cfgbWord (s : State) : Word := at16 0 s.cfg.quietCode ||| at16 8 s.cfg.segCode

/-- The value a read of a register returns while RSTn is high (R185). For SVCNEXT, PDATA and RDATA it is the word that the
command SVCNEXT_POP, PDATA_READ or RDATA_READ drives. A read of any other register has no side effect, so it is no command. -/
def regRead (s : State) (a : RegAddr) : Word :=
  match a.toNat with
  | 0x00 => 0xD401#16
  | 0x01 => statWord s
  | 0x02 => (causes s).setWidth 16
  | 0x03 => s.attn.enable.setWidth 16
  | 0x04 => s.req.qlbn
  | 0x05 => s.req.qcount
  | 0x06 => s.req.qctrl
  | 0x07 => qresultWord s
  | 0x08 => (pop s).lastRead
  | 0x09 => at16 0 s.port.attached.val
  | 0x0A => pstatWord s
  | 0x0B => (readPort s).lastRead
  | 0x0C => s.req.qabort
  | 0x0D => cmdWord s
  | 0x0E => cmdresWord s
  | 0x0F => cplStatWord s.svc.readout
  | 0x10 => cplBlkWord s.svc.readout
  | 0x11 => cplLbnWord s.svc.readout
  | 0x12 => cplInfoWord s.svc.readout
  | 0x13 => s.cmd.rptr.setWidth 16
  | 0x14 => (readReport s).lastRead
  | 0x15 => cfgaWord s
  | 0x16 => cfgbWord s
  | 0x17 => s.cfg.passGap
  | 0x18 => at16 0 s.patrol.resume
  | _ => 0

end Sys2Proof.Machine
end

