-- ==== Sys2Proof/Machine/Dispatch.lean ====
section
/-! DEFINITION. The meaning of each command: one arm for each constructor of Instr. -/
namespace Sys2Proof.Machine

/-- What a command does to everything but the queue. -/
def exec (i : Instr) (s : State) : Host.Outcome State Fault Refusal :=
  match i with
  | .submission v => Sys2Proof.Machine.execSubmission v s
  | .abortRequest v => Sys2Proof.Machine.execAbortRequest v s
  | .ptagWrite v => Sys2Proof.Machine.execPtagWrite v s
  | .pdataRead => Sys2Proof.Machine.execPdataRead s
  | .pdataWrite v => Sys2Proof.Machine.execPdataWrite v s
  | .svcnextPop => Sys2Proof.Machine.execSvcnextPop s
  | .patrolSegment hi => Sys2Proof.Machine.execPatrolSegment hi s
  | .patrolPass hi => Sys2Proof.Machine.execPatrolPass hi s
  | .patrolAuto hi => Sys2Proof.Machine.execPatrolAuto hi s
  | .patrolStop hi => Sys2Proof.Machine.execPatrolStop hi s
  | .reportBuild hi => Sys2Proof.Machine.execReportBuild hi s
  | .reportBuildCompletion => Sys2Proof.Machine.execReportBuildCompletion s
  | .thresholdLoad hi => Sys2Proof.Machine.execThresholdLoad hi s
  | .conditionSave hi => Sys2Proof.Machine.execConditionSave hi s
  | .badCommand v => Sys2Proof.Machine.execBadCommand v s
  | .rdataRead => Sys2Proof.Machine.execRdataRead s
  | .rdataWrite v => Sys2Proof.Machine.execRdataWrite v s
  | .acauseWrite v => Sys2Proof.Machine.execAcauseWrite v s
  | .aenableWrite v => Sys2Proof.Machine.execAenableWrite v s
  | .cfgaWrite v => Sys2Proof.Machine.execCfgaWrite v s
  | .cfgbWrite v => Sys2Proof.Machine.execCfgbWrite v s
  | .registerWrite a v => Sys2Proof.Machine.execRegisterWrite a v s
  | .softReset => Sys2Proof.Machine.execSoftReset s
  | .powerOnReset => Sys2Proof.Machine.execPowerOnReset s
  | .startUp => Sys2Proof.Machine.execStartUp s
  | .readBlockCompletion o => Sys2Proof.Machine.execReadBlockCompletion o s
  | .programBlockCompletion o => Sys2Proof.Machine.execProgramBlockCompletion o s
  | .quietTimerExpiry => Sys2Proof.Machine.execQuietTimerExpiry s
  | .gapTimerExpiry => Sys2Proof.Machine.execGapTimerExpiry s

end Sys2Proof.Machine
end

