-- ==== Sys2Proof/Safety.lean ====
section
/-! DEFINITION. The vocabulary of the statements: completion, what stays as it was, and the invariants. -/
namespace Sys2Proof.Machine

/-! ## Completion and frames -/

/-- The command is carried out: it answers a next state, of which `P` holds. -/
def Completes (c : Instr) (s : State) (P : State → Prop) : Prop := ∃ t, exec c s = .next t ∧ P t

/-- What the array holds at a PBN: words, or a state image; `none` twice is undefined content. -/
def blockAt (s : State) (p : Nat) : Option Words × Option StateImage :=
  (Memory.find s.array.blocks p, Memory.find s.array.ring p)

/-- Every block of the array reads as before. -/
def ArrayKept (s t : State) : Prop := ∀ p, blockAt t p = blockAt s p

/-- The map that serves requests, the pending list, the overflow note and the condition table are as before. -/
def HealthKept (s t : State) : Prop :=
  t.map.remap = s.map.remap ∧ t.map.retired = s.map.retired ∧ t.map.pendingLbns = s.map.pendingLbns ∧
    t.map.overflow = s.map.overflow ∧ t.cond = s.cond

/-- Everything that requests, slots, port and service list do not own is as before: the pins, the port, the health data,
the patrol's scan, the Command Unit, the configuration, the causes, the store mode. -/
def OthersKept (s t : State) : Prop :=
  t.rstnLow = s.rstnLow ∧ t.port = s.port ∧ HealthKept s t ∧ t.patrol.mode = s.patrol.mode ∧
    t.patrol.status = s.patrol.status ∧ t.patrol.resume = s.patrol.resume ∧ t.cmd = s.cmd ∧ t.cfg = s.cfg ∧
    t.attn = s.attn ∧ t.jrnl.mode = s.jrnl.mode ∧ t.jrnl.lastDone = s.jrnl.lastDone ∧ ArrayKept s t

/-- The refresh list `l`, from which a read that the arbiter granted at the same event may have taken the head (R125). -/
def refreshAfter (l : List Nat) (t : State) : Prop := t.map.refresh = l ∨ t.map.refresh = l.tail

/-- A cumulative raw value one event later (R169, R171). -/
def oneMore (raw : Nat) : Nat := if max32 ≤ raw then raw else raw + 1

/-- The pending list and the overflow note after an offer of an LBN to them (R119, R122). -/
def pendingOffered (lbn : Nat) (l : List Nat) (note : Nat) : List Nat × Nat :=
  if lbn ∈ l then (l, note)
  else if l.length < 16 then (l ++ [lbn], note)
  else (l, min 65535 (note + 1))

/-- A tag owns a slot in one of two states. -/
def ownsSlotIn (s : State) (t : TagNo) (a b : SlotState) : Prop :=
  ∃ n, (s.slot n).owner = some t ∧ ((s.slot n).state = a ∨ (s.slot n).state = b)

/-- A live READ tag that owns a FULL or DRAINING slot (R53, test 2). -/
def hasDataIn (s : State) (t : TagNo) : Prop :=
  (s.tag t).state.live = true ∧ (s.tag t).kind = .read ∧ ownsSlotIn s t .full .draining

/-- A live WRITE tag that owns a RESERVED or FILLING slot (R53, test 3). -/
def hasDataOut (s : State) (t : TagNo) : Prop :=
  (s.tag t).state.live = true ∧ (s.tag t).kind = .write ∧ ownsSlotIn s t .reserved .filling

/-- An entry that needs nothing (R53, test 4). -/
def isStale (s : State) (t : TagNo) : Prop := (s.tag t).state ≠ .done ∧ ¬ hasDataIn s t ∧ ¬ hasDataOut s t

/-- A tag owns no slot. -/
def ownsNoSlot (s : State) (t : TagNo) : Prop := ∀ n, (s.slot n).owner ≠ some t

/-- The corrected bits of a read's outcome (R65). -/
def corrections : ReadOutcome → Nat
  | .corrected b => b.val + 1
  | .clean | .uncorrectable => 0

/-- A successful block is weak after a retry, or when its corrections reach the refresh level (R81). -/
def weakBlock (level retries : Nat) (out : ReadOutcome) : Prop :=
  out ≠ .uncorrectable ∧ (0 < retries ∨ (1 ≤ corrections out ∧ level ≤ corrections out))

/-- The condition that a final read outcome raises (R83). -/
def raisedBy (retries : Nat) : ReadOutcome → Option CondId
  | .uncorrectable => some CondId.uncorrectableReads
  | .clean => if 0 < retries then some CondId.retryRecoveries else none
  | .corrected _ => some (if 0 < retries then CondId.retryRecoveries else CondId.correctedReads)

/-- What the final read outcome of an LBN does to the two lists (R82, R119, R124), but for the refresh list's head. -/
def ListsAfterRead (lbn retries : Nat) (out : ReadOutcome) (s t : State) : Prop :=
  let kept := s.map.pendingLbns.erase lbn
  (out = .uncorrectable →
    (t.map.pendingLbns, t.map.overflow) = pendingOffered lbn s.map.pendingLbns s.map.overflow ∧
    refreshAfter (s.map.refresh.erase lbn) t) ∧
  (out ≠ .uncorrectable →
    t.map.pendingLbns = kept ∧ t.map.overflow = s.map.overflow ∧
    (weakBlock s.cfg.refreshLevel retries out ∧ lbn ∉ kept ∧ lbn ∉ s.map.refresh ∧ s.map.refresh.length < 8 →
      refreshAfter (s.map.refresh ++ [lbn]) t) ∧
    (¬ (weakBlock s.cfg.refreshLevel retries out ∧ lbn ∉ kept ∧ lbn ∉ s.map.refresh ∧ s.map.refresh.length < 8) →
      refreshAfter s.map.refresh t))

/-- The raw values outside `ids` are as before. -/
def RawKept (ids : List CondId) (s t : State) : Prop := ∀ i : CondId, i ∉ ids → (t.cond[i]).raw = (s.cond[i]).raw

/-- One event of condition `i` is counted; the raw values outside `ids` are as before. -/
def RawCounted (i : CondId) (ids : List CondId) (s t : State) : Prop :=
  (t.cond[i]).raw = oneMore (s.cond[i]).raw ∧ RawKept (i :: ids) s t

/-- What a final read outcome counts (R83); condition 6 follows the pending list. -/
def CountsAfterRead (retries : Nat) (out : ReadOutcome) (s t : State) : Prop :=
  match raisedBy retries out with
  | none => RawKept [CondId.pendingBlocks] s t
  | some i => RawCounted i [CondId.pendingBlocks] s t

/-- The map that serves requests is as before. -/
def RemapKept (s t : State) : Prop := t.map.remap = s.map.remap ∧ t.map.retired = s.map.retired

/-- The words that a successful read of a PBN returns: the block's, or the next free values (R65, R66). -/
def wordsRead (s : State) (pbn : Nat) : Words :=
  match (blockAt s pbn).1 with
  | some ws => ws
  | none => (List.range 256).map (Config.freeWord s.freeDraws)

/-- A tag is DONE with a final status: it has left the queue, owns no slot, and stands in the service list (R8). -/
def DoneWith (t : State) (n : TagNo) (st : Status) : Prop :=
  (t.tag n).state = .done ∧ (t.tag n).final = some st ∧ n ∉ t.req.queue ∧ ownsNoSlot t n ∧ n ∈ t.svc.list

/-- A tag is live in a state, in its place in the queue. -/
def StaysIn (t : State) (n : TagNo) (st : TagState) : Prop := (t.tag n).state = st ∧ n ∈ t.req.queue

/-- Of the slots that a tag owned, it keeps those in LOADING and PROGRAMMING, as they were, and it has gained none. -/
def OnlyBusySlots (s t : State) (n : TagNo) : Prop :=
  ∀ k, (t.slot k).owner = some n →
    t.slot k = s.slot k ∧ ((s.slot k).state = .loading ∨ (s.slot k).state = .programming)

/-- A slot that was freed, with what the arbiter may have made of it at the same event (R34, R36). -/
def slotFreed (t : State) (k : SlotNo) : Prop :=
  t.slot k = Slot.free ∨ (((t.slot k).state = .reserved ∨ (t.slot k).state = .loading) ∧ (t.slot k).data = [])

/-- A commit reason was made (R153): it is still owed, or a commit that records it was started at the same event. -/
def reasonMade (s t : State) : Prop := t.jrnl.commitNeeded = true ∨ t.jrnl.lastStarted = s.jrnl.lastStarted + 1

/-- No tag's block owes a reallocation but one of tag `n`, if given, and no refresh block but one of LBN `l`. -/
def NoOtherOwes (s : State) (n : Option TagNo) (l : Nat) : Prop :=
  (∀ u ∈ s.req.queue, some u ≠ n → ∀ b, (s.tag u).prog = some b → b.owed = false) ∧
    ∀ b, s.patrol.refreshBlock = some b → b.owed = true → b.lbn = l

/-- A background read of an LBN that a program has taken is cancelled (R145), and is otherwise the same. -/
def BgReadCancelled (l : Nat) (s t : State) : Prop :=
  ∀ r, s.patrol.bgRead = some r → ∃ r', t.patrol.bgRead = some r' ∧ r'.lbn = r.lbn ∧ r'.patrolRead = r.patrolRead ∧
    r'.cancelled = (r.cancelled || decide (r.lbn = l))

/-- What a program of an LBN by a tag or an orphan does to what the patrol holds (R145): an owed refresh block and a valid
buffer of the LBN are discarded, a background read of it is cancelled, and what is held for another LBN stays. -/
def PatrolCancelled (l : Nat) (s t : State) : Prop :=
  let owes := ∃ b, s.patrol.refreshBlock = some b ∧ b.lbn = l ∧ b.owed = true
  let holds := s.patrol.refreshBlock = none ∧ s.patrol.buf.valid = true ∧ s.patrol.buf.lbn = some l
  (owes → t.patrol.refreshBlock = none) ∧
  (∀ b, s.patrol.refreshBlock = some b → b.owed = false → t.patrol.refreshBlock = some b) ∧
  (owes ∨ holds → t.patrol.buf.valid = false) ∧
  (¬ owes → ¬ holds → t.patrol.buf = s.patrol.buf) ∧
  BgReadCancelled l s t

/-- A reallocation's PASS in the map (R104 step 1): the LBN is mapped to the spare, every other LBN as before, and a spare it
named before is retired. -/
def MappedTo (l pbn : Nat) (s t : State) : Prop :=
  Memory.find t.map.remap l = some pbn ∧ (∀ m, m ≠ l → Memory.find t.map.remap m = Memory.find s.map.remap m) ∧
    ∀ q, q ∈ t.map.retired ↔ q ∈ s.map.retired ∨ Memory.find s.map.remap l = some q

/-- A reallocation's FAIL in the map (R105 step 2): the spare is retired. -/
def SpareRetired (pbn : Nat) (s t : State) : Prop :=
  t.map.remap = s.map.remap ∧ ∀ q, q ∈ t.map.retired ↔ q ∈ s.map.retired ∨ q = pbn

/-- An LBN has left both lists (R98, R104 step 4, R126), but for the refresh list's head. -/
def ListsCleared (l : Nat) (s t : State) : Prop :=
  t.map.pendingLbns = s.map.pendingLbns.erase l ∧ t.map.overflow = s.map.overflow ∧ refreshAfter (s.map.refresh.erase l) t

/-- An LBN was offered to the pending list and left the refresh list (R119), but for the refresh list's head. -/
def OfferedPending (l : Nat) (s t : State) : Prop :=
  (t.map.pendingLbns, t.map.overflow) = pendingOffered l s.map.pendingLbns s.map.overflow ∧
    refreshAfter (s.map.refresh.erase l) t

/-- The LBN whose reallocation a tag owes. -/
def owedLbn (s : State) (u : TagNo) : Option Nat := (s.tag u).prog.bind fun b => if b.owed then some b.lbn else none

/-- The LBN of a refresh block that owes a reallocation, but for LBN `l`, which a program of a tag has cancelled (R145). -/
def owedRefresh (s : State) (l : Nat) : List Nat :=
  (s.patrol.refreshBlock.bind fun b => if b.owed ∧ b.lbn ≠ l then some b.lbn else none).toList

/-- The LBNs that meet spare exhaustion at the end of tag `n`'s program of LBN `l`, in dispatch-queue order with a patrol
block last (R107, R120); `own` is what tag `n` offers at its place. -/
def owedInOrder (s : State) (n : TagNo) (own : List Nat) (l : Nat) : List Nat :=
  (s.req.queue.flatMap fun u => if u = n then own else (owedLbn s u).toList) ++ owedRefresh s l

/-- The offers of LBNs to the pending list, one after another (R119), from the lists `pend` and `refresh`. -/
def Offered (lbns pend refresh : List Nat) (s t : State) : Prop :=
  (t.map.pendingLbns, t.map.overflow) =
      lbns.foldl (fun lists l => pendingOffered l lists.1 lists.2) (pend, s.map.overflow) ∧
    refreshAfter (lbns.foldl List.erase refresh) t

/-- A block's program has failed and a reallocation is owed, or was granted to the lowest free spare at the same event
(R99, R103, R105). -/
def OwesOrGranted (t : State) (n : TagNo) (b : BlockInProgram) : Prop :=
  (t.tag n).prog = some { b with inFlight := false, owed := true } ∨
    ∃ p, (freeSpares t).head? = some p ∧
      (t.tag n).prog = some { b with stage := .spare, target := p, inFlight := true, owed := false } ∧ opTag t = some n

/-- A tag's block of an LBN has met spare exhaustion (R106). -/
def Exhausted (s t : State) (n : TagNo) (l : Nat) : Prop :=
  let waits := ∃ q, (t.tag n).needed = some q ∧ s.jrnl.lastDone < q
  (t.tag n).prog = none ∧ (t.tag n).completed = (s.tag n).completed + 1 ∧ (t.tag n).passed = (s.tag n).passed ∧
    (t.tag n).issued = (s.tag n).issued ∧ (t.tag n).reallocs = (s.tag n).reallocs ∧ (t.tag n).soFar = .writeFault ∧
    (t.tag n).firstFail = some ((s.tag n).firstFail.getD l) ∧ ownsNoSlot t n ∧
    (∀ k, (s.slot k).owner = some n → slotFreed t k) ∧ (waits → StaysIn t n .ending) ∧
    (¬ waits → DoneWith t n .writeFault)

/-- The counts and outcomes of a tag that only the end of its own operations changes (R2, R3). -/
def ProgressKept (s t : State) (n : TagNo) : Prop :=
  (t.tag n).completed = (s.tag n).completed ∧ (t.tag n).passed = (s.tag n).passed ∧ (t.tag n).moved = (s.tag n).moved ∧
    (t.tag n).worst = (s.tag n).worst ∧ (t.tag n).reallocs = (s.tag n).reallocs ∧
    (t.tag n).uncorrCount = (s.tag n).uncorrCount ∧ (t.tag n).firstFail = (s.tag n).firstFail ∧
    (t.tag n).needed = (s.tag n).needed ∧ (t.tag n).soFar = (s.tag n).soFar ∧ (t.tag n).final = (s.tag n).final

/-- What the end of tag `n`'s program of LBN `l` does to the other tags and to the patrol. If the event leaves no free spare
(`spent`), every other tag that owes a reallocation meets spare exhaustion (R106, R107), and so does the refresh block, but
for LBN `l`, of which R145 cancels what the patrol holds; else these blocks go on owing theirs. -/
def OthersOwed (spent : Prop) (n : TagNo) (l : Nat) (s t : State) : Prop :=
  (∀ u ∈ s.req.queue, u ≠ n → ∀ b, (s.tag u).prog = some b → b.owed = true → (t.tag u).needed = (s.tag u).needed ∧
    (spent → Exhausted s t u b.lbn) ∧
    (¬ spent → OwesOrGranted t u b ∧ StaysIn t u .active ∧ ProgressKept s t u)) ∧
  (∀ u, u ≠ n → owedLbn s u = none → ProgressKept s t u) ∧
  (∀ b, s.patrol.refreshBlock = some b → b.owed = true → b.lbn ≠ l →
    (spent → t.patrol.refreshBlock = none ∧ t.patrol.buf.valid = false ∧ t.patrol.buf.words = []) ∧
    (¬ spent → t.patrol.refreshBlock = some b ∨ ∃ p, (freeSpares t).head? = some p ∧
      t.patrol.refreshBlock = some { b with stage := .spare, target := p, inFlight := true, owed := false })) ∧
  (¬ spent ∨ owedRefresh s l = [] → PatrolCancelled l s t) ∧ BgReadCancelled l s t

/-- The operation in flight is that of an ACTIVE tag in the queue which carries one of the two marks (R18, R21). -/
def MarkedOpInFlight (s : State) (o : ArrayOp) (n : TagNo) : Prop :=
  s.array.op = some o ∧ o.requester = .tag n ∧ (s.tag n).state = .active ∧ n ∈ s.req.queue ∧
    (s.tag n).abortMark = !(s.tag n).wpMark

/-- The operation in flight is a tag's, an ACTIVE tag in the queue without marks. -/
def TagOpInFlight (s : State) (o : ArrayOp) (n : TagNo) : Prop :=
  s.array.op = some o ∧ o.requester = .tag n ∧ (s.tag n).state = .active ∧ n ∈ s.req.queue ∧
    (s.tag n).abortMark = false ∧ (s.tag n).wpMark = false

/-- Every tag in the queue is live (R14). -/
def queueLive (s : State) : Prop := ∀ u ∈ s.req.queue, (s.tag u).state.live = true

/-- A command completes with a result (R188): CMDRES, no current command, COMMAND latched. -/
def completedWith (code : BitVec 8) (r : CmdResult) (s : State) : State :=
  { s with cmd := { s.cmd with running := none, result := r, resultCode := code }
           attn := { s.attn with latched := s.attn.latched ||| 0x02#8 } }

/-- A write to CMD, under whichever row (R187). -/
def writesCmd : Instr → Prop
  | .patrolSegment _ | .patrolPass _ | .patrolAuto _ | .patrolStop _ | .reportBuild _ | .thresholdLoad _
  | .conditionSave _ | .badCommand _ => True
  | .registerWrite a _ => a = 0x0D
  | _ => False

/-! ## Slot grants and the arbiter -/

/-- A tag meets the conditions for a slot but for R32 (R30, R31). -/
def wantsOne (s : State) (n : TagNo) : Prop :=
  ((s.tag n).state = .held ∨ (s.tag n).state = .queued ∨ (s.tag n).state = .active) ∧ (s.tag n).abortMark = false ∧
    heldCount s n < s.cfg.slotQuota ∧
    (((s.tag n).kind = .read ∧ (s.tag n).issued + (slotsOf s n (· == .reserved)).length < (s.tag n).count) ∨
     ((s.tag n).kind = .write ∧ (s.tag n).wpMark = false ∧ (s.tag n).moved < (s.tag n).count ∧
       ∀ k, (s.slot k).owner = some n → (s.slot k).state ≠ .reserved ∧ (s.slot k).state ≠ .filling))

/-- A tag is eligible for a slot: a HELD one only while no QUEUED or ACTIVE tag wants one (R30, R31, R32). -/
def eligible (s : State) (n : TagNo) : Prop :=
  n ∈ s.req.queue ∧ wantsOne s n ∧
    ((s.tag n).state = .held → ∀ u ∈ s.req.queue, (s.tag u).state ≠ .held → ¬ wantsOne s u)

/-- Journal work is runnable (R69). -/
def journalDue (s : State) : Prop :=
  (s.jrnl.mode = .starting ∧ s.jrnl.scanNext ≠ none) ∨
    (s.jrnl.mode ≠ .readOnly ∧ s.jrnl.scanNext = none ∧ (s.jrnl.commit ≠ none ∨ s.jrnl.commitNeeded = true))

/-- A tag's block that failed is owed a reallocation, and a spare is free (R70). -/
def canReallocate (s : State) (n : TagNo) : Prop :=
  (∃ b, (s.tag n).prog = some b ∧ b.owed = true) ∧ freeSpares s ≠ []

/-- A tag has a runnable operation (R70, R73). -/
def canRun (s : State) (n : TagNo) : Prop :=
  ((s.tag n).state = .queued ∨ (s.tag n).state = .active) ∧ (s.tag n).abortMark = false ∧ (s.tag n).wpMark = false ∧
    match (s.tag n).kind with
    | .read => (∃ c, (s.tag n).cur = some c ∧ c.retryOwed = true) ∨
        ((s.tag n).cur = none ∧ ∃ k, (s.slot k).owner = some n ∧ (s.slot k).state = .reserved)
    | .check => (∃ c, (s.tag n).cur = some c ∧ c.retryOwed = true) ∨
        ((s.tag n).cur = none ∧ (s.tag n).issued < (s.tag n).count)
    | .write => s.jrnl.mode ≠ .readOnly ∧ (canReallocate s n ∨
        ((s.tag n).prog = none ∧ ∃ k, (s.slot k).owner = some n ∧ (s.slot k).state = .full))
    | .zero => s.jrnl.mode ≠ .readOnly ∧ (canReallocate s n ∨
        ((s.tag n).prog = none ∧ (s.tag n).issued < (s.tag n).count))

/-- A command after which the arbiter has granted an operation: the unit was idle, or the command completed the operation
that was in flight (R68). -/
def NewGrant (c : Instr) (s t : State) (o : ArrayOp) : Prop :=
  exec c s = .next t ∧ t.array.op = some o ∧
    ∀ p, s.array.op = some p → (∃ out, c = .readBlockCompletion out ∧ p.operation = .readBlock) ∨
      ∃ out, c = .programBlockCompletion out ∧ p.operation = .programBlock

/-! ## Invariants -/

/-- R34: no slot is free, or no tag is eligible for one. -/
def SlotsGranted (s : State) : Prop := (∀ k, (s.slot k).state ≠ .free) ∨ ∀ n, ¬ eligible s n

/-- R13, R14: in each group of the queue the arrival numbers rise and stay below the counter, which is 0 with the queue
empty and never above 4,294,967,295. -/
def ArrivalOk (s : State) : Prop :=
  s.req.queue.Pairwise (fun a b => (s.tag a).urgent = (s.tag b).urgent → (s.tag a).arrival < (s.tag b).arrival) ∧
    (∀ n ∈ s.req.queue, (s.tag n).arrival < s.req.arrival) ∧ (s.req.queue = [] → s.req.arrival = 0) ∧
    s.req.arrival ≤ 4294967295

/-- R4, R17: a HELD tag has a blocker, and every blocker of it is live. -/
def HeldOk (s : State) : Prop :=
  ∀ n, (s.tag n).state = .held → (s.tag n).blockers ≠ [] ∧ ∀ u ∈ (s.tag n).blockers, (s.tag u).state.live = true

/-- R126: the pending list holds at most 16 distinct LBNs, the refresh list at most 8, and no LBN is in both. -/
def ListsOk (s : State) : Prop :=
  s.map.pendingLbns.length ≤ 16 ∧ s.map.pendingLbns.Nodup ∧ s.map.refresh.length ≤ 8 ∧ s.map.refresh.Nodup ∧
    ∀ n ∈ s.map.refresh, n ∉ s.map.pendingLbns

/-- The scan candidate has passed the tests of R151. -/
def CandidateOk (s : State) : Prop := ∀ c, s.jrnl.candidate = some c → fieldsValid c.image = true

/-- R170, R172, R173: every grade is the grade of its raw value, 1 ≤ worst grade ≤ grade ≤ 100, and the raw values of
conditions 5 and 6 are the free spares and the pending length. -/
def ConditionsOk (s : State) : Prop :=
  (∀ i : CondId, 1 ≤ (s.cond[i]).worst ∧ (s.cond[i]).worst ≤ (s.cond[i]).grade ∧ (s.cond[i]).grade ≤ 100 ∧
      (s.cond[i]).grade = gradeOf i (s.cond[i]).raw) ∧
    (s.cond[CondId.sparesRemaining]).raw = (freeSpares s).length ∧
    (s.cond[CondId.pendingBlocks]).raw = s.map.pendingLbns.length

/-- R14: the dispatch queue holds exactly the live tags, each once, urgent tags first; the tag whose operation is in
flight is ACTIVE (R5), and a HELD or QUEUED tag has no block outstanding (R77, R96). -/
def QueueOk (s : State) : Prop :=
  s.req.queue.Nodup ∧ (∀ t, t ∈ s.req.queue ↔ (s.tag t).state.live = true) ∧
    s.req.queue.Pairwise (fun a b => (s.tag b).urgent = true → (s.tag a).urgent = true) ∧
    (∀ t, opTag s = some t → (s.tag t).state = .active) ∧
    ∀ t, (s.tag t).state = .held ∨ (s.tag t).state = .queued → (s.tag t).cur = none ∧ (s.tag t).prog = none

/-- R18, R21, R46, R96, R103: only WRITE and ZERO tags have a block in program; one that owes a reallocation has no operation
in flight, its tag is ACTIVE without marks, and the store is not READ_ONLY. While the operation in flight is the patrol's
or an orphan's no tag owes a reallocation (R72, R75), and beside an orphan's there is no refresh block (R148). -/
def OwedOk (s : State) : Prop :=
  (∀ n b, (s.tag n).prog = some b → (s.tag n).kind.writes = true ∧
    (b.owed = true → b.inFlight = false ∧ (s.tag n).state = .active ∧ (s.tag n).abortMark = false ∧
      (s.tag n).wpMark = false ∧ opTag s ≠ some n ∧ s.jrnl.mode ≠ .readOnly)) ∧
  (∀ b, s.patrol.refreshBlock = some b → b.owed = true → b.inFlight = false ∧ s.jrnl.mode ≠ .readOnly) ∧
  (∀ o, s.array.op = some o → o.requester = .none ∨ o.requester = .patrol →
    ∀ n b, (s.tag n).prog = some b → b.owed = false) ∧
  (∀ o, s.array.op = some o → o.requester = .none → s.patrol.refreshBlock = none)

/-- R49, R58: the service list holds each tag at most once and no FREE tag, and SERVICE is never latched. -/
def ServiceOk (s : State) : Prop :=
  s.svc.list.Nodup ∧ (∀ t ∈ s.svc.list, (s.tag t).state ≠ .free) ∧ s.attn.latched.getLsbD 0 = false

/-- R152, R160: last-done is never above last-started, nor is the sequence of a commit in progress, which has made an attempt;
the next position is a ring position; ring reads belong to STARTING, and no ring read is owed beside a journal operation in
flight; no commit is in progress while a ring read is owed or in flight, since the scan comes before the first commit (R163,
R166); while RSTn is low the unit is idle and the timers are stopped. -/
def JournalOk (s : State) : Prop :=
  s.jrnl.lastDone ≤ s.jrnl.lastStarted ∧
    (∀ c, s.jrnl.commit = some c → c.sequence ≤ s.jrnl.lastStarted ∧ 1 ≤ c.attempts) ∧
    s.jrnl.nextPos ≤ 31 ∧
    (s.jrnl.mode ≠ .starting → s.jrnl.scanNext = none) ∧
    (∀ o, s.array.op = some o → o.requester = .journal →
      s.jrnl.scanNext = none ∧ (o.operation = .readBlock → s.jrnl.mode = .starting ∧ s.jrnl.commit = none)) ∧
    (s.jrnl.scanNext ≠ none → s.jrnl.commit = none) ∧
    (s.rstnLow = true → s.array.op = none ∧ s.patrol.quietTimer = none ∧ s.patrol.gapTimer = none)

/-- The block storage and the remap table keep their canonical form (R100: sorted by LBN, no LBN twice). -/
def StorageOk (s : State) : Prop :=
  Memory.wf s.array.blocks = true ∧ Memory.wf s.array.ring = true ∧ Memory.wf s.map.remap = true

/-- R29: a FREE slot has no owner, no bound LBN, position 0 and no data. -/
def SlotsOk (s : State) : Prop := ∀ n, (s.slot n).state = .free → s.slot n = Slot.free

/-- What the change to READ_ONLY does to the tags (R18, R46, R115). A WRITE or ZERO tag is DONE, an ENDING one with
JOURNAL_FAULT and another with WRITE_PROTECTED, an owed block of it counted as completed and its LBN listed or noted; but one
whose operation is in flight stays ACTIVE: it takes the write-protect mark and loses its resting slots, or keeps its abort
mark. A READ or CHECK tag goes on. -/
def StoppedByReadOnly (s t : State) : Prop :=
  ∀ n ∈ s.req.queue,
    ((s.tag n).kind.writes = true →
      ((s.tag n).state = .ending → DoneWith t n .journalFault) ∧
      ((s.tag n).state = .held ∨ (s.tag n).state = .queued → DoneWith t n .writeProtected) ∧
      ((s.tag n).state = .active → opTag s ≠ some n → DoneWith t n .writeProtected ∧
        ∀ b, (s.tag n).prog = some b → b.owed = true → (t.tag n).completed = (s.tag n).completed + 1 ∧
          (b.lbn ∈ t.map.pendingLbns ∨ t.map.overflow = 65535 ∨ s.map.overflow < t.map.overflow)) ∧
      ((s.tag n).state = .active → opTag s = some n → n ∈ t.req.queue ∧
        ((s.tag n).abortMark = false → t.tag n = { s.tag n with wpMark := true } ∧ (SlotsOk s → OnlyBusySlots s t n)) ∧
        ((s.tag n).abortMark = true → t.tag n = s.tag n))) ∧
    ((s.tag n).kind.writes = false → (s.tag n).state.live = true →
      (t.tag n).state.live = true ∧ n ∈ t.req.queue ∧ ProgressKept s t n)

/-- R193, R194: the configuration fields hold valid values. -/
def ConfigOk (s : State) : Prop :=
  1 ≤ s.cfg.refreshLevel ∧ s.cfg.refreshLevel ≤ 8 ∧ s.cfg.retryLimit ≤ 3 ∧ 1 ≤ s.cfg.slotQuota ∧ s.cfg.slotQuota ≤ 8 ∧
    s.cfg.quietCode ≤ 255 ∧ s.cfg.segCode ≤ 3

/-- R130, R134, R135, R137: RUNNING only while background is permitted, WAITING only while it is not; a mode unless IDLE;
the gap timer runs in GAP alone; live tags keep the quiet timer stopped and quiet elapsed clear; and nothing of this
before start-up ends. -/
def PatrolOk (s : State) : Prop :=
  (s.patrol.state = .running → bgPermitted s = true) ∧ (s.patrol.state = .waiting → bgPermitted s = false) ∧
    (s.patrol.state = .idle ↔ s.patrol.mode = none) ∧ (s.patrol.state = .gap ↔ s.patrol.gapTimer ≠ none) ∧
    (s.req.queue ≠ [] → s.patrol.quietTimer = none ∧ s.patrol.quietElapsed = false) ∧
    ((s.rstnLow = true ∨ s.jrnl.mode = .starting) → s.req.queue = [] ∧ s.patrol.state = .idle)

/-- R68: while the Array Unit is idle nothing is runnable. -/
def UnitOk (s : State) : Prop := s.array.op = none → choose s = none

/-- Every step keeps an invariant. -/
def Kept (Inv : State → Prop) : Prop := ∀ s, Inv s → ∀ t, step s = .next t → Inv t

end Sys2Proof.Machine
end

