-- ==== Sys2Proof/Certificates/Slice0/Obligations.lean ====
section
/-! DEFINITION. The statements about the model, for the provers. `Completes c s P` says that `c` answers a next state of which
`P` holds; `s.rstnLow = false` says that RSTn is high, so that bus accesses are taken (R185). -/
open Sys2Proof Sys2Proof.Machine

/-! ## The step and the queue of commands -/

/-- A step runs the command at the front of the queue, on the state with the queue's rest; with no command waiting the
part idles. The queue is the model's own (notes/assumptions/2.md). -/
def Obligations.StepRunsFrontCommand : Prop :=
  ∀ s : State, (∀ (c : Instr) (cs : List Instr), s.pending = c :: cs → step s = exec c { s with pending := cs }) ∧
    (s.pending = [] → step s = .next s)

/-- Every command answers a next state, and none touches the commands that wait (notes/assumptions/1.md). -/
def Obligations.EveryCommandCompletes : Prop :=
  ∀ (c : Instr) (s : State), Completes c s fun t => t.pending = s.pending

/-! ## Who may change what -/

/-- AENABLE, QLBN, QCOUNT, QCTRL, QRESULT, QABORT, ABORT_IGNORED, PTAG, PORT_MISS, the completion readout, RPTR, the
report buffer, CFGA, CFGB, PGAP and CFG_REJECT change by their own commands and the resets alone; CMDRES and PPOS change
besides at the completions of the array's operations. -/
def Obligations.RegistersChangeByTheirOwnCommands : Prop :=
  ∀ (c : Instr) (s t : State), exec c s = .next t → c ≠ .powerOnReset →
    ((∀ v, c ≠ .aenableWrite v) → (∀ v, c ≠ .registerWrite 0x03 v) → t.attn.enable = s.attn.enable) ∧
    (c ≠ .softReset → (∀ v, c ≠ .registerWrite 0x19 v) →
      ((∀ v, c ≠ .registerWrite 0x04 v) → t.req.qlbn = s.req.qlbn) ∧
      ((∀ v, c ≠ .registerWrite 0x05 v) → t.req.qcount = s.req.qcount) ∧
      ((∀ v, c ≠ .submission v) → (∀ v, c ≠ .registerWrite 0x06 v) →
        t.req.qctrl = s.req.qctrl ∧ t.req.qresult = s.req.qresult ∧ t.req.qresultTag = s.req.qresultTag) ∧
      ((∀ v, c ≠ .abortRequest v) → (∀ v, c ≠ .registerWrite 0x0C v) →
        t.req.qabort = s.req.qabort ∧ t.req.abortIgnored = s.req.abortIgnored) ∧
      ((∀ v, c ≠ .ptagWrite v) → (∀ v, c ≠ .registerWrite 0x09 v) → t.port.attached = s.port.attached) ∧
      (c ≠ .pdataRead → (∀ v, c ≠ .pdataWrite v) → (∀ v, c ≠ .registerWrite 0x0B v) → (∀ v, c ≠ .ptagWrite v) →
        (∀ v, c ≠ .registerWrite 0x09 v) → t.port.miss = s.port.miss) ∧
      (c ≠ .svcnextPop → t.svc.readout = s.svc.readout) ∧
      (c ≠ .rdataRead → (∀ v, c ≠ .rdataWrite v) → (∀ v, c ≠ .registerWrite 0x13 v) →
        (∀ v, c ≠ .registerWrite 0x14 v) → t.cmd.rptr = s.cmd.rptr) ∧
      ((∀ v, c ≠ .rdataWrite v) → (∀ v, c ≠ .registerWrite 0x14 v) → c ≠ .reportBuildCompletion →
        t.cmd.buffer = s.cmd.buffer) ∧
      ((∀ v, c ≠ .cfgaWrite v) → (∀ v, c ≠ .cfgbWrite v) → (∀ v, c ≠ .registerWrite 0x15 v) →
        (∀ v, c ≠ .registerWrite 0x16 v) → (∀ v, c ≠ .registerWrite 0x17 v) → t.cfg = s.cfg) ∧
      (¬ writesCmd c → (∀ o, c ≠ .readBlockCompletion o) → (∀ o, c ≠ .programBlockCompletion o) →
        t.patrol.resume = s.patrol.resume ∧
        (c ≠ .reportBuildCompletion → t.cmd.result = s.cmd.result ∧ t.cmd.resultCode = s.cmd.resultCode)))

/-- While RSTn is low no bus access is taken (R185): the part drives no data and ignores the write. And an event that
cannot come changes nothing: a completion with no operation of its kind in flight, an expiry of a stopped timer, RSTn
rising while it is high, the end of a build while none runs (the model's choice, notes/assumptions/1.md). -/
def Obligations.IgnoredCommandsChangeNothing : Prop :=
  (∀ (c : Instr) (s : State), s.rstnLow = true → c ≠ .reportBuildCompletion → c ≠ .powerOnReset → c ≠ .startUp →
     (∀ o, c ≠ .readBlockCompletion o) → (∀ o, c ≠ .programBlockCompletion o) → c ≠ .quietTimerExpiry →
     c ≠ .gapTimerExpiry → exec c s = .next s) ∧
  (∀ s : State,
     (∀ out, (∀ o, s.array.op = some o → o.operation ≠ .readBlock) → exec (.readBlockCompletion out) s = .next s) ∧
     (∀ out, (∀ o, s.array.op = some o → o.operation ≠ .programBlock) → exec (.programBlockCompletion out) s = .next s) ∧
     (s.patrol.quietTimer = none → exec .quietTimerExpiry s = .next s) ∧
     (s.patrol.gapTimer = none → exec .gapTimerExpiry s = .next s) ∧
     (s.rstnLow = false → exec .startUp s = .next s) ∧
     ((∀ r, s.cmd.running ≠ some (.reportBuild r)) → exec .reportBuildCompletion s = .next s))

/-! ## Resets and start-up -/

/-- POWER_ON_RESET: every block holds its power-on values, and the operation in flight is gone. The window (section 11.6):
each register with a value there reads it, the reserved offsets read 0, and STAT reads STARTING, GOOD, NEVER_RUN, IDLE
with FOREGROUND_IDLE set. -/
def Obligations.PowerOnResetValues : Prop :=
  (∀ s : State, Completes .powerOnReset s fun t =>
     t.rstnLow = true ∧ (∀ n, (t.tag n).state = .free) ∧ t.req.queue = [] ∧ t.req.arrival = 0 ∧
     (∀ n, t.slot n = Slot.free) ∧ t.svc.list = [] ∧ t.svc.readout = none ∧ t.port = { attached := 0, miss := false } ∧
     t.array.op = none ∧
     t.map = { remap := [], retired := [], pendingLbns := [], overflow := 0, refresh := [] } ∧
     t.patrol.state = .idle ∧ t.patrol.mode = none ∧ t.patrol.status = .neverRun ∧ t.patrol.resume = 0 ∧
     t.patrol.quietTimer = none ∧ t.patrol.quietElapsed = false ∧ t.patrol.gapTimer = none ∧ t.patrol.bgRead = none ∧
     t.patrol.buf.valid = false ∧ t.patrol.refreshBlock = none ∧
     t.jrnl.mode = .starting ∧ t.jrnl.lastStarted = 0 ∧ t.jrnl.lastDone = 0 ∧ t.jrnl.nextPos = 0 ∧
     t.jrnl.commitNeeded = false ∧ t.jrnl.commit = none ∧ t.jrnl.candidate = none ∧ t.jrnl.imageBuffer = .nothing ∧
     (∀ i : CondId, (t.cond[i]).raw = (if i = CondId.sparesRemaining then 96 else 0) ∧ (t.cond[i]).grade = 100 ∧
       (t.cond[i]).worst = 100) ∧
     t.cond.toList.map (·.threshold) = [10, 50, 60, 40, 20, 30, 10, 0, 5, 0, 50, 0] ∧
     t.cmd.running = none ∧ t.cmd.result = .none ∧ t.cmd.rptr = 0 ∧ (∀ k : Fin 256, t.cmd.buffer[k] = 0) ∧
     t.cfg = { refreshLevel := 5, retryLimit := 2, slotQuota := 4, quietCode := 10, segCode := 2, passGap := 0,
               cfgReject := false } ∧
     t.attn = { latched := 0, enable := 0 } ∧ attnLow t = false) ∧
  (∀ s : State, Completes .powerOnReset s fun t =>
     regRead t 0x00 = 0xD401#16 ∧ regRead t 0x01 = 0x0800#16 ∧ regRead t 0x02 = 0 ∧ regRead t 0x03 = 0 ∧
     regRead t 0x04 = 0 ∧ regRead t 0x05 = 0 ∧ regRead t 0x06 = 0 ∧ regRead t 0x07 = 0 ∧ regRead t 0x09 = 0 ∧
     regRead t 0x0A = 0 ∧ regRead t 0x0C = 0 ∧ regRead t 0x0D = 0 ∧ regRead t 0x0E = 0 ∧ regRead t 0x0F = 0 ∧
     regRead t 0x10 = 0 ∧ regRead t 0x11 = 0xFFFF#16 ∧ regRead t 0x12 = 0 ∧ regRead t 0x13 = 0 ∧
     regRead t 0x15 = 0x0425#16 ∧ regRead t 0x16 = 0x020A#16 ∧ regRead t 0x17 = 0 ∧ regRead t 0x18 = 0 ∧
     regRead t 0x19 = 0 ∧ ∀ a : RegAddr, 0x1A ≤ a.toNat → regRead t a = 0)

/-- START_UP (R163): RSTn is high, the store mode is STARTING, and the ring read of position 0 is granted at once; nothing
outside the Journal and the Array Unit changes. Then each ring read (R164), with any outcome: an image read that is valid
(its check is a free function, notes/assumptions/7.md) with a greater sequence than the candidate's becomes the candidate,
else the candidate stays. Before position 31 the next position is read. After it (R165, R166) the candidate is loaded and
the part is READY with START latched, or without one the fresh state's commit is started. -/
def Obligations.StartUpScan : Prop :=
  (∀ s : State, s.rstnLow = true → s.array.op = none → exec .startUp s = .next { s with
     rstnLow := false
     jrnl := { mode := .starting, lastStarted := 0, lastDone := 0, nextPos := 0, commitNeeded := false, commit := none,
               imageBuffer := .nothing, candidate := none, scanNext := none }
     array := { s.array with op := some { operation := .readBlock, pbn := 4064, lbn := none, requester := .journal,
                                          purpose := .ringRead, data := .imageBuffer, payload := .none } } }) ∧
  (∀ (p : Nat) (o : ArrayOp) (out : ReadOutcome) (s : State),
     s.array.op = some o → o.operation = .readBlock → o.requester = .journal → o.pbn = 4064 + p → p ≤ 31 →
     s.jrnl.mode = .starting → s.jrnl.commitNeeded = false → s.jrnl.commit = none → s.jrnl.scanNext = none →
     s.req.queue = [] →
     let found (i : StateImage) : Prop := out ≠ .uncorrectable ∧ (blockAt s o.pbn).2 = some i
     let better (i : StateImage) : Prop :=
       imageValid i = true ∧ ∀ k, s.jrnl.candidate = some k → k.image.sequence < i.sequence
     let best (k : Candidate) : Prop := (k.position = p ∧ found k.image ∧ better k.image) ∨
       (s.jrnl.candidate = some k ∧ ∀ i, found i → ¬ better i)
     let noImage : Prop := s.jrnl.candidate = none ∧ ∀ i, found i → imageValid i = false
     (p < 31 → Completes (.readBlockCompletion out) s fun t =>
       t.jrnl.mode = .starting ∧
       t.array.op = some { operation := .readBlock, pbn := 4064 + (p + 1), lbn := none, requester := .journal,
                           purpose := .ringRead, data := .imageBuffer, payload := .none } ∧
       (∀ k, best k → t.jrnl.candidate = some k) ∧ (noImage → t.jrnl.candidate = none) ∧
       HealthKept s t ∧ ArrayKept s t) ∧
     (p = 31 → ∀ k, best k → k.position ≤ 31 → Completes (.readBlockCompletion out) s fun t =>
       t.jrnl.mode = .ready ∧ t.jrnl.lastStarted = k.image.sequence ∧ t.jrnl.lastDone = k.image.sequence ∧
       t.jrnl.nextPos = (k.position + 1) % 32 ∧
       t.map = { remap := k.image.remap, retired := k.image.retired, pendingLbns := k.image.pendingLbns,
                 overflow := 0, refresh := [] } ∧
       t.patrol.resume = k.image.resume ∧ t.attn.latched.getLsbD 7 = true ∧
       (∀ i : CondId, (t.cond[i]).threshold = k.image.thresholds.getD i.val 0 ∧
         (t.cond[i]).grade = gradeOf i (t.cond[i]).raw ∧
         (t.cond[i]).worst = min (k.image.worst.getD i.val 100) (t.cond[i]).grade) ∧
       (t.cond[CondId.sparesRemaining]).raw = (freeSpares t).length ∧
       (t.cond[CondId.pendingBlocks]).raw = k.image.pendingLbns.length ∧
       (∀ q ∈ [(CondId.correctedReads, 0), (CondId.retryRecoveries, 1), (CondId.uncorrectableReads, 2),
           (CondId.reallocations, 3), (CondId.programFailures, 4), (CondId.patrolPasses, 5), (CondId.refreshes, 6),
           (CondId.journalCommits, 7), (CondId.journalSkips, 8)], (t.cond[q.1]).raw = k.image.raws.getD q.2 0) ∧
       (t.cond[CondId.powerStarts]).raw = oneMore (k.image.raws.getD 9 0) ∧ ArrayKept s t) ∧
     (p = 31 → noImage → s.jrnl.lastStarted < 4294967295 → Completes (.readBlockCompletion out) s fun t =>
       t.jrnl.mode = .starting ∧ t.map.remap = [] ∧ t.map.retired = [] ∧ t.map.pendingLbns = [] ∧
       t.patrol.resume = 0 ∧ (t.cond[CondId.powerStarts]).raw = 1 ∧
       (∀ i : CondId, i ≠ CondId.powerStarts → t.cond[i] = State.reset.cond[i]) ∧
       t.jrnl.commit = some { sequence := s.jrnl.lastStarted + 1, attempts := 1 } ∧
       (∃ i, i.sequence = s.jrnl.lastStarted + 1 ∧ i.remap = [] ∧ i.pendingLbns = [] ∧ i.resume = 0 ∧
         t.array.op = some { operation := .programBlock, pbn := 4064 + s.jrnl.nextPos, lbn := none,
                             requester := .journal, purpose := .ringProgram, data := .imageBuffer,
                             payload := .image i }) ∧ ArrayKept s t))

/-- SOFT_RESET in READY or READ_ONLY (R198): what each block gives up, of the patrol's work also the refresh block, and a
background read unless an attempt of it is in flight (R148); and what each block keeps. The operation in flight goes on
(R75): a tag's becomes an orphan, PATROL and JOURNAL stay. During STARTING the write is ignored (R163). -/
def Obligations.SoftReset : Prop :=
  (∀ s : State, s.rstnLow = false → s.jrnl.mode ≠ .starting → Completes .softReset s fun t =>
     (∀ n, (t.tag n).state = .free) ∧ t.req.queue = [] ∧ t.req.arrival = 0 ∧ t.req.qlbn = 0 ∧ t.req.qcount = 0 ∧
     t.req.qctrl = 0 ∧ t.req.qresult = .none ∧ t.req.qabort = 0 ∧ t.req.abortIgnored = false ∧
     t.svc.list = [] ∧ t.svc.readout = none ∧ t.port = { attached := 0, miss := false } ∧ t.map.refresh = [] ∧
     t.cmd.running = none ∧ t.cmd.result = .none ∧ t.cmd.rptr = 0 ∧ t.cfg.cfgReject = false ∧ t.attn.latched = 0 ∧
     t.patrol.state = .idle ∧ t.patrol.mode = none ∧ t.patrol.gapTimer = none ∧ t.patrol.buf.valid = false ∧
     t.patrol.refreshBlock = none ∧ (s.patrol.bgRead = none → t.patrol.bgRead = none) ∧
     (∀ r, s.patrol.bgRead = some r → r.inFlight = false → t.patrol.bgRead = none) ∧
     (∀ r, s.patrol.bgRead = some r → r.inFlight = true → r.retryOwed = false →
       t.patrol.bgRead = some { r with dropped := true }) ∧
     t.patrol.status = (if s.patrol.state = .idle then s.patrol.status else .haltedReset) ∧
     t.patrol.quietTimer = (if s.cfg.quietCode = 0 then none else some (quietTime s.cfg.quietCode)) ∧
     t.patrol.quietElapsed = decide (s.cfg.quietCode = 0) ∧
     (∀ n, opSlot s ≠ some n → t.slot n = Slot.free) ∧
     (∀ n, opSlot s = some n → t.slot n = { s.slot n with owner := none })) ∧
  (∀ s : State, (s.jrnl.mode = .starting → exec .softReset s = .next s) ∧
   (s.rstnLow = false → s.jrnl.mode ≠ .starting → Completes .softReset s fun t =>
     t.rstnLow = false ∧ HealthKept s t ∧ t.patrol.resume = s.patrol.resume ∧ t.jrnl.mode = s.jrnl.mode ∧
     t.jrnl.lastDone = s.jrnl.lastDone ∧ t.jrnl.nextPos = s.jrnl.nextPos ∧
     t.cfg = { s.cfg with cfgReject := false } ∧ t.attn.enable = s.attn.enable ∧ ArrayKept s t ∧
     ((∀ r, s.cmd.running ≠ some (.reportBuild r)) → t.cmd.buffer = s.cmd.buffer))) ∧
  (∀ (s : State) (o : ArrayOp), s.rstnLow = false → s.jrnl.mode ≠ .starting → s.array.op = some o →
     Completes .softReset s fun t =>
       t.jrnl = s.jrnl ∧
       ((∃ n, o.requester = .tag n) → t.array.op = some { o with requester := .none }) ∧
       ((∀ n, o.requester ≠ .tag n) → t.array.op = some o))

/-! ## Submission -/

/-- SUBMISSION (R11): the six refusals in their order. A refused submission sets QRESULT, with QCTRL as written (R10), and
changes nothing else. -/
def Obligations.SubmissionRefusals : Prop :=
  ∀ (v : Word) (s : State), s.rstnLow = false →
    let n : TagNo := ⟨v.toNat % 16, Nat.mod_lt _ (by decide)⟩
    let kind := v.toNat / 16 % 8
    let count := s.req.qcount.toNat
    let refusedWith (r : QResult) : Prop := exec (.submission v) s =
      .next { s with req := { s.req with qctrl := v, qresult := r, qresultTag := n } }
    let ready := s.jrnl.mode ≠ .starting
    let tagFree := ready ∧ (s.tag n).state = .free
    let kindKnown := tagFree ∧ 1 ≤ kind ∧ kind ≤ 4
    let countFits := kindKnown ∧ count ≠ 0 ∧ (kind ≤ 2 → count ≤ 16) ∧ (3 ≤ kind → count ≤ 256)
    let rangeFits := countFits ∧ s.req.qlbn.toNat + count ≤ 3968
    (¬ ready → refusedWith .notReady) ∧
    (ready ∧ (s.tag n).state ≠ .free → refusedWith .tagBusy) ∧
    (tagFree ∧ ¬ (1 ≤ kind ∧ kind ≤ 4) → refusedWith .badKind) ∧
    (kindKnown ∧ (count = 0 ∨ (kind ≤ 2 ∧ 16 < count) ∨ (3 ≤ kind ∧ 256 < count)) → refusedWith .badCount) ∧
    (countFits ∧ 3968 < s.req.qlbn.toNat + count → refusedWith .range) ∧
    (rangeFits ∧ (kind = 2 ∨ kind = 4) ∧ s.jrnl.mode = .readOnly → refusedWith .writeProtected)

/-- SUBMISSION accepted (R1, R12, R14, R16): the tag's record, its place in the dispatch queue, its blocker set, the
arrival counter, QRESULT, the quiet timer. -/
def Obligations.SubmissionAccepted : Prop :=
  ∀ (v : Word) (k : Kind) (s : State), s.rstnLow = false → s.jrnl.mode ≠ .starting →
    let n : TagNo := ⟨v.toNat % 16, Nat.mod_lt _ (by decide)⟩
    let lbn := s.req.qlbn.toNat
    let count := s.req.qcount.toNat
    let bs := s.req.queue.filter fun u =>
      decide (lbn < (s.tag u).firstLbn + (s.tag u).count) && decide ((s.tag u).firstLbn < lbn + count) &&
        (decide (k = .write ∨ k = .zero) || decide ((s.tag u).kind = .write ∨ (s.tag u).kind = .zero))
    (s.tag n).state = .free → v.toNat / 16 % 8 = k.code → count ≠ 0 →
    (k = .read ∨ k = .write → count ≤ 16) → (k = .check ∨ k = .zero → count ≤ 256) → lbn + count ≤ 3968 →
    (k = .write ∨ k = .zero → s.jrnl.mode = .ready) →
    s.req.arrival < 4294967295 → (∀ u ∈ s.req.queue, (s.tag u).state.live = true) →
    Completes (.submission v) s fun t =>
      t.req.qresult = .accepted ∧ t.req.qresultTag = n ∧ t.req.qctrl = v ∧ t.req.qlbn = s.req.qlbn ∧
      t.req.qcount = s.req.qcount ∧ t.req.arrival = s.req.arrival + 1 ∧
      t.req.queue = (if v.getLsbD 8 then s.req.queue.takeWhile (fun u => (s.tag u).urgent) ++
          n :: s.req.queue.dropWhile (fun u => (s.tag u).urgent) else s.req.queue ++ [n]) ∧
      (t.tag n).kind = k ∧ (t.tag n).firstLbn = lbn ∧ (t.tag n).count = count ∧ (t.tag n).urgent = v.getLsbD 8 ∧
      (t.tag n).noRetry = v.getLsbD 9 ∧ (t.tag n).arrival = s.req.arrival ∧ (t.tag n).blockers = bs ∧
      (t.tag n).completed = 0 ∧ (t.tag n).moved = 0 ∧ (t.tag n).worst = 0 ∧ (t.tag n).retriesUsed = 0 ∧
      (t.tag n).reallocs = 0 ∧ (t.tag n).uncorrCount = 0 ∧ (t.tag n).firstFail = none ∧ (t.tag n).needed = none ∧
      (t.tag n).abortMark = false ∧ (t.tag n).wpMark = false ∧ (t.tag n).soFar = .ok ∧
      (bs ≠ [] → (t.tag n).state = .held) ∧
      (bs = [] → (t.tag n).state = .queued ∨ ((t.tag n).state = .active ∧ opTag t = some n)) ∧
      t.patrol.quietTimer = none ∧ t.patrol.quietElapsed = false ∧
      t.patrol.state = (if s.patrol.state = .running then .waiting else s.patrol.state) ∧ OthersKept s t

/-- An acceptance that finds the arrival counter at its limit first renumbers the queue (R13): the order of the arrival
numbers is kept, the new tag comes after them all, and the counter stands one above it. -/
def Obligations.RenumberingKeepsArrivalOrder : Prop :=
  ∀ (v : Word) (k : Kind) (s : State), s.rstnLow = false → s.jrnl.mode ≠ .starting →
    let n : TagNo := ⟨v.toNat % 16, Nat.mod_lt _ (by decide)⟩
    let count := s.req.qcount.toNat
    (s.tag n).state = .free → v.toNat / 16 % 8 = k.code → count ≠ 0 → (k = .read ∨ k = .write → count ≤ 16) →
    (k = .check ∨ k = .zero → count ≤ 256) → s.req.qlbn.toNat + count ≤ 3968 →
    (k = .write ∨ k = .zero → s.jrnl.mode = .ready) → s.req.arrival = 4294967295 → s.req.queue ≠ [] →
    (∀ u ∈ s.req.queue, (s.tag u).state.live = true) →
    Completes (.submission v) s fun t =>
      (∀ a ∈ s.req.queue, ∀ b ∈ s.req.queue,
        ((t.tag a).arrival < (t.tag b).arrival ↔ (s.tag a).arrival < (s.tag b).arrival)) ∧
      (∀ a ∈ s.req.queue, (t.tag a).arrival < s.req.queue.length) ∧
      (t.tag n).arrival = s.req.queue.length ∧ t.req.arrival = s.req.queue.length + 1

/-! ## Abort -/

/-- ABORT_REQUEST of a FREE tag, or of a value that names none, sets ABORT_IGNORED; of a DONE tag it leaves it (R19). The
hypotheses, invariants of every step, say that the event before this one left nothing to release, grant or start (R17,
R34, R68). -/
def Obligations.AbortThatFindsNothing : Prop :=
  ∀ (v : Word) (s : State), s.rstnLow = false → UnitOk s → (∀ u ∈ s.req.queue, (s.tag u).state.live = true) →
    HeldOk s → SlotsGranted s →
    ((15 < v.toNat ∧ v ≠ 0x8000#16) ∨ (∃ n : TagNo, v.toNat = n.val ∧ (s.tag n).state = .free) ∨
        (v = 0x8000#16 ∧ s.req.queue = []) →
      exec (.abortRequest v) s = .next { s with req := { s.req with qabort := v, abortIgnored := true } }) ∧
    ((∃ n : TagNo, v.toNat = n.val ∧ ((s.tag n).state = .done ∨
        ((s.tag n).state = .active ∧ (s.tag n).abortMark = true))) →
      exec (.abortRequest v) s = .next { s with req := { s.req with qabort := v } })

/-- ABORT_REQUEST of a HELD or QUEUED tag (R20): it is DONE with ABORTED at once, leaves the queue and every blocker set,
owns no slot, and stands in the service list. Of an ACTIVE tag whose operation is in flight (R21, R45): it takes the abort
mark and stays ACTIVE in its place; the operation goes on; its resting slots are freed. Of an ACTIVE or ENDING tag with no
operation in flight (R21, R93, R114): it is DONE with ABORTED at once; an owed retry becomes a final UNCORRECTABLE and an
owed reallocation an offer to the pending list. -/
def Obligations.AbortOfLiveTag : Prop :=
  (∀ (n : TagNo) (v : Word) (s : State), s.rstnLow = false → v.toNat = n.val → n ∈ s.req.queue →
     ((s.tag n).state = .held ∨ (s.tag n).state = .queued) → (s.tag n).abortMark = false →
     Completes (.abortRequest v) s fun t =>
       t.tag n = { s.tag n with state := .done, final := some .aborted, blockers := [], cur := none, prog := none } ∧
       n ∉ t.req.queue ∧ (∀ u, (t.tag u).state = .held → n ∉ (t.tag u).blockers) ∧ ownsNoSlot t n ∧
       n ∈ t.svc.list ∧ t.req.abortIgnored = false ∧ t.req.qabort = v ∧ HealthKept s t ∧ ArrayKept s t ∧
       t.cfg = s.cfg ∧ t.cmd = s.cmd ∧ t.port = s.port ∧ t.attn = s.attn ∧ t.jrnl.mode = s.jrnl.mode) ∧
  (∀ (n : TagNo) (v : Word) (s : State), s.rstnLow = false → v.toNat = n.val → n ∈ s.req.queue →
     (s.tag n).state = .active → opTag s = some n → (s.tag n).abortMark = false → (s.tag n).wpMark = false → SlotsOk s →
     Completes (.abortRequest v) s fun t =>
       t.tag n = { s.tag n with abortMark := true } ∧ t.array.op = s.array.op ∧ n ∈ t.req.queue ∧
       (∀ k, (t.slot k).owner = some n → (s.slot k).owner = some n ∧
         ((t.slot k).state = .loading ∨ (t.slot k).state = .programming)) ∧
       t.req.abortIgnored = false ∧ t.req.qabort = v ∧ OthersKept s t) ∧
  (∀ (n : TagNo) (v : Word) (s : State), s.rstnLow = false → v.toNat = n.val → n ∈ s.req.queue →
     ((s.tag n).state = .active ∨ (s.tag n).state = .ending) → opTag s ≠ some n → (s.tag n).abortMark = false →
     Completes (.abortRequest v) s fun t =>
       (t.tag n).state = .done ∧ (t.tag n).final = some .aborted ∧ n ∉ t.req.queue ∧ ownsNoSlot t n ∧
       n ∈ t.svc.list ∧ t.req.abortIgnored = false ∧ t.req.qabort = v ∧ ArrayKept s t ∧
       (∀ c, (s.tag n).cur = some c →
         (t.tag n).completed = (s.tag n).completed + 1 ∧
         (t.tag n).firstFail = some ((s.tag n).firstFail.getD c.lbn) ∧
         (t.map.pendingLbns, t.map.overflow) = pendingOffered c.lbn s.map.pendingLbns s.map.overflow ∧
         (t.cond[CondId.uncorrectableReads]).raw = oneMore (s.cond[CondId.uncorrectableReads]).raw) ∧
       (∀ b, (s.tag n).cur = none → (s.tag n).prog = some b →
         (t.tag n).completed = (s.tag n).completed + 1 ∧
         (t.map.pendingLbns, t.map.overflow) = pendingOffered b.lbn s.map.pendingLbns s.map.overflow) ∧
       ((s.tag n).cur = none → (s.tag n).prog = none → HealthKept s t ∧ t.attn = s.attn))

/-- ABORT_REQUEST with the ALL code (R19, R20, R21): every live tag without an operation in flight is DONE with ABORTED,
has left the queue and every blocker set, owns no slot and stands in the service list; the one whose operation is in
flight stays ACTIVE in its place, takes the abort mark and loses its resting slots (one that is write-protect-marked keeps
that mark alone, notes/assumptions/11.md); FREE and DONE tags are passed over. -/
def Obligations.AbortAllReachesEveryLiveTag : Prop :=
  ∀ s : State, s.rstnLow = false → QueueOk s → s.req.queue ≠ [] →
    Completes (.abortRequest 0x8000#16) s fun t =>
      (∀ n, (s.tag n).state.live = true → opTag s ≠ some n →
        DoneWith t n .aborted ∧ ∀ u, (t.tag u).state = .held → n ∉ (t.tag u).blockers) ∧
      (∀ n, opTag s = some n → StaysIn t n .active ∧ (t.tag n).wpMark = (s.tag n).wpMark ∧
        (t.tag n).abortMark = ((s.tag n).abortMark || !(s.tag n).wpMark) ∧
        ((s.tag n).abortMark = false → (s.tag n).wpMark = false → SlotsOk s → OnlyBusySlots s t n)) ∧
      (∀ n, (s.tag n).state.live = false → t.tag n = s.tag n) ∧
      ((∃ n ∈ s.req.queue, (s.tag n).abortMark = false) → t.req.abortIgnored = false) ∧ ArrayKept s t

/-! ## Slot grants and the arbiter -/

/-- Slot grants (R30 to R34, R50): after every step no slot is free or no tag is eligible; and each grant, from a state in
which no FREE slot has an owner (SlotsOk, kept by every step), takes the lowest free slot for the first eligible tag in
the queue, HELD ones last, within the quota; the slot is RESERVED and empty, and a WRITE tag stands in the service list.
-/
def Obligations.SlotGrants : Prop :=
  Kept SlotsGranted ∧
  (∀ (c : Instr) (s t : State) (k : SlotNo) (u : TagNo), SlotsOk s → exec c s = .next t →
     (t.slot k).state = .reserved → (t.slot k).owner = some u → t.slot k ≠ s.slot k →
     t.slot k = { state := .reserved, owner := some u, lbn := none, pos := 0, data := [] } ∧
     (∀ m, m.val < k.val → (t.slot m).state ≠ .free) ∧ heldCount t u ≤ t.cfg.slotQuota ∧
     ((t.tag u).kind = .read ∨ (t.tag u).kind = .write) ∧ ((t.tag u).kind = .write → u ∈ t.svc.list) ∧
     (∃ pre post, t.req.queue = pre ++ u :: post ∧
       ∀ w ∈ pre, wantsOne t w → (t.tag w).state = .held ∧ (t.tag u).state ≠ .held) ∧
     ((t.tag u).state = .held → ∀ w ∈ t.req.queue, wantsOne t w → (t.tag w).state = .held))

/-- The arbiter's order (R68, R70, R72, R73): journal work goes before all other, then the first tag in the queue that can
run, a QUEUED or ACTIVE one with neither mark, then background work, in READY, with the queue empty and quiet elapsed; in
READ_ONLY no program is granted, a commit's included (R73, R162). When the quiet timer expires with nothing else runnable
the first of these is granted: an owed retry, the refresh block's owed reallocation, the refresh program of a valid
buffer, a read of the refresh list's head, a patrol read of the resume LBN. -/
def Obligations.ArbiterOrder : Prop :=
  (∀ (c : Instr) (s t : State) (o : ArrayOp), NewGrant c s t o →
     o.requester ≠ .none ∧ (o.requester ≠ .journal → ¬ journalDue t) ∧
     (∀ n, o.requester = .tag n →
       (∃ pre post, t.req.queue = pre ++ n :: post ∧ ∀ u ∈ pre, ¬ canRun t u) ∧
       ((t.tag n).state = .queued ∨ (t.tag n).state = .active) ∧ (t.tag n).abortMark = false ∧
       (t.tag n).wpMark = false) ∧
     (o.operation = .programBlock → t.jrnl.mode ≠ .readOnly) ∧
     (o.requester = .patrol → t.jrnl.mode = .ready ∧ t.req.queue = [] ∧ t.patrol.quietElapsed = true)) ∧
  (∀ s : State, s.array.op = none → s.patrol.quietTimer ≠ none → s.req.queue = [] → s.jrnl.mode = .ready →
     ¬ journalDue s →
     let p := s.patrol
     let home (l : Nat) : Nat := (Memory.find s.map.remap l).getD l
     let read (l : Nat) (purpose : Purpose) : Option ArrayOp :=
       some { operation := .readBlock, pbn := home l, lbn := some l, requester := .patrol, purpose := purpose,
              data := .patrolBuffer, payload := .none }
     let program (l pbn : Nat) (purpose : Purpose) : Option ArrayOp :=
       some { operation := .programBlock, pbn := pbn, lbn := some l, requester := .patrol, purpose := purpose,
              data := .patrolBuffer, payload := .words p.buf.words }
     Completes .quietTimerExpiry s fun t =>
       (∀ r, p.bgRead = some r → t.array.op = if r.retryOwed then read r.lbn .retry else none) ∧
       (p.bgRead = none →
         (∀ b, p.refreshBlock = some b →
           t.array.op = if b.owed then (freeSpares s).head?.bind fun q => program b.lbn q .reallocation else none) ∧
         (p.refreshBlock = none →
           (p.buf.valid = true → ∀ l, p.buf.lbn = some l → t.array.op = program l (home l) .refreshProgram) ∧
           (p.buf.valid = false →
             (∀ l rest, s.map.refresh = l :: rest → t.array.op = read l .refreshRead ∧ t.map.refresh = rest) ∧
             (s.map.refresh = [] →
               t.array.op = if p.state = .running ∨ p.state = .waiting then read p.resume .patrolRead else none)))))

/-- What a grant binds (R2, R36, R63, R78, R80, R97, R103, R140, R143, R146, R154): the block's LBN, its translation as
the table stands or the lowest free spare, the slot, the words of the source, and the record of the block. A commit's
first attempt carries the snapshot of the state, and a later one the unchanged image. -/
def Obligations.GrantsBindTheirBlocks : Prop :=
  ∀ (c : Instr) (s t : State) (o : ArrayOp), NewGrant c s t o → (∀ k, s.jrnl.commit = some k → 1 ≤ k.attempts) →
    let home (l : Nat) : Nat := (Memory.find t.map.remap l).getD l
    (∀ n, o.requester = .tag n →
      let x := t.tag n
      let newest := x.firstLbn + (x.issued - 1)
      (o.operation = .readBlock → ∃ b, x.cur = some b ∧ b.inFlight = true ∧ b.retryOwed = false ∧ o.lbn = some b.lbn ∧
        o.pbn = home b.lbn ∧ o.payload = .none ∧ (x.kind = .read ∨ x.kind = .check) ∧
        (o.purpose = .retry → 1 ≤ b.retries ∧
          (∀ k, (t.slot k).owner = some n → (t.slot k).state = .loading →
            ∃ m, o.data = .slot m ∧ (t.slot m).owner = some n ∧ (t.slot m).state = .loading) ∧
          ((∀ k, (t.slot k).owner = some n → (t.slot k).state ≠ .loading) → o.data = .none)) ∧
        (o.purpose ≠ .retry → x.state = .active ∧ 1 ≤ x.issued ∧ b.lbn = newest ∧ b.retries = 0 ∧
          o.purpose = (if x.kind = .read then .load else .checkRead) ∧ (x.kind = .check → o.data = .none) ∧
          (x.kind = .read → ∃ k, o.data = .slot k ∧ (t.slot k).owner = some n ∧ (t.slot k).state = .loading ∧
            (t.slot k).lbn = some b.lbn ∧
            ∀ m, m.val < k.val → (t.slot m).owner = some n → (t.slot m).state ≠ .reserved))) ∧
      (o.operation = .programBlock → ∃ b, x.prog = some b ∧ b.inFlight = true ∧ b.owed = false ∧ o.lbn = some b.lbn ∧
        o.pbn = b.target ∧ (∀ k, b.source = .slot k → o.data = .slot k ∧ o.payload = .words (t.slot k).data) ∧
        (b.source = .zeroSource → o.data = .zeroSource ∧ o.payload = .words (List.replicate 256 0)) ∧
        (o.purpose = .reallocation → b.stage = .spare ∧ (freeSpares t).head? = some b.target) ∧
        (o.purpose ≠ .reallocation → o.purpose = .programInPlace ∧ b.stage = .inPlace ∧ b.target = home b.lbn ∧
          x.state = .active ∧ 1 ≤ x.issued ∧ (x.kind = .write ∨ x.kind = .zero) ∧
          (x.kind = .zero → b.source = .zeroSource ∧ b.lbn = newest) ∧
          (x.kind = .write → ∃ k, b.source = .slot k ∧ (t.slot k).owner = some n ∧ (t.slot k).state = .programming ∧
            ∀ l, (t.slot k).lbn = some l → b.lbn = l ∧ ∀ m j, (t.slot m).owner = some n → (t.slot m).state = .full →
              (t.slot m).lbn = some j → l ≤ j)))) ∧
    (o.requester = .patrol →
      (o.operation = .readBlock → ∃ r, t.patrol.bgRead = some r ∧ r.inFlight = true ∧ r.retryOwed = false ∧
        o.lbn = some r.lbn ∧ o.pbn = home r.lbn ∧ o.data = .patrolBuffer ∧ (o.purpose = .retry → 1 ≤ r.retries) ∧
        (o.purpose ≠ .retry → r.retries = 0 ∧ r.cancelled = false ∧ t.patrol.refreshBlock = none ∧
          t.patrol.buf.valid = false ∧ o.purpose = (if r.patrolRead then .patrolRead else .refreshRead) ∧
          (r.patrolRead = true → r.lbn = t.patrol.resume ∧ t.patrol.state = .running ∧ t.map.refresh = []))) ∧
      (o.operation = .programBlock → ∃ b, t.patrol.refreshBlock = some b ∧ b.inFlight = true ∧ b.owed = false ∧
        o.lbn = some b.lbn ∧ o.pbn = b.target ∧ o.payload = .words t.patrol.buf.words ∧ t.patrol.bgRead = none ∧
        (o.purpose = .reallocation → b.stage = .spare ∧ (freeSpares t).head? = some b.target) ∧
        (o.purpose ≠ .reallocation → o.purpose = .refreshProgram ∧ b.stage = .inPlace ∧ b.target = home b.lbn ∧
          t.patrol.buf.valid = true ∧ ∀ l, t.patrol.buf.lbn = some l → b.lbn = l))) ∧
    (o.requester = .journal → o.operation = .programBlock → o.pbn = 4064 + t.jrnl.nextPos ∧
      ∃ k, t.jrnl.commit = some k ∧ (k.attempts ≠ 1 → o.payload = t.jrnl.imageBuffer.payload) ∧
        (k.attempts = 1 → k.sequence = t.jrnl.lastStarted ∧ t.jrnl.commitNeeded = false ∧
          ∃ i, o.payload = .image i ∧ t.jrnl.imageBuffer = .image i ∧ i.sequence = k.sequence ∧ i.remap = t.map.remap ∧
            i.retired = t.map.retired ∧ i.pendingLbns = t.map.pendingLbns ∧ i.resume = t.patrol.resume ∧
            i.thresholds = t.cond.toList.map (·.threshold) ∧ i.worst = t.cond.toList.map (·.worst) ∧
            i.raws = [0, 1, 2, 3, 6, 7, 8, 9, 10, 11].map fun j : CondId => (t.cond[j]).raw))

/-! ## The Data Port -/

/-- PTAG_WRITE (R40): the tag in bits 3:0 is attached, whatever its state, and PORT_MISS is cleared; PTAG reads the
attached number; the attachment lasts until the next PTAG write or a reset. -/
def Obligations.PtagAttaches : Prop :=
  ∀ s : State, s.rstnLow = false →
    (∀ v : Word, exec (.ptagWrite v) s =
      .next { s with port := { attached := ⟨v.toNat % 16, Nat.mod_lt _ (by decide)⟩, miss := false } }) ∧
    regRead s 0x09 = BitVec.ofNat 16 s.port.attached.val ∧
    (∀ c t, exec c s = .next t → (∀ v, c ≠ .ptagWrite v) → (∀ v, c ≠ .registerWrite 0x09 v) → c ≠ .softReset →
      (∀ v, c ≠ .registerWrite 0x19 v) → c ≠ .powerOnReset → t.port.attached = s.port.attached) ∧
    (∀ t, s.jrnl.mode ≠ .starting → exec .softReset s = .next t → t.port = { attached := 0, miss := false }) ∧
    (∀ t, exec .powerOnReset s = .next t → t.port = { attached := 0, miss := false })

/-- A served access of the port, but for the 256th word (R41, R42, R38): a read returns the word at the position of the
tag's FULL or DRAINING slot with the lowest bound LBN, a write stores its word at the position of the tag's RESERVED or
FILLING slot; the position rises, the slot is DRAINING or FILLING, and nothing else changes. -/
def Obligations.PortMovesOneWord : Prop :=
  (∀ (n : SlotNo) (l : Nat) (s : State), s.rstnLow = false →
     (s.tag s.port.attached).state.live = true → (s.tag s.port.attached).kind = .read →
     (s.slot n).owner = some s.port.attached → ((s.slot n).state = .full ∨ (s.slot n).state = .draining) →
     (s.slot n).lbn = some l →
     (∀ m, m ≠ n → (s.slot m).owner = some s.port.attached →
       ((s.slot m).state = .full ∨ (s.slot m).state = .draining) → ∃ k, (s.slot m).lbn = some k ∧ l < k) →
     (s.slot n).pos + 1 < 256 →
     exec .pdataRead s = .next (({ s with lastRead := (s.slot n).data.getD (s.slot n).pos 0 } : State).setSlot n
       { s.slot n with state := .draining, pos := (s.slot n).pos + 1 })) ∧
  (∀ (n : SlotNo) (v : Word) (s : State), s.rstnLow = false →
     (s.tag s.port.attached).state.live = true → (s.tag s.port.attached).kind = .write →
     (s.slot n).owner = some s.port.attached → ((s.slot n).state = .reserved ∨ (s.slot n).state = .filling) →
     (∀ m, m ≠ n → (s.slot m).owner = some s.port.attached →
       (s.slot m).state ≠ .reserved ∧ (s.slot m).state ≠ .filling) →
     (s.slot n).pos + 1 < 256 →
     exec (.pdataWrite v) s = .next (s.setSlot n
       { s.slot n with state := .filling, pos := (s.slot n).pos + 1, data := (s.slot n).data ++ [v] }))

/-- The 256th word of a slot. A read (R41, R7) returns it, the slot is freed and may be granted again at once, delivered
rises; an ENDING tag whose last readable slot this was is DONE. A write (R38): the slot is FULL, bound to the tag's next
LBN, received rises; the arbiter may take the slot for a program at once (R97). -/
def Obligations.PortMovesLastWord : Prop :=
  (∀ (n : SlotNo) (l : Nat) (s : State), s.rstnLow = false →
     s.port.attached ∈ s.req.queue →
     (s.tag s.port.attached).state.live = true → (s.tag s.port.attached).kind = .read →
     (s.slot n).owner = some s.port.attached → ((s.slot n).state = .full ∨ (s.slot n).state = .draining) →
     (s.slot n).lbn = some l →
     (∀ m, m ≠ n → (s.slot m).owner = some s.port.attached →
       ((s.slot m).state = .full ∨ (s.slot m).state = .draining) → ∃ k, (s.slot m).lbn = some k ∧ l < k) →
     (s.slot n).pos = 255 →
     Completes .pdataRead s fun t =>
       t.lastRead = (s.slot n).data.getD 255 0 ∧
       (t.slot n = Slot.free ∨ (((t.slot n).state = .reserved ∨ (t.slot n).state = .loading) ∧ (t.slot n).data = [])) ∧
       (t.tag s.port.attached).moved = (s.tag s.port.attached).moved + 1 ∧
       ((s.tag s.port.attached).state = .ending →
         (∀ m, m ≠ n → (s.slot m).owner = some s.port.attached →
           (s.slot m).state ≠ .full ∧ (s.slot m).state ≠ .draining) →
         (t.tag s.port.attached).state = .done ∧ (t.tag s.port.attached).final = some (s.tag s.port.attached).soFar ∧
         s.port.attached ∉ t.req.queue ∧ s.port.attached ∈ t.svc.list) ∧ OthersKept s t) ∧
  (∀ (n : SlotNo) (v : Word) (s : State), s.rstnLow = false →
     (s.tag s.port.attached).state.live = true → (s.tag s.port.attached).kind = .write →
     (s.slot n).owner = some s.port.attached → ((s.slot n).state = .reserved ∨ (s.slot n).state = .filling) →
     (∀ m, m ≠ n → (s.slot m).owner = some s.port.attached →
       (s.slot m).state ≠ .reserved ∧ (s.slot m).state ≠ .filling) →
     (s.slot n).pos = 255 →
     Completes (.pdataWrite v) s fun t =>
       ((t.slot n).state = .full ∨ (t.slot n).state = .programming) ∧ (t.slot n).owner = some s.port.attached ∧
       (t.slot n).pos = 256 ∧ (t.slot n).data = (s.slot n).data ++ [v] ∧
       (t.slot n).lbn = some ((s.tag s.port.attached).firstLbn + (s.tag s.port.attached).moved) ∧
       (t.tag s.port.attached).moved = (s.tag s.port.attached).moved + 1 ∧ t.lastRead = s.lastRead ∧ OthersKept s t)

/-- A port miss (R43): PORT_MISS is set and PORT latched, a read returns 0xFFFF, a written word is discarded, and nothing
else changes. PORT_MISS then stays set until the next PTAG write or a reset, and PORT until it is cleared in ACAUSE or by
a reset. -/
def Obligations.PortMissChangesOnlyItsFlag : Prop :=
  ∀ s : State, s.rstnLow = false →
    (¬ hasDataIn s s.port.attached → exec .pdataRead s = .next { s with
      lastRead := 0xFFFF#16, port := { s.port with miss := true },
      attn := { s.attn with latched := s.attn.latched ||| 0x20#8 } }) ∧
    (¬ hasDataOut s s.port.attached → ∀ v, exec (.pdataWrite v) s = .next { s with
      port := { s.port with miss := true }, attn := { s.attn with latched := s.attn.latched ||| 0x20#8 } }) ∧
    (s.port.miss = true → ∀ c t, exec c s = .next t → (∀ v, c ≠ .ptagWrite v) → (∀ v, c ≠ .registerWrite 0x09 v) →
      c ≠ .softReset → (∀ v, c ≠ .registerWrite 0x19 v) → c ≠ .powerOnReset → t.port.miss = true) ∧
    (s.attn.latched.getLsbD 5 = true → ∀ c t, exec c s = .next t → (∀ v, c ≠ .acauseWrite v) →
      (∀ v, c ≠ .registerWrite 0x02 v) → c ≠ .softReset → (∀ v, c ≠ .registerWrite 0x19 v) → c ≠ .powerOnReset →
      t.attn.latched.getLsbD 5 = true)

/-! ## The service list -/

/-- SVCNEXT_POP (R52, R53, R55): the stale entries `pre` before the entry of `n` are discarded and `n` is classified by
its state at the pop: COMPLETE copies the record into the readout and frees the tag (R54, R57; that a FREE tag's other
fields take the one record `Tag.free` is the model's choice, notes/assumptions/14.md), DATA_IN and DATA_OUT remove the
entry alone. The word has the tag in bits 3:0, the kind in 5:4, MORE in 15. A list that is empty, or whose entries are all
stale, reads EMPTY, 0x0000, and is left empty (R56). -/
def Obligations.PopClassifiesFirstLiveEntry : Prop :=
  (∀ (pre rest : List TagNo) (n : TagNo) (s : State), s.rstnLow = false → s.svc.list = pre ++ n :: rest →
     (∀ u ∈ pre, isStale s u) →
     let word (kind : Nat) : Word := BitVec.ofNat 16 (n.val + 16 * kind + (if rest = [] then 0 else 32768))
     ((s.tag n).state = .done → exec .svcnextPop s = .next (({ s with
       lastRead := word 1, svc := { list := rest, readout := some (completionOf n (s.tag n)) } } : State).setTag n
         Tag.free)) ∧
     ((s.tag n).state ≠ .done → hasDataIn s n → exec .svcnextPop s = .next { s with
       lastRead := word 2, svc := { s.svc with list := rest } }) ∧
     ((s.tag n).state ≠ .done → ¬ hasDataIn s n → hasDataOut s n → exec .svcnextPop s = .next { s with
       lastRead := word 3, svc := { s.svc with list := rest } })) ∧
  (∀ s : State, s.rstnLow = false → (∀ u ∈ s.svc.list, isStale s u) →
     exec .svcnextPop s = .next { s with lastRead := 0, svc := { s.svc with list := [] } })

/-- SERVICE (R58) is a level, never latched (`ServiceOk`, which every step keeps): bit 0 of ACAUSE reads 1 exactly while
the service list holds an entry; a write of ACAUSE leaves it; while it is enabled and present ATTNn is low; a pop that
finds only stale entries returns EMPTY and removes it. -/
def Obligations.ServiceCauseFollowsList : Prop :=
  ∀ s : State, s.attn.latched.getLsbD 0 = false →
    ((regRead s 0x02).getLsbD 0 = true ↔ s.svc.list ≠ []) ∧
    (∀ v t, exec (.acauseWrite v) s = .next t → (regRead t 0x02).getLsbD 0 = (regRead s 0x02).getLsbD 0) ∧
    (s.svc.list ≠ [] → s.attn.enable.getLsbD 0 = true → attnLow s = true) ∧
    (s.rstnLow = false → (∀ u ∈ s.svc.list, isStale s u) → Completes .svcnextPop s fun t =>
      t.lastRead = 0 ∧ (regRead t 0x02).getLsbD 0 = false)

/-! ## Reads of tags -/

/-- A READ tag's block is read (R86): the slot is FULL at position 0 with the block as read, or with free values where its
content is undefined (R66, notes/assumptions/5.md); the tag's fields, the lists and the counts follow; with the last block
the tag is ENDING. -/
def Obligations.SuccessfulReadFillsSlot : Prop :=
  ∀ (n : TagNo) (k : SlotNo) (o : ArrayOp) (c : CurrentBlock) (out : ReadOutcome) (s : State),
    TagOpInFlight s o n → o.operation = .readBlock → o.data = .slot k → (s.slot k).owner = some n →
    (s.tag n).kind = .read → (s.tag n).cur = some c → out ≠ .uncorrectable →
    Completes (.readBlockCompletion out) s fun t =>
      t.slot k = { s.slot k with state := .full, pos := 0, data := wordsRead s o.pbn } ∧ n ∈ t.svc.list ∧
      (t.tag n).completed = (s.tag n).completed + 1 ∧ (t.tag n).worst = max (s.tag n).worst (corrections out) ∧
      (weakBlock s.cfg.refreshLevel c.retries out ∧ (s.tag n).soFar = .ok → (t.tag n).soFar = .recovered) ∧
      (¬ (weakBlock s.cfg.refreshLevel c.retries out ∧ (s.tag n).soFar = .ok) → (t.tag n).soFar = (s.tag n).soFar) ∧
      (t.tag n).firstFail = (s.tag n).firstFail ∧ (t.tag n).moved = (s.tag n).moved ∧
      StaysIn t n (if (s.tag n).completed + 1 = (s.tag n).count then .ending else .active) ∧
      ListsAfterRead c.lbn c.retries out s t ∧ CountsAfterRead c.retries out s t ∧ RemapKept s t ∧ ArrayKept s t ∧
      t.port = s.port ∧ t.cfg = s.cfg ∧ t.cmd = s.cmd ∧ t.lastRead = s.lastRead ∧ t.jrnl.mode = s.jrnl.mode

/-- An UNCORRECTABLE attempt with retries left (R79, R80, R141): the block stays outstanding with its retry owed, or
granted at the same event; nothing is counted, listed or completed. NO_RETRY makes a tag's allowance 0; a background read
has none. -/
def Obligations.UncorrectableOwesRetry : Prop :=
  ∀ (o : ArrayOp) (s : State), o.operation = .readBlock →
    (∀ n c, TagOpInFlight s o n → (s.tag n).cur = some c →
      c.retries < (if (s.tag n).noRetry then 0 else s.cfg.retryLimit) →
      Completes (.readBlockCompletion .uncorrectable) s fun t =>
        ((t.tag n).cur = some { c with retryOwed := true, inFlight := false } ∨
          ((t.tag n).cur = some { c with retries := c.retries + 1, retryOwed := false, inFlight := true } ∧
            opTag t = some n)) ∧
        (t.tag n).completed = (s.tag n).completed ∧ StaysIn t n .active ∧ OthersKept s t) ∧
    (∀ r, s.array.op = some o → o.requester = .patrol → s.patrol.bgRead = some r → r.dropped = false →
      s.jrnl.mode ≠ .readOnly → r.retries < s.cfg.retryLimit →
      Completes (.readBlockCompletion .uncorrectable) s fun t =>
        (t.patrol.bgRead = some { r with retryOwed := true, inFlight := false } ∨
          t.patrol.bgRead = some { r with retries := r.retries + 1, retryOwed := false, inFlight := true }) ∧
        OthersKept s t)

/-- A READ tag stops at a final UNCORRECTABLE block (R87): the slot of the operation and the RESERVED slots are freed, the
status is MEDIA_ERROR, the LBN is offered to the pending list, condition 3 is counted; the tag is ENDING while it owns a
FULL or DRAINING slot, else DONE at once. -/
def Obligations.UncorrectableReadStopsTag : Prop :=
  ∀ (n : TagNo) (o : ArrayOp) (c : CurrentBlock) (s : State),
    TagOpInFlight s o n → o.operation = .readBlock → (s.tag n).kind = .read → (s.tag n).cur = some c →
    (if (s.tag n).noRetry then 0 else s.cfg.retryLimit) ≤ c.retries →
    let keepsBlock := ∃ k, o.data ≠ .slot k ∧ (s.slot k).owner = some n ∧
      ((s.slot k).state = .full ∨ (s.slot k).state = .draining)
    Completes (.readBlockCompletion .uncorrectable) s fun t =>
      (∀ k, o.data = .slot k → slotFreed t k ∧ (t.slot k).owner ≠ some n) ∧
      (∀ k, (s.slot k).owner = some n → (s.slot k).state = .reserved → slotFreed t k ∧ (t.slot k).owner ≠ some n) ∧
      (∀ k, o.data ≠ .slot k → (s.slot k).owner = some n → ((s.slot k).state = .full ∨ (s.slot k).state = .draining) →
        t.slot k = s.slot k) ∧
      (t.tag n).soFar = .mediaError ∧ (t.tag n).firstFail = some ((s.tag n).firstFail.getD c.lbn) ∧
      (t.tag n).completed = (s.tag n).completed + 1 ∧ (t.tag n).issued = (s.tag n).issued ∧
      (keepsBlock → StaysIn t n .ending) ∧ (¬ keepsBlock → DoneWith t n .mediaError) ∧
      ListsAfterRead c.lbn c.retries .uncorrectable s t ∧ CountsAfterRead c.retries .uncorrectable s t ∧
      RemapKept s t ∧ ArrayKept s t

/-- A final outcome of a CHECK tag's block (R81, R82, R83, R91): the fields, the lists and the counts; the tag goes on
after an UNCORRECTABLE block too, and is DONE after the last one. -/
def Obligations.CheckTakesEveryOutcome : Prop :=
  ∀ (n : TagNo) (o : ArrayOp) (c : CurrentBlock) (out : ReadOutcome) (s : State),
    TagOpInFlight s o n → o.operation = .readBlock → (s.tag n).kind = .check → (s.tag n).cur = some c →
    (out = .uncorrectable → (if (s.tag n).noRetry then 0 else s.cfg.retryLimit) ≤ c.retries) →
    let status : Status :=
      if out = .uncorrectable then .mediaError
      else if (s.tag n).soFar = .ok ∧ (0 < c.retries ∨ (1 ≤ corrections out ∧ s.cfg.refreshLevel ≤ corrections out)) then
        .recovered
      else (s.tag n).soFar
    Completes (.readBlockCompletion out) s fun t =>
      (t.tag n).completed = (s.tag n).completed + 1 ∧ (t.tag n).worst = max (s.tag n).worst (corrections out) ∧
      (t.tag n).soFar = status ∧
      (t.tag n).uncorrCount = (s.tag n).uncorrCount + (if out = .uncorrectable then 1 else 0) ∧
      (t.tag n).firstFail = (if out = .uncorrectable then some ((s.tag n).firstFail.getD c.lbn)
        else (s.tag n).firstFail) ∧
      ((s.tag n).completed + 1 ≠ (s.tag n).count → StaysIn t n .active) ∧
      ((s.tag n).completed + 1 = (s.tag n).count → DoneWith t n status) ∧
      ListsAfterRead c.lbn c.retries out s t ∧ CountsAfterRead c.retries out s t ∧ RemapKept s t ∧ ArrayKept s t

/-- The final outcome of a background read (R141, R142, R146): the lists and counts, the resume LBN of a PATROL READ, the
patrol buffer, and the ends of a segment or a pass. Where the block's content is undefined the buffer's words are free
values (R66; the model's choice, notes/assumptions/5.md). A read that a soft reset has dropped (R148), and one in
READ_ONLY (R147), is final with no retry and fills no buffer; that a dropped one meets the tests of a patrol started since
is read from the spec by inference (notes/assumptions/17.md). -/
def Obligations.BackgroundReadEnds : Prop :=
  ∀ (o : ArrayOp) (r : BackgroundRead) (out : ReadOutcome) (s : State),
    s.array.op = some o → o.operation = .readBlock → o.requester = .patrol → s.patrol.bgRead = some r →
    s.jrnl.mode ≠ .starting → (s.jrnl.mode = .ready → s.jrnl.lastStarted < 4294967295) → queueLive s →
    (out = .uncorrectable → s.cfg.retryLimit ≤ r.retries ∨ r.dropped = true ∨ s.jrnl.mode = .readOnly) →
    let scanning := r.patrolRead = true ∧ (s.patrol.state = .running ∨ s.patrol.state = .waiting)
    let permitted := s.req.queue = [] ∧ s.patrol.quietElapsed = true
    let passEnds (m : PatrolMode) := scanning ∧ s.patrol.mode = some m ∧ r.lbn = 3967
    let segmentEnds := scanning ∧ s.patrol.mode = some .segment ∧
      ((r.lbn + 1) % segLength s.cfg.segCode = 0 ∨ r.lbn = 3967)
    let enters := out ≠ .uncorrectable ∧ r.cancelled = false ∧ r.dropped = false ∧ s.jrnl.mode = .ready ∧
      (r.patrolRead = true → weakBlock s.cfg.refreshLevel r.retries out)
    Completes (.readBlockCompletion out) s fun t =>
      ListsAfterRead r.lbn r.retries out s t ∧
      t.patrol.resume = (if r.patrolRead then (if r.lbn = 3967 then 0 else r.lbn + 1) else s.patrol.resume) ∧
      (enters → t.patrol.buf = { lbn := some r.lbn, valid := true, words := wordsRead s o.pbn }) ∧
      (¬ enters → t.patrol.buf = s.patrol.buf) ∧
      (∀ r', t.patrol.bgRead = some r' → r'.inFlight = true ∧ r'.retries = 0 ∧ r'.retryOwed = false) ∧
      (segmentEnds → t.patrol.state = .idle ∧ t.patrol.mode = none ∧ t.patrol.status = .segmentDone ∧
        t.attn.latched.getLsbD 3 = true) ∧
      (passEnds .pass → t.patrol.state = .idle ∧ t.patrol.mode = none ∧ t.patrol.status = .passDone ∧
        t.attn.latched.getLsbD 3 = true ∧ reasonMade s t) ∧
      (passEnds .auto → t.patrol.mode = some .auto ∧ t.attn.latched.getLsbD 3 = true ∧ reasonMade s t ∧
        (s.cfg.passGap ≠ 0 → t.patrol.state = .gap ∧ t.patrol.status = .passDone ∧
          t.patrol.gapTimer = some s.cfg.passGap.toNat) ∧
        (s.cfg.passGap = 0 → t.patrol.status = .inProgress ∧ (permitted → t.patrol.state = .running) ∧
          (¬ permitted → t.patrol.state = .waiting))) ∧
      (passEnds .pass ∨ passEnds .auto →
        (t.cond[CondId.patrolPasses]).raw = oneMore (s.cond[CondId.patrolPasses]).raw) ∧
      (¬ passEnds .pass → ¬ passEnds .auto → CountsAfterRead r.retries out s t ∧
        (¬ segmentEnds → t.patrol.state = s.patrol.state ∧ t.patrol.mode = s.patrol.mode ∧
          t.patrol.status = s.patrol.status ∧ t.patrol.gapTimer = s.patrol.gapTimer)) ∧
      RemapKept s t ∧ ArrayKept s t

/-! ## Programs -/

/-- The end of a PROGRAM BLOCK (R66): after PASS the block holds the programmed words, or the programmed image; after FAIL
its content is undefined; every other block reads as before. The loss of power (R76): a PROGRAM BLOCK in flight leaves its
target with undefined content, and nothing else changes in the array. No other command changes what a block of the array
holds. -/
def Obligations.ProgramsAndPowerLossWriteBlocks : Prop :=
  (∀ (o : ArrayOp) (out : ProgramOutcome) (s : State), s.array.op = some o → o.operation = .programBlock → StorageOk s →
     Completes (.programBlockCompletion out) s fun t =>
       (∀ p, p ≠ o.pbn → blockAt t p = blockAt s p) ∧
       (out = .fail → blockAt t o.pbn = (none, none)) ∧
       (out = .pass → ∀ ws, o.payload = .words ws → (blockAt t o.pbn).1 = some ws) ∧
       (out = .pass → ∀ i, o.payload = .image i → (blockAt t o.pbn).2 = some i)) ∧
  (∀ s : State, Memory.wf s.array.blocks = true → Memory.wf s.array.ring = true →
     Completes .powerOnReset s fun t =>
       (∀ o, s.array.op = some o → o.operation = .programBlock → blockAt t o.pbn = (none, none)) ∧
       ∀ p, (∀ o, s.array.op = some o → o.operation = .programBlock → o.pbn ≠ p) → blockAt t p = blockAt s p) ∧
  (∀ (c : Instr) (s t : State), exec c s = .next t →
     (∀ o, c ≠ .programBlockCompletion o) → c ≠ .powerOnReset → ArrayKept s t)

/-- A tag's program in place ends with PASS (R98): the block counts as completed and passed, its LBN leaves both lists,
its slot is freed, what the patrol holds for the LBN is cancelled (R145), nothing is counted; after the last block the tag
is DONE, or ENDING while it waits for a commit. -/
def Obligations.ProgramInPlacePasses : Prop :=
  ∀ (n : TagNo) (l : Nat) (o : ArrayOp) (b : BlockInProgram) (s : State),
    TagOpInFlight s o n → o.operation = .programBlock → o.purpose = .programInPlace → o.lbn = some l →
    (s.tag n).prog = some b →
    let waits := ∃ q, (s.tag n).needed = some q ∧ s.jrnl.lastDone < q
    let last := (s.tag n).completed + 1 = (s.tag n).count
    Completes (.programBlockCompletion .pass) s fun t =>
      (t.tag n).completed = (s.tag n).completed + 1 ∧ (t.tag n).passed = (s.tag n).passed + 1 ∧
      (t.tag n).reallocs = (s.tag n).reallocs ∧ (t.tag n).soFar = (s.tag n).soFar ∧
      (t.tag n).firstFail = (s.tag n).firstFail ∧
      ListsCleared l s t ∧ RemapKept s t ∧ RawKept [CondId.pendingBlocks] s t ∧
      (∀ k, b.source = .slot k → slotFreed t k) ∧ PatrolCancelled l s t ∧
      (¬ last → StaysIn t n .active) ∧ (last ∧ waits → StaysIn t n .ending) ∧
      (last ∧ ¬ waits → DoneWith t n (s.tag n).soFar)

/-- A tag's program in place ends with FAIL: condition 7 counts, and what the patrol holds for the LBN is cancelled (R99,
R145). While a spare is free a reallocation is owed, or granted to the lowest free spare at the same event (R103); the
block is not completed, no list changes, and what other blocks owe stays owed. With no spare free the block is exhausted
(R106): it counts as completed but not as passed, WRITE_FAULT, the first failing LBN, an offer to the pending list, every
slot of the tag freed; the tag is ENDING while it waits for a commit, else DONE with WRITE_FAULT. -/
def Obligations.ProgramInPlaceFails : Prop :=
  ∀ (n : TagNo) (l : Nat) (o : ArrayOp) (b : BlockInProgram) (s : State),
    TagOpInFlight s o n → o.operation = .programBlock → o.purpose = .programInPlace → o.lbn = some l →
    (s.tag n).prog = some b → s.jrnl.mode = .ready → s.req.queue.Nodup → OwedOk s →
    (freeSpares s ≠ [] → Completes (.programBlockCompletion .fail) s fun t =>
      OwesOrGranted t n b ∧ (t.tag n).completed = (s.tag n).completed ∧ (t.tag n).passed = (s.tag n).passed ∧
      StaysIn t n .active ∧ RawCounted CondId.programFailures [] s t ∧ t.map = s.map ∧
      (∀ k, b.source = .slot k → (s.slot k).state = .programming → t.slot k = s.slot k) ∧ OthersOwed False n l s t) ∧
    (freeSpares s = [] → b.lbn = l → Completes (.programBlockCompletion .fail) s fun t =>
      Exhausted s t n l ∧ (t.tag n).needed = (s.tag n).needed ∧ RemapKept s t ∧ OthersOwed True n l s t ∧
      Offered (owedInOrder s n [l] l) s.map.pendingLbns s.map.refresh s t ∧
      RawCounted CondId.programFailures [CondId.pendingBlocks] s t)

/-- A reallocation ends with PASS (R104): the LBN is mapped to the spare and every other LBN as before; a spare it named
before is retired; conditions 4 and 5 follow; a commit reason is made with the tag as waiter; the block is completed as
reallocated, its LBN leaves both lists, and what the patrol holds for it is cancelled (R145). If no spare is left, every
other block that owes a reallocation is exhausted (R106, R107): its tag ends with WRITE_FAULT, and the LBNs are offered to
the pending list in dispatch-queue order, a patrol block last; that the passed LBN leaves the lists before these offers is
the model's choice (notes/assumptions/23.md). -/
def Obligations.ReallocationPasses : Prop :=
  ∀ (n : TagNo) (l : Nat) (o : ArrayOp) (b : BlockInProgram) (s : State),
    TagOpInFlight s o n → o.operation = .programBlock → o.purpose = .reallocation → o.lbn = some l →
    (s.tag n).prog = some b → s.jrnl.mode = .ready → s.jrnl.lastStarted < 4294967295 →
    s.jrnl.lastDone ≤ s.jrnl.lastStarted → s.req.queue.Nodup → OwedOk s →
    let spent (t : State) : Prop := freeSpares t = []
    Completes (.programBlockCompletion .pass) s fun t =>
      MappedTo l o.pbn s t ∧
      RawCounted CondId.reallocations [CondId.sparesRemaining, CondId.pendingBlocks] s t ∧
      (t.cond[CondId.sparesRemaining]).raw = (freeSpares t).length ∧ reasonMade s t ∧
      (t.tag n).needed = some (max ((s.tag n).needed.getD 0) (s.jrnl.lastStarted + 1)) ∧
      (t.tag n).completed = (s.tag n).completed + 1 ∧ (t.tag n).passed = (s.tag n).passed + 1 ∧
      (t.tag n).reallocs = (s.tag n).reallocs + 1 ∧
      (t.tag n).soFar = (if (s.tag n).soFar = .ok then .recovered else (s.tag n).soFar) ∧
      (∀ k, b.source = .slot k → slotFreed t k) ∧ OthersOwed (spent t) n l s t ∧ (¬ spent t → ListsCleared l s t) ∧
      (spent t → Offered (owedInOrder s n [] l) (s.map.pendingLbns.erase l) (s.map.refresh.erase l) s t) ∧
      StaysIn t n (if (s.tag n).completed + 1 = (s.tag n).count then .ending else .active)

/-- A reallocation ends with FAIL (R105, R106): the spare is retired, condition 7 counts, condition 5 follows, and a
commit reason is made; what the patrol holds for the LBN is cancelled (R145). With a spare left the next one is owed or
granted, and what other blocks owe stays owed. With none the block is exhausted: WRITE_FAULT, and the tag waits for the
commit; so is every other block that owes a reallocation (R107), and the LBNs are offered to the pending list in
dispatch-queue order, a patrol block last. -/
def Obligations.ReallocationFails : Prop :=
  ∀ (n : TagNo) (l : Nat) (o : ArrayOp) (b : BlockInProgram) (s : State),
    TagOpInFlight s o n → o.operation = .programBlock → o.purpose = .reallocation → o.lbn = some l →
    (s.tag n).prog = some b → b.lbn = l → s.jrnl.mode = .ready → s.jrnl.lastStarted < 4294967295 →
    s.jrnl.lastDone ≤ s.jrnl.lastStarted → s.req.queue.Nodup → OwedOk s →
    let left := (freeSpares s).filter (· ≠ o.pbn)
    Completes (.programBlockCompletion .fail) s fun t =>
      SpareRetired o.pbn s t ∧ freeSpares t = left ∧
      (t.cond[CondId.sparesRemaining]).raw = left.length ∧
      RawCounted CondId.programFailures [CondId.sparesRemaining, CondId.pendingBlocks] s t ∧ reasonMade s t ∧
      (t.tag n).needed = some (max ((s.tag n).needed.getD 0) (s.jrnl.lastStarted + 1)) ∧
      OthersOwed (left = []) n l s t ∧
      (left ≠ [] → OwesOrGranted t n b ∧ (t.tag n).completed = (s.tag n).completed ∧ StaysIn t n .active ∧
        t.map.pendingLbns = s.map.pendingLbns ∧ t.map.overflow = s.map.overflow ∧ refreshAfter s.map.refresh t) ∧
      (left = [] → Exhausted s t n l ∧ StaysIn t n .ending ∧
        Offered (owedInOrder s n [l] l) s.map.pendingLbns s.map.refresh s t)

/-- A refresh program ends (R144, R147): in place or on a spare, with PASS or FAIL. A PASS clears the lists, and ends the
refresh block and the buffer; in place it counts condition 9, on a spare it is a reallocation with no waiter. A FAIL
counts condition 7 and makes the buffer invalid, its words kept for the next spare; with no spare left, and in READ_ONLY,
the LBN is offered to the pending list and the block is over. A buffer whose words are discarded is empty
(notes/assumptions/22.md). The patrol's state, mode, status and resume LBN stay. No tag's block owes a reallocation
meanwhile (OwedOk, kept by every step). -/
def Obligations.RefreshProgramEnds : Prop :=
  ∀ (l : Nat) (o : ArrayOp) (b : BlockInProgram) (s : State),
    s.array.op = some o → o.operation = .programBlock → o.requester = .patrol → o.lbn = some l →
    s.patrol.refreshBlock = some b → b.lbn = l → queueLive s → NoOtherOwes s none l →
    (s.jrnl.mode = .ready → s.jrnl.lastStarted < 4294967295) →
    let left := if o.purpose = .reallocation then (freeSpares s).filter (· ≠ o.pbn) else freeSpares s
    let isOver (t : State) : Prop :=
      t.patrol.refreshBlock = none ∧ t.patrol.buf.valid = false ∧ t.patrol.buf.words = []
    let scanKept (t : State) : Prop := t.patrol.state = s.patrol.state ∧ t.patrol.mode = s.patrol.mode ∧
      t.patrol.status = s.patrol.status ∧ t.patrol.resume = s.patrol.resume ∧ t.jrnl.mode = s.jrnl.mode
    Completes (.programBlockCompletion .pass) s (fun t => isOver t ∧ scanKept t ∧ ListsCleared l s t ∧
      (o.purpose ≠ .reallocation → RemapKept s t ∧ RawCounted CondId.refreshes [CondId.pendingBlocks] s t) ∧
      (o.purpose = .reallocation → MappedTo l o.pbn s t ∧ reasonMade s t ∧
        (t.cond[CondId.sparesRemaining]).raw = (freeSpares t).length ∧
        RawCounted CondId.reallocations [CondId.sparesRemaining, CondId.pendingBlocks] s t)) ∧
    Completes (.programBlockCompletion .fail) s (fun t => scanKept t ∧
      (o.purpose ≠ .reallocation → RemapKept s t ∧ RawCounted CondId.programFailures [CondId.pendingBlocks] s t) ∧
      (o.purpose = .reallocation → SpareRetired o.pbn s t ∧ reasonMade s t ∧
        (t.cond[CondId.sparesRemaining]).raw = left.length ∧
        RawCounted CondId.programFailures [CondId.sparesRemaining, CondId.pendingBlocks] s t) ∧
      (s.jrnl.mode ≠ .readOnly → ∀ p rest, left = p :: rest →
        (t.patrol.refreshBlock = some { b with inFlight := false, owed := true } ∨
          t.patrol.refreshBlock = some { b with stage := .spare, target := p, inFlight := true, owed := false }) ∧
        t.patrol.buf.valid = false ∧ t.patrol.buf.words = s.patrol.buf.words ∧
        t.map.pendingLbns = s.map.pendingLbns ∧ t.map.overflow = s.map.overflow ∧ refreshAfter s.map.refresh t) ∧
      (s.jrnl.mode = .readOnly ∨ left = [] → isOver t ∧ OfferedPending l s t))

/-- Operations that a soft reset has left without an owner. An orphan read (R84) is final: the lists and the counts
follow, as after a retry if its purpose was RETRY, and its slot is freed. An orphan program (R116), or the refresh program
of a refresh block that is gone (R148), changes the lists, the map, the counts and what the patrol holds (R145) as a tag's
does; a FAIL is offered to the pending list with no reallocation, and a commit reason has no waiter; a refresh program's
PASS in place still counts condition 9. No tag's counts or outcomes change. No block owes a reallocation meanwhile
(OwedOk, kept by every step). -/
def Obligations.OrphanOperationsEnd : Prop :=
  (∀ (l : Nat) (o : ArrayOp) (out : ReadOutcome) (s : State),
     s.array.op = some o → o.operation = .readBlock → o.requester = .none → o.lbn = some l →
     let retries := if o.purpose = .retry then 1 else 0
     Completes (.readBlockCompletion out) s fun t =>
       ListsAfterRead l retries out s t ∧ CountsAfterRead retries out s t ∧
       (∀ k, o.data = .slot k → slotFreed t k) ∧ (∀ n, ProgressKept s t n) ∧ RemapKept s t ∧ ArrayKept s t) ∧
  (∀ (l : Nat) (o : ArrayOp) (s : State),
     s.array.op = some o → o.operation = .programBlock → o.lbn = some l →
     o.requester = .none ∨ (o.requester = .patrol ∧ s.patrol.refreshBlock = none) → NoOtherOwes s none l →
     (s.jrnl.mode = .ready → s.jrnl.lastStarted < 4294967295) →
     let ends (t : State) : Prop := PatrolCancelled l s t ∧ (∀ n, ProgressKept s t n) ∧ t.jrnl.mode = s.jrnl.mode ∧
       (o.requester = .none → ∀ k, o.data = .slot k → slotFreed t k)
     Completes (.programBlockCompletion .pass) s (fun t => ends t ∧ ListsCleared l s t ∧
       (o.purpose ≠ .reallocation → RemapKept s t ∧
         (o.requester = .none → RawKept [CondId.pendingBlocks] s t) ∧
         (o.requester = .patrol → RawCounted CondId.refreshes [CondId.pendingBlocks] s t)) ∧
       (o.purpose = .reallocation → MappedTo l o.pbn s t ∧ reasonMade s t ∧
         (t.cond[CondId.sparesRemaining]).raw = (freeSpares t).length ∧
         RawCounted CondId.reallocations [CondId.sparesRemaining, CondId.pendingBlocks] s t)) ∧
     Completes (.programBlockCompletion .fail) s (fun t => ends t ∧ OfferedPending l s t ∧
       (o.purpose ≠ .reallocation → RemapKept s t ∧ RawCounted CondId.programFailures [CondId.pendingBlocks] s t) ∧
       (o.purpose = .reallocation → SpareRetired o.pbn s t ∧ reasonMade s t ∧
         (t.cond[CondId.sparesRemaining]).raw = (freeSpares t).length ∧
         RawCounted CondId.programFailures [CondId.sparesRemaining, CondId.pendingBlocks] s t)))

/-- The operation in flight of a marked tag ends (R18, R22): its result is taken into the tag, the lists, the map and the
counts, nothing more is issued, its slot is freed, and the tag is DONE. An abort-marked tag ends ABORTED. A
write-protect-marked one whose last block passed ends JOURNAL_FAULT while it needs a commit, else with its status so far;
with blocks left, or after a FAIL, it ends WRITE_PROTECTED. No reallocation follows a FAIL, and an abort-marked tag
records no needed sequence. What other blocks owe stays owed, but if the event leaves no free spare they are exhausted
(R106, R107), in dispatch-queue order with a patrol block last, after a PASS's own LBN has left the lists (the model's
choice, notes/assumptions/23.md). -/
def Obligations.MarkedTagsEnd : Prop :=
  (∀ (n : TagNo) (o : ArrayOp) (c : CurrentBlock) (out : ReadOutcome) (s : State),
     MarkedOpInFlight s o n → o.operation = .readBlock → (s.tag n).abortMark = true → (s.tag n).cur = some c →
     Completes (.readBlockCompletion out) s fun t =>
       DoneWith t n .aborted ∧ (t.tag n).completed = (s.tag n).completed + 1 ∧ (t.tag n).moved = (s.tag n).moved ∧
       (t.tag n).worst = max (s.tag n).worst (corrections out) ∧ (t.tag n).issued = (s.tag n).issued ∧
       (t.tag n).firstFail = (if out = .uncorrectable then some ((s.tag n).firstFail.getD c.lbn)
         else (s.tag n).firstFail) ∧
       (∀ k, (s.slot k).owner = some n → slotFreed t k) ∧
       ListsAfterRead c.lbn c.retries out s t ∧ CountsAfterRead c.retries out s t ∧ RemapKept s t ∧ ArrayKept s t) ∧
  (∀ (n : TagNo) (l : Nat) (o : ArrayOp) (b : BlockInProgram) (s : State),
     MarkedOpInFlight s o n → o.operation = .programBlock → o.lbn = some l → (s.tag n).prog = some b → b.lbn = l →
     s.req.queue.Nodup → OwedOk s → s.jrnl.lastDone ≤ s.jrnl.lastStarted →
     (s.jrnl.mode = .ready → s.jrnl.lastStarted < 4294967295) →
     let x := s.tag n
     let last := x.completed + 1 = x.count
     let onSpare := o.purpose = .reallocation
     let waits := onSpare ∨ ∃ q, x.needed = some q ∧ s.jrnl.lastDone < q
     let status : Status := if o.purpose = .reallocation ∧ x.soFar = .ok then .recovered else x.soFar
     let spent (t : State) : Prop := freeSpares t = []
     let ends (t : State) : Prop := (t.tag n).completed = x.completed + 1 ∧ (t.tag n).issued = x.issued ∧
       (∀ k, (s.slot k).owner = some n → slotFreed t k) ∧ t.jrnl.mode = s.jrnl.mode ∧
       (onSpare → reasonMade s t) ∧ (¬ onSpare → RemapKept s t) ∧
       (t.tag n).needed = (if o.purpose = .reallocation ∧ x.abortMark = false then
         some (max (x.needed.getD 0) (s.jrnl.lastStarted + 1)) else x.needed)
     Completes (.programBlockCompletion .pass) s (fun t => ends t ∧ OthersOwed (onSpare ∧ spent t) n l s t ∧
       (¬ (onSpare ∧ spent t) → ListsCleared l s t) ∧
       (onSpare ∧ spent t →
         Offered (owedInOrder s n [] l) (s.map.pendingLbns.erase l) (s.map.refresh.erase l) s t) ∧
       (x.abortMark = true → DoneWith t n .aborted) ∧
       (x.abortMark = false → (last ∧ waits → DoneWith t n .journalFault) ∧ (last ∧ ¬ waits → DoneWith t n status) ∧
         (¬ last → DoneWith t n .writeProtected)) ∧
       (t.tag n).passed = x.passed + 1 ∧ (t.tag n).soFar = status ∧
       (¬ onSpare → (t.tag n).reallocs = x.reallocs ∧ RawKept [CondId.pendingBlocks] s t) ∧
       (onSpare → (t.tag n).reallocs = x.reallocs + 1 ∧ MappedTo l o.pbn s t ∧
         RawCounted CondId.reallocations [CondId.sparesRemaining, CondId.pendingBlocks] s t)) ∧
     Completes (.programBlockCompletion .fail) s (fun t => ends t ∧ OthersOwed (spent t) n l s t ∧
       (¬ spent t → OfferedPending l s t) ∧
       (spent t → Offered (owedInOrder s n [l] l) s.map.pendingLbns s.map.refresh s t) ∧
       DoneWith t n (if x.abortMark then .aborted else .writeProtected) ∧ (t.tag n).passed = x.passed ∧
       (t.tag n).soFar = x.soFar ∧ (t.tag n).reallocs = x.reallocs ∧
       (¬ onSpare → RawCounted CondId.programFailures [CondId.pendingBlocks] s t) ∧
       (onSpare → SpareRetired o.pbn s t ∧
         RawCounted CondId.programFailures [CondId.sparesRemaining, CondId.pendingBlocks] s t)))

/-! ## The journal -/

/-- A commit attempt ends with PASS (R155): last-done and the next position move, condition 10 counts, the WRITE and ZERO
tags and the command whose needed sequence it covers are released; in STARTING the part becomes READY (R166). -/
def Obligations.CommitPasses : Prop :=
  ∀ (o : ArrayOp) (c : Commit) (s : State),
    s.array.op = some o → o.operation = .programBlock → o.requester = .journal → s.jrnl.commit = some c →
    s.jrnl.nextPos ≤ 31 →
    Completes (.programBlockCompletion .pass) s fun t =>
      t.jrnl.lastDone = c.sequence ∧ t.jrnl.nextPos = (s.jrnl.nextPos + 1) % 32 ∧
      (t.jrnl.commit = none ∨ (s.jrnl.commitNeeded = true ∧
        t.jrnl.commit = some { sequence := s.jrnl.lastStarted + 1, attempts := 1 })) ∧
      (s.jrnl.mode = .starting → t.jrnl.mode = .ready ∧ t.attn.latched.getLsbD 7 = true) ∧
      (s.jrnl.mode ≠ .starting → t.jrnl.mode = s.jrnl.mode) ∧
      RawCounted CondId.journalCommits [] s t ∧ t.map.pendingLbns = s.map.pendingLbns ∧ RemapKept s t ∧
      (∀ n ∈ s.req.queue, (s.tag n).state = .ending → (s.tag n).kind.writes = true → ∀ q, (s.tag n).needed = some q →
        (q ≤ c.sequence → DoneWith t n (s.tag n).soFar) ∧ (c.sequence < q → t.tag n = s.tag n)) ∧
      (∀ q, s.cmd.running = some (.thresholdLoad q) ∨ s.cmd.running = some (.conditionSave q) →
        (q ≤ c.sequence → t.cmd.running = none ∧ t.cmd.result = .ok ∧ t.attn.latched.getLsbD 1 = true) ∧
        (c.sequence < q → t.cmd = s.cmd))

/-- A commit attempt ends with FAIL (R156): the next position moves and condition 11 counts; before the fourth FAIL the
next attempt is granted at once from the same image; the fourth makes the store READ_ONLY (R160, R161): FAULT, write tags
DONE, the patrol halted, a waiting command completed with JOURNAL_FAULT. -/
def Obligations.CommitFails : Prop :=
  ∀ (o : ArrayOp) (c : Commit) (s : State),
    s.array.op = some o → o.operation = .programBlock → o.requester = .journal → s.jrnl.commit = some c →
    s.jrnl.mode ≠ .readOnly → s.jrnl.nextPos ≤ 31 → s.jrnl.scanNext = none → queueLive s →
    Completes (.programBlockCompletion .fail) s fun t =>
      t.jrnl.nextPos = (s.jrnl.nextPos + 1) % 32 ∧ t.jrnl.lastDone = s.jrnl.lastDone ∧
      (t.cond[CondId.journalSkips]).raw = oneMore (s.cond[CondId.journalSkips]).raw ∧
      (c.attempts < 4 →
        t.jrnl.mode = s.jrnl.mode ∧ t.jrnl.commit = some { c with attempts := c.attempts + 1 } ∧
        t.jrnl.imageBuffer = s.jrnl.imageBuffer ∧
        t.array.op = some { operation := .programBlock, pbn := 4064 + (s.jrnl.nextPos + 1) % 32, lbn := none,
                            requester := .journal, purpose := .ringProgram, data := .imageBuffer,
                            payload := s.jrnl.imageBuffer.payload } ∧
        t.map = s.map ∧ t.cmd = s.cmd ∧ t.patrol.state = s.patrol.state) ∧
      (4 ≤ c.attempts →
        t.jrnl.mode = .readOnly ∧ t.jrnl.commit = none ∧ t.attn.latched.getLsbD 4 = true ∧
        (s.jrnl.mode = .starting → t.attn.latched.getLsbD 7 = true) ∧
        (∀ n ∈ s.req.queue, (s.tag n).state.live = true → (s.tag n).kind.writes = true →
          DoneWith t n (if (s.tag n).state = .ending then .journalFault else .writeProtected)) ∧
        t.patrol.state = .idle ∧ (s.patrol.state ≠ .idle → t.patrol.mode = none ∧ t.patrol.status = .haltedReadOnly) ∧
        t.patrol.gapTimer = none ∧ t.patrol.buf.valid = false ∧
        (∀ q, s.cmd.running = some (.thresholdLoad q) ∨ s.cmd.running = some (.conditionSave q) →
          t.cmd.running = none ∧ t.cmd.result = .journalFault ∧ t.attn.latched.getLsbD 1 = true))

/-! ## Device commands -/

/-- A CMD write that is not taken (R187, R188, R189): dropped with CMD_OVERRUN while a command runs; else completed at
once with BAD_COMMAND, NOT_READY or REFUSED_READ_ONLY. The high byte is ignored (notes/assumptions/10.md). -/
def Obligations.CommandNotTaken : Prop :=
  ∀ (hi : BitVec 8) (v : Word) (s : State), s.rstnLow = false →
    let needReady : List (Instr × BitVec 8) := [(.patrolSegment hi, 0x01#8), (.patrolPass hi, 0x02#8),
      (.patrolAuto hi, 0x03#8), (.thresholdLoad hi, 0x11#8), (.conditionSave hi, 0x12#8)]
    let all : List (Instr × BitVec 8) := needReady ++ [(.patrolStop hi, 0x04#8), (.reportBuild hi, 0x10#8)]
    let overrun : State := { s with attn := { s.attn with latched := s.attn.latched ||| 0x40#8 } }
    (s.cmd.running ≠ none → (∀ p ∈ all, exec p.1 s = .next overrun) ∧ exec (.badCommand v) s = .next overrun) ∧
    (s.cmd.running = none →
      ((Instr.badCommand v).wf = true →
        exec (.badCommand v) s = .next (completedWith (v.setWidth 8) .badCommand s)) ∧
      (s.jrnl.mode = .starting → ∀ p ∈ all, exec p.1 s = .next (completedWith p.2 .notReady s)) ∧
      (s.jrnl.mode = .readOnly → ∀ p ∈ needReady, exec p.1 s = .next (completedWith p.2 .refusedReadOnly s)))

/-- A start command in READY (R138): by patrol state the mode is set, replaced, or for AUTO in GAP left; the status and
the state follow; the resume LBN stays; the command completes with OK at the same event. PATROL_STOP, in READY and in
READ_ONLY (R139): from WAITING, RUNNING or GAP the engine is IDLE, STOPPED, with no mode and no gap timer, and PATROL is
latched; in IDLE it changes nothing; it completes with OK. -/
def Obligations.PatrolStartsAndStops : Prop :=
  (∀ (hi : BitVec 8) (s : State), s.rstnLow = false → s.cmd.running = none → s.jrnl.mode = .ready →
     let permitted := s.req.queue = [] ∧ s.patrol.quietElapsed = true
     ∀ p ∈ [(Instr.patrolSegment hi, PatrolMode.segment, 0x01#8), (Instr.patrolPass hi, PatrolMode.pass, 0x02#8),
         (Instr.patrolAuto hi, PatrolMode.auto, 0x03#8)],
       let starts := s.patrol.state = .idle ∨ (s.patrol.state = .gap ∧ p.2.1 ≠ .auto)
       Completes p.1 s fun t =>
         (starts → t.patrol.mode = some p.2.1 ∧ t.patrol.status = .inProgress ∧ t.patrol.gapTimer = none ∧
           (permitted → t.patrol.state = .running) ∧ (¬ permitted → t.patrol.state = .waiting)) ∧
         (¬ starts → t.patrol.state = s.patrol.state ∧ t.patrol.status = s.patrol.status ∧
           t.patrol.gapTimer = s.patrol.gapTimer ∧
           t.patrol.mode = (if s.patrol.state = .gap then s.patrol.mode else some p.2.1)) ∧
         t.patrol.resume = s.patrol.resume ∧ t.patrol.buf = s.patrol.buf ∧
         t.cmd = { s.cmd with running := none, result := .ok, resultCode := p.2.2 } ∧
         t.attn.latched = s.attn.latched ||| 0x02#8 ∧ HealthKept s t ∧ t.cfg = s.cfg ∧ ArrayKept s t ∧
         (UnitOk s → t.req = s.req ∧ t.pool = s.pool ∧ t.svc = s.svc ∧ t.jrnl = s.jrnl)) ∧
  (∀ (hi : BitVec 8) (s : State), s.rstnLow = false → s.cmd.running = none → s.jrnl.mode ≠ .starting →
     (s.patrol.state = .idle → exec (.patrolStop hi) s = .next (completedWith 0x04#8 .ok s)) ∧
     (s.patrol.state ≠ .idle → exec (.patrolStop hi) s = .next (completedWith 0x04#8 .ok { s with
       patrol := { s.patrol with state := .idle, mode := none, status := .stopped, gapTimer := none }
       attn := { s.attn with latched := s.attn.latched ||| 0x08#8 } })))

/-- REPORT_BUILD, in READY and in READ_ONLY (R177, R178): the report is fixed at the take, from the state at that event,
and the build runs; nothing else changes. When the last word is written (R191) the buffer holds that report, RPTR stays,
the command completes with OK, and nothing else changes. -/
def Obligations.ReportBuildFixesReport : Prop :=
  (∀ (hi : BitVec 8) (s : State), s.rstnLow = false → s.cmd.running = none → s.jrnl.mode ≠ .starting →
     ∃ w : Vector Word 256,
       exec (.reportBuild hi) s = .next { s with cmd := { s.cmd with running := some (.reportBuild w) } } ∧
       w[0] = 0x0301#16 ∧ w[1] = BitVec.ofNat 16 (verdict s).code ∧ w[2] = BitVec.ofNat 16 s.jrnl.mode.code ∧
       w[3] = BitVec.ofNat 16 s.patrol.status.code ∧
       w[4] = BitVec.ofNat 16 (s.patrol.resume / segLength s.cfg.segCode) ∧
       (s.cfg.segCode = 0 → w[5] = 62) ∧ (s.cfg.segCode = 1 → w[5] = 31) ∧ (s.cfg.segCode = 2 → w[5] = 16) ∧
       (s.cfg.segCode = 3 → w[5] = 8) ∧ w[6] = BitVec.ofNat 16 s.patrol.resume ∧
       w[7] = BitVec.ofNat 16 s.jrnl.lastDone ∧ w[8] = BitVec.ofNat 16 (s.jrnl.lastDone / 65536) ∧
       w[9] = BitVec.ofNat 16 s.map.overflow ∧
       (∀ k : Fin 256, 10 ≤ k.val → k.val < 16 → w[k] = 0)) ∧
  (∀ (w : Vector Word 256) (s : State), s.cmd.running = some (.reportBuild w) →
     exec .reportBuildCompletion s =
       .next (completedWith 0x10#8 .ok { s with cmd := { s.cmd with buffer := w } }))

/-- The entries of a report (R179): twelve of eight words, from word 16 on, in increasing order of id; zeros after them;
and word 255 makes the sum of all 256 words 0 modulo 65536. -/
def Obligations.ReportEntriesAndChecksum : Prop :=
  ∀ (hi : BitVec 8) (s : State), s.rstnLow = false → s.cmd.running = none → s.jrnl.mode ≠ .starting → ConditionsOk s →
    s.map.pendingLbns.length ≤ 16 → (∀ i : CondId, (s.cond[i]).raw ≤ 4294967295 ∧ (s.cond[i]).threshold ≤ 255) →
    ∃ w : Vector Word 256,
      exec (.reportBuild hi) s = .next { s with cmd := { s.cmd with running := some (.reportBuild w) } } ∧
      (∀ i : CondId,
        let at_ (j : Fin 8) : Nat := (w[16 + 8 * i.val + j.val]'(by have := i.isLt; have := j.isLt; omega)).toNat
        at_ 0 = i.val + 1 ∧ at_ 1 = (condClass i).code + 16 * (condCollection i).code ∧
        at_ 2 = (s.cond[i]).grade ∧ at_ 3 = (s.cond[i]).worst ∧ at_ 4 = (s.cond[i]).threshold ∧
        at_ 5 + 65536 * at_ 6 = (s.cond[i]).raw ∧ at_ 7 = 0 ∧
        (i = CondId.sparesRemaining ∨ i = CondId.pendingBlocks → at_ 6 = 0)) ∧
      (∀ k : Fin 256, 112 ≤ k.val → k.val < 255 → w[k] = 0) ∧
      (w.toList.map (·.toNat)).sum % 65536 = 0

/-- THRESHOLD_LOAD (R180): refused by the store mode, by any of its four tests, changing nothing but the result; and while
it runs RDATA is closed. -/
def Obligations.ThresholdLoadTestsTheBuffer : Prop :=
  ∀ (hi : BitVec 8) (s : State), s.rstnLow = false →
    let b := s.cmd.buffer
    let passes := b[0] = 0x0301#16 ∧ (b.toList.map (·.toNat)).sum % 65536 = 0 ∧
      (∀ i : CondId, (b[16 + 8 * i.val]'(by have := i.isLt; omega)).toNat = i.val + 1) ∧
      (∀ i : CondId, (b[20 + 8 * i.val]'(by have := i.isLt; omega)).toNat ≤ 255)
    (s.cmd.running = none →
      (s.jrnl.mode = .starting → exec (.thresholdLoad hi) s = .next (completedWith 0x11#8 .notReady s)) ∧
      (s.jrnl.mode = .readOnly → exec (.thresholdLoad hi) s = .next (completedWith 0x11#8 .refusedReadOnly s)) ∧
      (s.jrnl.mode = .ready ∧ ¬ passes →
        exec (.thresholdLoad hi) s = .next (completedWith 0x11#8 .refusedImage s)) ∧
      (s.jrnl.mode = .ready ∧ passes → s.jrnl.lastStarted < 4294967295 → Completes (.thresholdLoad hi) s fun t =>
        (∀ i : CondId, (t.cond[i]).threshold = (b[20 + 8 * i.val]'(by have := i.isLt; omega)).toNat) ∧
        t.cmd.running = some (.thresholdLoad (s.jrnl.lastStarted + 1)))) ∧
    (∀ q, s.cmd.running = some (.thresholdLoad q) →
      exec .rdataRead s = .next { s with lastRead := 0xFFFF#16 } ∧ ∀ v, exec (.rdataWrite v) s = .next s)

/-- THRESHOLD_LOAD with a good buffer, and CONDITION_SAVE, in READY (R181, R182): the commit reason is made, the needed
sequence last-started + 1 is recorded, and the command waits; the save changes no condition, the load only thresholds.
With the sequence exhausted the store mode becomes READ_ONLY and the command completes with JOURNAL_FAULT at once (R159);
the operation in flight goes on; a WRITE or ZERO tag with its program in flight takes the write-protect mark, loses its
resting slots and stays ACTIVE, unless it carries the abort mark; every other write tag is DONE (R18, R46, R115), and the
patrol halts (R147). -/
def Obligations.CommandsWaitForTheirCommit : Prop :=
  ∀ (hi : BitVec 8) (s : State), s.rstnLow = false → s.cmd.running = none → s.jrnl.mode = .ready →
    let waits (s t : State) : Prop := reasonMade s t ∧ t.jrnl.mode = .ready ∧ t.cmd.result = s.cmd.result ∧
      t.cmd.buffer = s.cmd.buffer ∧ t.cmd.rptr = s.cmd.rptr ∧ RawKept [] s t ∧ RemapKept s t ∧
      t.map.pendingLbns = s.map.pendingLbns ∧ t.patrol.status = s.patrol.status ∧ t.cfg = s.cfg ∧ ArrayKept s t
    let fails (code : BitVec 8) (t : State) : Prop := t.jrnl.mode = .readOnly ∧ t.cmd.running = none ∧
      t.cmd.result = .journalFault ∧ t.cmd.resultCode = code ∧ t.attn.latched.getLsbD 1 = true ∧
      t.attn.latched.getLsbD 4 = true ∧ StoppedByReadOnly s t ∧ (s.array.op ≠ none → t.array.op = s.array.op) ∧
      t.patrol.state = .idle ∧ t.patrol.gapTimer = none ∧ t.patrol.buf.valid = false ∧ RemapKept s t ∧ ArrayKept s t
    (s.jrnl.lastStarted < 4294967295 →
      Completes (.conditionSave hi) s (fun t => waits s t ∧ t.cond = s.cond ∧
        t.cmd.running = some (.conditionSave (s.jrnl.lastStarted + 1))) ∧
      (thresholdsValid s.cmd.buffer = true → Completes (.thresholdLoad hi) s (fun t => waits s t ∧
        t.cmd.running = some (.thresholdLoad (s.jrnl.lastStarted + 1)) ∧
        ∀ i : CondId, (t.cond[i]).grade = (s.cond[i]).grade ∧ (t.cond[i]).worst = (s.cond[i]).worst))) ∧
    (s.jrnl.lastStarted = 4294967295 →
      Completes (.conditionSave hi) s (fails 0x12#8) ∧
      (thresholdsValid s.cmd.buffer = true → Completes (.thresholdLoad hi) s (fun t => fails 0x11#8 t ∧
        ∀ i : CondId, (t.cond[i]).threshold = thresholdWord s.cmd.buffer i)))

/-- The report buffer (R190): RPTR is set from the low eight bits and read back; a served RDATA access moves the word at
RPTR and raises RPTR by one, from 255 to 0; during REPORT_BUILD and THRESHOLD_LOAD it is dropped; nothing else changes.
Only RDATA writes and REPORT_BUILD change the buffer; it holds zeros after power-on reset, and SOFT_RESET keeps it. -/
def Obligations.ReportBufferAccess : Prop :=
  ∀ s : State, s.rstnLow = false →
    let closed := (∃ w, s.cmd.running = some (.reportBuild w)) ∨ (∃ q, s.cmd.running = some (.thresholdLoad q))
    let next : BitVec 8 := BitVec.ofNat 8 ((s.cmd.rptr.toNat + 1) % 256)
    (∀ v : Word, exec (.registerWrite 0x13 v) s = .next { s with cmd := { s.cmd with rptr := v.setWidth 8 } }) ∧
    (regRead s 0x13).toNat = s.cmd.rptr.toNat ∧
    (¬ closed →
      exec .rdataRead s = .next { s with
        lastRead := s.cmd.buffer[s.cmd.rptr.toNat]'s.cmd.rptr.isLt, cmd := { s.cmd with rptr := next } } ∧
      ∀ v, exec (.rdataWrite v) s = .next { s with cmd := { s.cmd with
        buffer := s.cmd.buffer.set s.cmd.rptr.toNat v s.cmd.rptr.isLt, rptr := next } }) ∧
    (closed → exec .rdataRead s = .next { s with lastRead := 0xFFFF#16 } ∧ ∀ v, exec (.rdataWrite v) s = .next s) ∧
    (∀ c t, exec c s = .next t → (∀ v, c ≠ .rdataWrite v) → (∀ v, c ≠ .registerWrite 0x14 v) →
      c ≠ .reportBuildCompletion → c ≠ .powerOnReset → (∀ w, s.cmd.running ≠ some (.reportBuild w)) →
      t.cmd.buffer = s.cmd.buffer) ∧
    Completes .powerOnReset s fun t => ∀ k : Fin 256, t.cmd.buffer[k] = 0

/-! ## Timers -/

/-- The quiet timer and the gap timer expire (R135, R137): quiet elapsed is set, and a WAITING engine is RUNNING if
background is now permitted; after the gap the status is IN_PROGRESS and the engine RUNNING or WAITING. -/
def Obligations.TimersExpire : Prop :=
  ∀ s : State,
    let idle := s.req.queue = [] ∧ s.jrnl.mode ≠ .starting
    let kept (t : State) : Prop := HealthKept s t ∧ t.patrol.mode = s.patrol.mode ∧ t.patrol.resume = s.patrol.resume ∧
      t.cmd = s.cmd ∧ t.cfg = s.cfg ∧ t.attn = s.attn ∧ t.port = s.port ∧ t.svc = s.svc ∧ ArrayKept s t ∧
      (UnitOk s → t.req = s.req ∧ t.pool = s.pool ∧ t.jrnl = s.jrnl)
    (s.patrol.quietTimer ≠ none → Completes .quietTimerExpiry s fun t =>
      t.patrol.quietTimer = none ∧ t.patrol.quietElapsed = true ∧
      t.patrol.gapTimer = s.patrol.gapTimer ∧ t.patrol.status = s.patrol.status ∧
      (idle ∧ s.patrol.state = .waiting → t.patrol.state = .running) ∧
      (¬ (idle ∧ s.patrol.state = .waiting) → t.patrol.state = s.patrol.state) ∧ kept t) ∧
    (s.patrol.gapTimer ≠ none → Completes .gapTimerExpiry s fun t =>
      t.patrol.gapTimer = none ∧ t.patrol.status = .inProgress ∧
      t.patrol.quietTimer = s.patrol.quietTimer ∧ t.patrol.quietElapsed = s.patrol.quietElapsed ∧
      (idle ∧ s.patrol.quietElapsed = true → t.patrol.state = .running) ∧
      (¬ (idle ∧ s.patrol.quietElapsed = true) → t.patrol.state = .waiting) ∧ kept t)

/-! ## Registers, attention and configuration -/

/-- ACAUSE_WRITE (R195) clears the latched causes written as 1 and nothing else; a latched cause stays until such a write
or a reset; ACAUSE reads every present cause, enabled or not. -/
def Obligations.CausesStayUntilCleared : Prop :=
  ∀ s : State, s.rstnLow = false →
    (∀ v, exec (.acauseWrite v) s = .next { s with attn := { s.attn with
      latched := s.attn.latched &&& ~~~(v.setWidth 8) } }) ∧
    (∀ c t, exec c s = .next t → (∀ v, c ≠ .acauseWrite v) → (∀ v, c ≠ .registerWrite 0x02 v) → c ≠ .softReset →
      (∀ v, c ≠ .registerWrite 0x19 v) → c ≠ .powerOnReset →
      ∀ k, s.attn.latched.getLsbD k = true → t.attn.latched.getLsbD k = true) ∧
    ∀ k, 1 ≤ k → (regRead s 0x02).getLsbD k = s.attn.latched.getLsbD k

/-- AENABLE and ATTNn (R196): a write sets the mask, a read returns it; ATTNn is low exactly while a cause is present and
enabled; the mask is 0 after power-on reset and SOFT_RESET keeps it. -/
def Obligations.AttnFollowsCausesAndMask : Prop :=
  ∀ s : State,
    (s.rstnLow = false → ∀ v, exec (.aenableWrite v) s = .next { s with attn := { s.attn with
      enable := v.setWidth 8 } }) ∧
    regRead s 0x03 = s.attn.enable.setWidth 16 ∧
    (attnLow s = true ↔ ∃ k, (regRead s 0x02).getLsbD k = true ∧ (regRead s 0x03).getLsbD k = true) ∧
    (∀ t, exec .powerOnReset s = .next t → t.attn.enable = 0 ∧ attnLow t = false) ∧
    (∀ t, exec .softReset s = .next t → t.attn.enable = s.attn.enable)

/-- REGISTER_WRITE (R185): QLBN, QCOUNT and PGAP hold all 16 bits, RPTR the low eight; read-only registers, reserved
offsets and SRESET but for 1 ignore the write; a register whose write is another row acts as that row (the model's choice,
notes/assumptions/15.md). CFGA_WRITE and CFGB_WRITE (R193, R194): each field is tested on its own, a valid one is taken
and an invalid one kept, CFG_REJECT says whether one was kept, and CFGA reads the values in force. An unchanged slot quota
grants no slot; under a new one the free slots are granted within it until none is free or no tag is eligible (R35). -/
def Obligations.RegisterAndConfigurationWrites : Prop :=
  (∀ (v : Word) (s : State), s.rstnLow = false →
     exec (.registerWrite 0x04 v) s = .next { s with req := { s.req with qlbn := v } } ∧
     exec (.registerWrite 0x05 v) s = .next { s with req := { s.req with qcount := v } } ∧
     exec (.registerWrite 0x13 v) s = .next { s with cmd := { s.cmd with rptr := v.setWidth 8 } } ∧
     exec (.registerWrite 0x17 v) s = .next { s with cfg := { s.cfg with passGap := v } } ∧
     (∀ a ∈ [0x00#5, 0x01#5, 0x07#5, 0x08#5, 0x0A#5, 0x0E#5, 0x0F#5, 0x10#5, 0x11#5, 0x12#5, 0x18#5, 0x1A#5, 0x1B#5,
         0x1C#5, 0x1D#5, 0x1E#5, 0x1F#5], exec (.registerWrite a v) s = .next s) ∧
     (v ≠ 1 → exec (.registerWrite 0x19 v) s = .next s) ∧
     exec (.registerWrite 0x19 1) s = exec .softReset s ∧
     (∀ p ∈ [(0x02#5, Instr.acauseWrite v), (0x03#5, .aenableWrite v), (0x06#5, .submission v), (0x09#5, .ptagWrite v),
         (0x0B#5, .pdataWrite v), (0x0C#5, .abortRequest v), (0x0D#5, .badCommand v), (0x14#5, .rdataWrite v),
         (0x15#5, .cfgaWrite v), (0x16#5, .cfgbWrite v)], exec (.registerWrite p.1 v) s = exec p.2 s)) ∧
  (∀ (v : Word) (s : State), s.rstnLow = false →
     let level := v.toNat % 16
     let retry := v.toNat / 16 % 8
     let quota := v.toNat / 256 % 16
     let cfg : ConfigRegs := { s.cfg with
       refreshLevel := if 1 ≤ level ∧ level ≤ 8 then level else s.cfg.refreshLevel
       retryLimit := if retry ≤ 3 then retry else s.cfg.retryLimit
       slotQuota := if 1 ≤ quota ∧ quota ≤ 8 then quota else s.cfg.slotQuota
       cfgReject := decide (¬ ((1 ≤ level ∧ level ≤ 8) ∧ retry ≤ 3 ∧ (1 ≤ quota ∧ quota ≤ 8))) }
     (cfg.slotQuota = s.cfg.slotQuota → exec (.cfgaWrite v) s = .next { s with cfg := cfg }) ∧
     Completes (.cfgaWrite v) s fun t =>
       t.cfg = cfg ∧ OthersKept { s with cfg := cfg } t ∧
       (∀ n, (s.slot n).state ≠ .free → (t.slot n).owner = (s.slot n).owner) ∧
       (∀ n u, (s.slot n).state = .free → (t.slot n).state ≠ .free → (t.slot n).owner = some u →
         heldCount t u ≤ cfg.slotQuota) ∧
       (cfg.slotQuota ≠ s.cfg.slotQuota ∨ SlotsGranted s → SlotsGranted t) ∧
       (ConfigOk s → (regRead t 0x15).toNat = cfg.refreshLevel + 16 * cfg.retryLimit + 256 * cfg.slotQuota)) ∧
  (∀ (v : Word) (s : State), s.rstnLow = false →
     let seg := v.toNat / 256 % 8
     exec (.cfgbWrite v) s = .next { s with cfg := { s.cfg with
       quietCode := v.toNat % 256
       segCode := if seg ≤ 3 then seg else s.cfg.segCode
       cfgReject := decide (3 < seg) } })

/-- Reading has no side effect and shows the state. STAT (R186): each field shows what it reflects. PSTAT (R44): the
attached tag, READY exactly when the next access in the tag's direction is served, PORT_MISS, and the words left in the
slot that serves it. QLBN, QCOUNT, QCTRL, QABORT and PGAP read what was written; QRESULT, CMD, CMDRES, CFGA, CFGB and PPOS
their fields (R200). The completion registers show the record (R24, R57): CPLSTAT the tag, kind and status, CPLBLK
blocks_done, CPLLBN the first failing LBN or 0xFFFF, CPLINFO by kind. -/
def Obligations.RegistersShowTheState : Prop :=
  (∀ s : State,
     (regRead s 0x01).toNat % 4 = s.jrnl.mode.code ∧ (regRead s 0x01).toNat / 4 % 4 = (verdict s).code ∧
     (regRead s 0x01).toNat / 16 % 8 = s.patrol.status.code ∧ (regRead s 0x01).toNat / 128 % 4 = s.patrol.state.code ∧
     ((regRead s 0x01).getLsbD 9 = true ↔ s.array.op ≠ none) ∧
     ((regRead s 0x01).getLsbD 10 = true ↔ s.cmd.running ≠ none) ∧
     ((regRead s 0x01).getLsbD 11 = true ↔ s.req.queue = []) ∧
     (regRead s 0x01).getLsbD 12 = s.req.abortIgnored ∧ (regRead s 0x01).getLsbD 13 = s.cfg.cfgReject ∧
     (regRead s 0x01).toNat < 16384 ∧ regRead s 0x00 = 0xD401#16) ∧
  (∀ s : State,
     regRead s 0x04 = s.req.qlbn ∧ regRead s 0x05 = s.req.qcount ∧ regRead s 0x06 = s.req.qctrl ∧
     (regRead s 0x07).toNat = s.req.qresult.code + 256 * s.req.qresultTag.val ∧ regRead s 0x0C = s.req.qabort ∧
     (s.cmd.running = none → regRead s 0x0D = 0) ∧
     (∀ w, s.cmd.running = some (.reportBuild w) → regRead s 0x0D = 0x0010#16) ∧
     (∀ q, s.cmd.running = some (.thresholdLoad q) → regRead s 0x0D = 0x0011#16) ∧
     (∀ q, s.cmd.running = some (.conditionSave q) → regRead s 0x0D = 0x0012#16) ∧
     (regRead s 0x0E).toNat = s.cmd.result.code + 256 * s.cmd.resultCode.toNat ∧
     (ConfigOk s → (regRead s 0x15).toNat = s.cfg.refreshLevel + 16 * s.cfg.retryLimit + 256 * s.cfg.slotQuota ∧
       (regRead s 0x16).toNat = s.cfg.quietCode + 256 * s.cfg.segCode) ∧
     regRead s 0x17 = s.cfg.passGap ∧ (s.patrol.resume ≤ 3967 → (regRead s 0x18).toNat = s.patrol.resume) ∧
     (∀ a : RegAddr, 0x19 ≤ a.toNat → regRead s a = 0) ∧
     let u := s.port.attached
     (regRead s 0x0A).toNat % 16 = u.val ∧ ((regRead s 0x0A).getLsbD 4 = true ↔ hasDataIn s u ∨ hasDataOut s u) ∧
     (regRead s 0x0A).getLsbD 5 = s.port.miss ∧ (regRead s 0x0A).getLsbD 6 = false ∧
     (¬ hasDataIn s u → ¬ hasDataOut s u → (regRead s 0x0A).toNat / 128 = 0) ∧
     (∀ (k : SlotNo) (l : Nat), hasDataIn s u → (s.slot k).owner = some u →
       ((s.slot k).state = .full ∨ (s.slot k).state = .draining) → (s.slot k).lbn = some l →
       (∀ m, m ≠ k → (s.slot m).owner = some u → ((s.slot m).state = .full ∨ (s.slot m).state = .draining) →
         ∃ j, (s.slot m).lbn = some j ∧ l < j) → (regRead s 0x0A).toNat / 128 = 256 - (s.slot k).pos) ∧
     (∀ k : SlotNo, hasDataOut s u → (s.slot k).owner = some u →
       ((s.slot k).state = .reserved ∨ (s.slot k).state = .filling) →
       (∀ m, m ≠ k → (s.slot m).owner = some u → (s.slot m).state ≠ .reserved ∧ (s.slot m).state ≠ .filling) →
       (regRead s 0x0A).toNat / 128 = 256 - (s.slot k).pos)) ∧
  (∀ (n : TagNo) (x : Tag) (st : Status) (s : State), x.final = some st → s.svc.readout = some (completionOf n x) →
     x.moved ≤ 256 → x.passed ≤ 256 → x.completed ≤ 256 → x.worst ≤ 8 → x.retriesUsed ≤ 48 → x.uncorrCount ≤ 256 →
     x.reallocs ≤ 96 → (∀ l, x.firstFail = some l → l ≤ 3967) →
     (regRead s 0x0F).toNat = n.val + 16 * x.kind.code + 256 * st.code ∧
     (regRead s 0x10).toNat = (match x.kind with | .read => x.moved | .write | .zero => x.passed
                                                 | .check => x.completed) ∧
     (regRead s 0x11).toNat = x.firstFail.getD 0xFFFF ∧
     (regRead s 0x12).toNat = (match x.kind with
       | .read => x.worst + 256 * x.retriesUsed
       | .check => x.worst + 16 * x.uncorrCount
       | .write | .zero => x.reallocs))

/-! ## Conditions -/

/-- The grades (R172): at each event that changes a raw value the grade is the formula of its id, and after the load of an
image or the fresh state every grade is. -/
def Obligations.GradesFollowRawValues : Prop :=
  let f (i : CondId) (raw : Nat) : Nat := match i.val + 1 with
    | 1 => max 1 (100 - raw / 1024)
    | 2 => max 1 (100 - raw / 64)
    | 3 => max 1 (100 - raw / 4)
    | 4 => max 1 (100 - raw / 8)
    | 5 => 1 + 99 * raw / 96
    | 6 => 100 - 6 * raw
    | 7 => max 1 (100 - raw / 16)
    | 9 => max 1 (100 - raw / 256)
    | 11 => max 1 (100 - raw / 2)
    | _ => 100
  (∀ (c : Instr) (s t : State), exec c s = .next t → ∀ i : CondId, (t.cond[i]).raw ≠ (s.cond[i]).raw →
    (t.cond[i]).grade = f i (t.cond[i]).raw) ∧
  (∀ (o : ArrayOp) (out : ReadOutcome) (s t : State), s.array.op = some o → o.operation = .readBlock →
    o.requester = .journal → o.pbn = 4095 → exec (.readBlockCompletion out) s = .next t →
    ∀ i : CondId, (t.cond[i]).grade = f i (t.cond[i]).raw) ∧
  f 4 96 = 100 ∧ f 4 0 = 1 ∧ f 5 0 = 100 ∧ f 5 16 = 4 ∧
  (∀ p ∈ [((0 : CondId), 101376), (1, 6336), (2, 396), (3, 792), (6, 1584), (8, 25344), (10, 198)],
    f p.1 p.2 = 1 ∧ f p.1 (p.2 - 1) ≠ 1)

/-- A cumulative raw value never falls, and never passes 4,294,967,295, while no image is loaded and no power is lost
(R169, R171); at the limit raw value, grade and worst grade stay. -/
def Obligations.CumulativeCountsSaturate : Prop :=
  ∀ (c : Instr) (s t : State), exec c s = .next t → c ≠ .powerOnReset →
    (∀ o, s.array.op = some o → o.requester = .journal → o.operation ≠ .readBlock) →
    ∀ i : CondId, i ≠ CondId.sparesRemaining → i ≠ CondId.pendingBlocks →
      (s.cond[i]).raw ≤ (t.cond[i]).raw ∧
      ((s.cond[i]).raw ≤ 4294967295 → (t.cond[i]).raw ≤ 4294967295) ∧
      ((s.cond[i]).raw = 4294967295 →
        (t.cond[i]).grade = (s.cond[i]).grade ∧ (t.cond[i]).worst = (s.cond[i]).worst)

/-- Tripping, the verdict and HEALTH (R174, R175, R176): STAT shows FAILING for a tripped PREFAIL condition, else ADVISORY
for a tripped ADVISORY one, else GOOD; HEALTH is latched at every event after which a condition is tripped that was not.
-/
def Obligations.VerdictAndHealthFollowTripping : Prop :=
  let tripped (s : State) (i : CondId) : Prop := 1 ≤ (s.cond[i]).threshold ∧ (s.cond[i]).grade ≤ (s.cond[i]).threshold
  let prefail : List CondId := [1, 2, 3, 4, 5, 10]
  let advisory : List CondId := [0, 6, 8]
  let gains (s t : State) : Prop := ∃ i ∈ prefail ++ advisory, tripped t i ∧ ¬ tripped s i
  (∀ s : State,
    let shown := (regRead s 0x01).toNat / 4 % 4
    ((∃ i ∈ prefail, tripped s i) → shown = 2) ∧
    ((∀ i ∈ prefail, ¬ tripped s i) → (∃ i ∈ advisory, tripped s i) → shown = 1) ∧
    ((∀ i ∈ prefail ++ advisory, ¬ tripped s i) → shown = 0)) ∧
  (∀ (c : Instr) (s t : State), exec c s = .next t →
    (gains s t → t.attn.latched.getLsbD 2 = true) ∧
    (s.attn.latched.getLsbD 2 = false → t.attn.latched.getLsbD 2 = true → gains s t))

/-! ## Invariants that every step keeps -/

/-- The slots and the configuration (R29, R193, R194). -/
def Obligations.SlotsAndConfigurationKept : Prop := Kept fun s => SlotsOk s ∧ ConfigOk s

/-- The lists (R126), the canonical form of the array and of the remap table (R100), beside a scan candidate that has
passed the tests of R151. -/
def Obligations.MediaMapKept : Prop := Kept fun s => ListsOk s ∧ StorageOk s ∧ CandidateOk s

/-- The condition table (R170, R172, R173), beside a scan candidate that has passed the tests of R151. -/
def Obligations.ConditionTableKept : Prop := Kept fun s => ConditionsOk s ∧ CandidateOk s

/-- The dispatch queue with the order of arrival in each of its groups (R5, R13, R14), the HELD tags (R4, R17), the
service list and SERVICE (R49, R58), and the blocks in program and the reallocations they owe (R18, R21, R46, R72, R75,
R96, R103, R148). -/
def Obligations.QueueAndServiceListKept : Prop :=
  Kept fun s => QueueOk s ∧ ArrivalOk s ∧ HeldOk s ∧ ServiceOk s ∧ OwedOk s

/-- The journal's sequences, positions and ring reads, the scan before any commit, and the part held in reset (R152, R160,
R163, R166, R199). -/
def Obligations.JournalKept : Prop := Kept JournalOk

/-- The patrol engine (R130, R134, R135, R137), beside the journal's invariant. -/
def Obligations.PatrolKept : Prop := Kept fun s => JournalOk s ∧ PatrolOk s

/-- The Array Unit is never idle while an operation is runnable (R68). -/
def Obligations.ArrayUnitKept : Prop := Kept UnitOk

/-- All these invariants hold in the state after reset (notes/assumptions/3.md). -/
def Obligations.InvariantsHoldAtReset : Prop :=
  SlotsOk State.reset ∧ ConfigOk State.reset ∧ ListsOk State.reset ∧ StorageOk State.reset ∧ CandidateOk State.reset ∧
    ConditionsOk State.reset ∧ QueueOk State.reset ∧ ArrivalOk State.reset ∧ HeldOk State.reset ∧ ServiceOk State.reset ∧
    OwedOk State.reset ∧ SlotsGranted State.reset ∧ JournalOk State.reset ∧ PatrolOk State.reset ∧ UnitOk State.reset
end

