-- ==== Sys2Proof/Laws/State.lean ====
section
/-! SUPPORT. What each plain update leaves unchanged: one theorem for each operation, one equation for each field, all by
rfl, for simp. -/
namespace Sys2Proof.Machine
set_option Elab.async false

@[simp] theorem setTag_keeps (s : State) (t : TagNo) (x : Tag) :
    (s.setTag t x).rstnLow = s.rstnLow ∧ (s.setTag t x).lastRead = s.lastRead ∧ (s.setTag t x).pool = s.pool ∧
    (s.setTag t x).port = s.port ∧ (s.setTag t x).svc = s.svc ∧ (s.setTag t x).array = s.array ∧
    (s.setTag t x).map = s.map ∧ (s.setTag t x).patrol = s.patrol ∧ (s.setTag t x).jrnl = s.jrnl ∧
    (s.setTag t x).cond = s.cond ∧ (s.setTag t x).cmd = s.cmd ∧ (s.setTag t x).cfg = s.cfg ∧
    (s.setTag t x).attn = s.attn ∧ (s.setTag t x).freeDraws = s.freeDraws ∧ (s.setTag t x).pending = s.pending ∧
    (s.setTag t x).req.queue = s.req.queue ∧ (s.setTag t x).req.arrival = s.req.arrival ∧
    (s.setTag t x).req.qlbn = s.req.qlbn ∧ (s.setTag t x).req.qcount = s.req.qcount ∧
    (s.setTag t x).req.qctrl = s.req.qctrl ∧ (s.setTag t x).req.qresult = s.req.qresult ∧
    (s.setTag t x).req.qresultTag = s.req.qresultTag ∧ (s.setTag t x).req.qabort = s.req.qabort ∧
    (s.setTag t x).req.abortIgnored = s.req.abortIgnored :=
  ⟨rfl, rfl, rfl, rfl, rfl, rfl, rfl, rfl, rfl, rfl, rfl, rfl, rfl, rfl, rfl, rfl, rfl, rfl, rfl, rfl, rfl, rfl,
    rfl, rfl⟩

@[simp] theorem modTag_keeps (s : State) (t : TagNo) (f : Tag → Tag) :
    (s.modTag t f).rstnLow = s.rstnLow ∧ (s.modTag t f).lastRead = s.lastRead ∧ (s.modTag t f).pool = s.pool ∧
    (s.modTag t f).port = s.port ∧ (s.modTag t f).svc = s.svc ∧ (s.modTag t f).array = s.array ∧
    (s.modTag t f).map = s.map ∧ (s.modTag t f).patrol = s.patrol ∧ (s.modTag t f).jrnl = s.jrnl ∧
    (s.modTag t f).cond = s.cond ∧ (s.modTag t f).cmd = s.cmd ∧ (s.modTag t f).cfg = s.cfg ∧
    (s.modTag t f).attn = s.attn ∧ (s.modTag t f).freeDraws = s.freeDraws ∧ (s.modTag t f).pending = s.pending ∧
    (s.modTag t f).req.queue = s.req.queue ∧ (s.modTag t f).req.arrival = s.req.arrival ∧
    (s.modTag t f).req.qlbn = s.req.qlbn ∧ (s.modTag t f).req.qcount = s.req.qcount ∧
    (s.modTag t f).req.qctrl = s.req.qctrl ∧ (s.modTag t f).req.qresult = s.req.qresult ∧
    (s.modTag t f).req.qresultTag = s.req.qresultTag ∧ (s.modTag t f).req.qabort = s.req.qabort ∧
    (s.modTag t f).req.abortIgnored = s.req.abortIgnored :=
  ⟨rfl, rfl, rfl, rfl, rfl, rfl, rfl, rfl, rfl, rfl, rfl, rfl, rfl, rfl, rfl, rfl, rfl, rfl, rfl, rfl, rfl, rfl,
    rfl, rfl⟩

@[simp] theorem setSlot_keeps (s : State) (n : SlotNo) (x : Slot) :
    (s.setSlot n x).rstnLow = s.rstnLow ∧ (s.setSlot n x).lastRead = s.lastRead ∧ (s.setSlot n x).req = s.req ∧
    (s.setSlot n x).port = s.port ∧ (s.setSlot n x).svc = s.svc ∧ (s.setSlot n x).array = s.array ∧
    (s.setSlot n x).map = s.map ∧ (s.setSlot n x).patrol = s.patrol ∧ (s.setSlot n x).jrnl = s.jrnl ∧
    (s.setSlot n x).cond = s.cond ∧ (s.setSlot n x).cmd = s.cmd ∧ (s.setSlot n x).cfg = s.cfg ∧
    (s.setSlot n x).attn = s.attn ∧ (s.setSlot n x).freeDraws = s.freeDraws ∧ (s.setSlot n x).pending = s.pending :=
  ⟨rfl, rfl, rfl, rfl, rfl, rfl, rfl, rfl, rfl, rfl, rfl, rfl, rfl, rfl, rfl⟩

@[simp] theorem setCond_keeps (s : State) (i : CondId) (c : Condition) :
    (s.setCond i c).rstnLow = s.rstnLow ∧ (s.setCond i c).lastRead = s.lastRead ∧ (s.setCond i c).req = s.req ∧
    (s.setCond i c).pool = s.pool ∧ (s.setCond i c).port = s.port ∧ (s.setCond i c).svc = s.svc ∧
    (s.setCond i c).array = s.array ∧ (s.setCond i c).map = s.map ∧ (s.setCond i c).patrol = s.patrol ∧
    (s.setCond i c).jrnl = s.jrnl ∧ (s.setCond i c).cmd = s.cmd ∧ (s.setCond i c).cfg = s.cfg ∧
    (s.setCond i c).attn = s.attn ∧ (s.setCond i c).freeDraws = s.freeDraws ∧ (s.setCond i c).pending = s.pending :=
  ⟨rfl, rfl, rfl, rfl, rfl, rfl, rfl, rfl, rfl, rfl, rfl, rfl, rfl, rfl, rfl⟩

@[simp] theorem setRaw_keeps (s : State) (i : CondId) (v : Nat) :
    (s.setRaw i v).rstnLow = s.rstnLow ∧ (s.setRaw i v).lastRead = s.lastRead ∧ (s.setRaw i v).req = s.req ∧
    (s.setRaw i v).pool = s.pool ∧ (s.setRaw i v).port = s.port ∧ (s.setRaw i v).svc = s.svc ∧
    (s.setRaw i v).array = s.array ∧ (s.setRaw i v).map = s.map ∧ (s.setRaw i v).patrol = s.patrol ∧
    (s.setRaw i v).jrnl = s.jrnl ∧ (s.setRaw i v).cmd = s.cmd ∧ (s.setRaw i v).cfg = s.cfg ∧
    (s.setRaw i v).attn = s.attn ∧ (s.setRaw i v).freeDraws = s.freeDraws ∧ (s.setRaw i v).pending = s.pending :=
  ⟨rfl, rfl, rfl, rfl, rfl, rfl, rfl, rfl, rfl, rfl, rfl, rfl, rfl, rfl, rfl⟩

@[simp] theorem bump_keeps (s : State) (i : CondId) :
    (s.bump i).rstnLow = s.rstnLow ∧ (s.bump i).lastRead = s.lastRead ∧ (s.bump i).req = s.req ∧
    (s.bump i).pool = s.pool ∧ (s.bump i).port = s.port ∧ (s.bump i).svc = s.svc ∧ (s.bump i).array = s.array ∧
    (s.bump i).map = s.map ∧ (s.bump i).patrol = s.patrol ∧ (s.bump i).jrnl = s.jrnl ∧ (s.bump i).cmd = s.cmd ∧
    (s.bump i).cfg = s.cfg ∧ (s.bump i).attn = s.attn ∧ (s.bump i).freeDraws = s.freeDraws ∧
    (s.bump i).pending = s.pending :=
  ⟨rfl, rfl, rfl, rfl, rfl, rfl, rfl, rfl, rfl, rfl, rfl, rfl, rfl, rfl, rfl⟩

@[simp] theorem latch_keeps (c : Cause) (s : State) :
    (latch c s).rstnLow = s.rstnLow ∧ (latch c s).lastRead = s.lastRead ∧ (latch c s).req = s.req ∧
    (latch c s).pool = s.pool ∧ (latch c s).port = s.port ∧ (latch c s).svc = s.svc ∧ (latch c s).array = s.array ∧
    (latch c s).map = s.map ∧ (latch c s).patrol = s.patrol ∧ (latch c s).jrnl = s.jrnl ∧ (latch c s).cond = s.cond ∧
    (latch c s).cmd = s.cmd ∧ (latch c s).cfg = s.cfg ∧ (latch c s).freeDraws = s.freeDraws ∧
    (latch c s).pending = s.pending ∧ (latch c s).attn.enable = s.attn.enable :=
  ⟨rfl, rfl, rfl, rfl, rfl, rfl, rfl, rfl, rfl, rfl, rfl, rfl, rfl, rfl, rfl, rfl⟩

@[simp] theorem freeSlot_keeps (n : SlotNo) (s : State) :
    (freeSlot n s).rstnLow = s.rstnLow ∧ (freeSlot n s).lastRead = s.lastRead ∧ (freeSlot n s).req = s.req ∧
    (freeSlot n s).port = s.port ∧ (freeSlot n s).svc = s.svc ∧ (freeSlot n s).array = s.array ∧
    (freeSlot n s).map = s.map ∧ (freeSlot n s).patrol = s.patrol ∧ (freeSlot n s).jrnl = s.jrnl ∧
    (freeSlot n s).cond = s.cond ∧ (freeSlot n s).cmd = s.cmd ∧ (freeSlot n s).cfg = s.cfg ∧
    (freeSlot n s).attn = s.attn ∧ (freeSlot n s).freeDraws = s.freeDraws ∧ (freeSlot n s).pending = s.pending :=
  ⟨rfl, rfl, rfl, rfl, rfl, rfl, rfl, rfl, rfl, rfl, rfl, rfl, rfl, rfl, rfl⟩

@[simp] theorem freeSlotsOf_keeps (t : TagNo) (p : SlotState → Bool) (s : State) :
    (freeSlotsOf t p s).rstnLow = s.rstnLow ∧ (freeSlotsOf t p s).lastRead = s.lastRead ∧
    (freeSlotsOf t p s).req = s.req ∧ (freeSlotsOf t p s).port = s.port ∧ (freeSlotsOf t p s).svc = s.svc ∧
    (freeSlotsOf t p s).array = s.array ∧ (freeSlotsOf t p s).map = s.map ∧ (freeSlotsOf t p s).patrol = s.patrol ∧
    (freeSlotsOf t p s).jrnl = s.jrnl ∧ (freeSlotsOf t p s).cond = s.cond ∧ (freeSlotsOf t p s).cmd = s.cmd ∧
    (freeSlotsOf t p s).cfg = s.cfg ∧ (freeSlotsOf t p s).attn = s.attn ∧
    (freeSlotsOf t p s).freeDraws = s.freeDraws ∧ (freeSlotsOf t p s).pending = s.pending :=
  ⟨rfl, rfl, rfl, rfl, rfl, rfl, rfl, rfl, rfl, rfl, rfl, rfl, rfl, rfl, rfl⟩

@[simp] theorem finish_keeps (t : TagNo) (st : Status) (s : State) :
    (finish t st s).rstnLow = s.rstnLow ∧ (finish t st s).lastRead = s.lastRead ∧ (finish t st s).port = s.port ∧
    (finish t st s).svc = s.svc ∧ (finish t st s).array = s.array ∧ (finish t st s).map = s.map ∧
    (finish t st s).patrol = s.patrol ∧ (finish t st s).jrnl = s.jrnl ∧ (finish t st s).cond = s.cond ∧
    (finish t st s).cmd = s.cmd ∧ (finish t st s).cfg = s.cfg ∧ (finish t st s).attn = s.attn ∧
    (finish t st s).freeDraws = s.freeDraws ∧ (finish t st s).pending = s.pending ∧
    (finish t st s).req.queue = s.req.queue ∧ (finish t st s).req.arrival = s.req.arrival ∧
    (finish t st s).req.qlbn = s.req.qlbn ∧ (finish t st s).req.qcount = s.req.qcount ∧
    (finish t st s).req.qctrl = s.req.qctrl ∧ (finish t st s).req.qresult = s.req.qresult ∧
    (finish t st s).req.qresultTag = s.req.qresultTag ∧ (finish t st s).req.qabort = s.req.qabort ∧
    (finish t st s).req.abortIgnored = s.req.abortIgnored :=
  ⟨rfl, rfl, rfl, rfl, rfl, rfl, rfl, rfl, rfl, rfl, rfl, rfl, rfl, rfl, rfl, rfl, rfl, rfl, rfl, rfl, rfl, rfl,
    rfl⟩

@[simp] theorem becomeEnding_keeps (t : TagNo) (s : State) :
    (becomeEnding t s).rstnLow = s.rstnLow ∧ (becomeEnding t s).lastRead = s.lastRead ∧
    (becomeEnding t s).pool = s.pool ∧ (becomeEnding t s).port = s.port ∧ (becomeEnding t s).svc = s.svc ∧
    (becomeEnding t s).array = s.array ∧ (becomeEnding t s).map = s.map ∧ (becomeEnding t s).patrol = s.patrol ∧
    (becomeEnding t s).jrnl = s.jrnl ∧ (becomeEnding t s).cond = s.cond ∧ (becomeEnding t s).cmd = s.cmd ∧
    (becomeEnding t s).cfg = s.cfg ∧ (becomeEnding t s).attn = s.attn ∧ (becomeEnding t s).freeDraws = s.freeDraws ∧
    (becomeEnding t s).pending = s.pending ∧ (becomeEnding t s).req.queue = s.req.queue ∧
    (becomeEnding t s).req.arrival = s.req.arrival ∧ (becomeEnding t s).req.qlbn = s.req.qlbn ∧
    (becomeEnding t s).req.qcount = s.req.qcount ∧ (becomeEnding t s).req.qctrl = s.req.qctrl ∧
    (becomeEnding t s).req.qresult = s.req.qresult ∧ (becomeEnding t s).req.qresultTag = s.req.qresultTag ∧
    (becomeEnding t s).req.qabort = s.req.qabort ∧ (becomeEnding t s).req.abortIgnored = s.req.abortIgnored :=
  ⟨rfl, rfl, rfl, rfl, rfl, rfl, rfl, rfl, rfl, rfl, rfl, rfl, rfl, rfl, rfl, rfl, rfl, rfl, rfl, rfl, rfl, rfl,
    rfl, rfl⟩

@[simp] theorem setPending_keeps (l : List Nat) (s : State) :
    (setPending l s).rstnLow = s.rstnLow ∧ (setPending l s).lastRead = s.lastRead ∧ (setPending l s).req = s.req ∧
    (setPending l s).pool = s.pool ∧ (setPending l s).port = s.port ∧ (setPending l s).svc = s.svc ∧
    (setPending l s).array = s.array ∧ (setPending l s).patrol = s.patrol ∧ (setPending l s).jrnl = s.jrnl ∧
    (setPending l s).cmd = s.cmd ∧ (setPending l s).cfg = s.cfg ∧ (setPending l s).attn = s.attn ∧
    (setPending l s).freeDraws = s.freeDraws ∧ (setPending l s).pending = s.pending ∧
    (setPending l s).map.remap = s.map.remap ∧ (setPending l s).map.retired = s.map.retired ∧
    (setPending l s).map.overflow = s.map.overflow ∧ (setPending l s).map.refresh = s.map.refresh :=
  ⟨rfl, rfl, rfl, rfl, rfl, rfl, rfl, rfl, rfl, rfl, rfl, rfl, rfl, rfl, rfl, rfl, rfl, rfl⟩

@[simp] theorem removeRefresh_keeps (lbn : Nat) (s : State) :
    (removeRefresh lbn s).rstnLow = s.rstnLow ∧ (removeRefresh lbn s).lastRead = s.lastRead ∧
    (removeRefresh lbn s).req = s.req ∧ (removeRefresh lbn s).pool = s.pool ∧ (removeRefresh lbn s).port = s.port ∧
    (removeRefresh lbn s).svc = s.svc ∧ (removeRefresh lbn s).array = s.array ∧
    (removeRefresh lbn s).patrol = s.patrol ∧ (removeRefresh lbn s).jrnl = s.jrnl ∧
    (removeRefresh lbn s).cond = s.cond ∧ (removeRefresh lbn s).cmd = s.cmd ∧ (removeRefresh lbn s).cfg = s.cfg ∧
    (removeRefresh lbn s).attn = s.attn ∧ (removeRefresh lbn s).freeDraws = s.freeDraws ∧
    (removeRefresh lbn s).pending = s.pending ∧ (removeRefresh lbn s).map.remap = s.map.remap ∧
    (removeRefresh lbn s).map.retired = s.map.retired ∧ (removeRefresh lbn s).map.pendingLbns = s.map.pendingLbns ∧
    (removeRefresh lbn s).map.overflow = s.map.overflow :=
  ⟨rfl, rfl, rfl, rfl, rfl, rfl, rfl, rfl, rfl, rfl, rfl, rfl, rfl, rfl, rfl, rfl, rfl, rfl, rfl⟩

@[simp] theorem reportSpares_keeps (s : State) :
    (reportSpares s).rstnLow = s.rstnLow ∧ (reportSpares s).lastRead = s.lastRead ∧ (reportSpares s).req = s.req ∧
    (reportSpares s).pool = s.pool ∧ (reportSpares s).port = s.port ∧ (reportSpares s).svc = s.svc ∧
    (reportSpares s).array = s.array ∧ (reportSpares s).map = s.map ∧ (reportSpares s).patrol = s.patrol ∧
    (reportSpares s).jrnl = s.jrnl ∧ (reportSpares s).cmd = s.cmd ∧ (reportSpares s).cfg = s.cfg ∧
    (reportSpares s).attn = s.attn ∧ (reportSpares s).freeDraws = s.freeDraws ∧
    (reportSpares s).pending = s.pending :=
  ⟨rfl, rfl, rfl, rfl, rfl, rfl, rfl, rfl, rfl, rfl, rfl, rfl, rfl, rfl, rfl⟩

@[simp] theorem retire_keeps (pbn : Nat) (s : State) :
    (retire pbn s).rstnLow = s.rstnLow ∧ (retire pbn s).lastRead = s.lastRead ∧ (retire pbn s).req = s.req ∧
    (retire pbn s).pool = s.pool ∧ (retire pbn s).port = s.port ∧ (retire pbn s).svc = s.svc ∧
    (retire pbn s).array = s.array ∧ (retire pbn s).patrol = s.patrol ∧ (retire pbn s).jrnl = s.jrnl ∧
    (retire pbn s).cond = s.cond ∧ (retire pbn s).cmd = s.cmd ∧ (retire pbn s).cfg = s.cfg ∧
    (retire pbn s).attn = s.attn ∧ (retire pbn s).freeDraws = s.freeDraws ∧ (retire pbn s).pending = s.pending ∧
    (retire pbn s).map.remap = s.map.remap ∧ (retire pbn s).map.pendingLbns = s.map.pendingLbns ∧
    (retire pbn s).map.overflow = s.map.overflow ∧ (retire pbn s).map.refresh = s.map.refresh :=
  ⟨rfl, rfl, rfl, rfl, rfl, rfl, rfl, rfl, rfl, rfl, rfl, rfl, rfl, rfl, rfl, rfl, rfl, rfl, rfl⟩

@[simp] theorem discardBuffer_keeps (s : State) :
    (discardBuffer s).rstnLow = s.rstnLow ∧ (discardBuffer s).lastRead = s.lastRead ∧ (discardBuffer s).req = s.req ∧
    (discardBuffer s).pool = s.pool ∧ (discardBuffer s).port = s.port ∧ (discardBuffer s).svc = s.svc ∧
    (discardBuffer s).array = s.array ∧ (discardBuffer s).map = s.map ∧ (discardBuffer s).jrnl = s.jrnl ∧
    (discardBuffer s).cond = s.cond ∧ (discardBuffer s).cmd = s.cmd ∧ (discardBuffer s).cfg = s.cfg ∧
    (discardBuffer s).attn = s.attn ∧ (discardBuffer s).freeDraws = s.freeDraws ∧
    (discardBuffer s).pending = s.pending ∧ (discardBuffer s).patrol.state = s.patrol.state ∧
    (discardBuffer s).patrol.mode = s.patrol.mode ∧ (discardBuffer s).patrol.status = s.patrol.status ∧
    (discardBuffer s).patrol.resume = s.patrol.resume ∧ (discardBuffer s).patrol.quietTimer = s.patrol.quietTimer ∧
    (discardBuffer s).patrol.quietElapsed = s.patrol.quietElapsed ∧
    (discardBuffer s).patrol.gapTimer = s.patrol.gapTimer ∧ (discardBuffer s).patrol.bgRead = s.patrol.bgRead ∧
    (discardBuffer s).patrol.refreshBlock = s.patrol.refreshBlock :=
  ⟨rfl, rfl, rfl, rfl, rfl, rfl, rfl, rfl, rfl, rfl, rfl, rfl, rfl, rfl, rfl, rfl, rfl, rfl, rfl, rfl, rfl, rfl,
    rfl, rfl⟩

@[simp] theorem advanceResume_keeps (lbn : Nat) (s : State) :
    (advanceResume lbn s).rstnLow = s.rstnLow ∧ (advanceResume lbn s).lastRead = s.lastRead ∧
    (advanceResume lbn s).req = s.req ∧ (advanceResume lbn s).pool = s.pool ∧ (advanceResume lbn s).port = s.port ∧
    (advanceResume lbn s).svc = s.svc ∧ (advanceResume lbn s).array = s.array ∧ (advanceResume lbn s).map = s.map ∧
    (advanceResume lbn s).jrnl = s.jrnl ∧ (advanceResume lbn s).cond = s.cond ∧ (advanceResume lbn s).cmd = s.cmd ∧
    (advanceResume lbn s).cfg = s.cfg ∧ (advanceResume lbn s).attn = s.attn ∧
    (advanceResume lbn s).freeDraws = s.freeDraws ∧ (advanceResume lbn s).pending = s.pending ∧
    (advanceResume lbn s).patrol.state = s.patrol.state ∧ (advanceResume lbn s).patrol.mode = s.patrol.mode ∧
    (advanceResume lbn s).patrol.status = s.patrol.status ∧
    (advanceResume lbn s).patrol.quietTimer = s.patrol.quietTimer ∧
    (advanceResume lbn s).patrol.quietElapsed = s.patrol.quietElapsed ∧
    (advanceResume lbn s).patrol.gapTimer = s.patrol.gapTimer ∧
    (advanceResume lbn s).patrol.bgRead = s.patrol.bgRead ∧ (advanceResume lbn s).patrol.buf = s.patrol.buf ∧
    (advanceResume lbn s).patrol.refreshBlock = s.patrol.refreshBlock :=
  ⟨rfl, rfl, rfl, rfl, rfl, rfl, rfl, rfl, rfl, rfl, rfl, rfl, rfl, rfl, rfl, rfl, rfl, rfl, rfl, rfl, rfl, rfl,
    rfl, rfl⟩

@[simp] theorem completeCommand_keeps (code : BitVec 8) (r : CmdResult) (s : State) :
    (completeCommand code r s).rstnLow = s.rstnLow ∧ (completeCommand code r s).lastRead = s.lastRead ∧
    (completeCommand code r s).req = s.req ∧ (completeCommand code r s).pool = s.pool ∧
    (completeCommand code r s).port = s.port ∧ (completeCommand code r s).svc = s.svc ∧
    (completeCommand code r s).array = s.array ∧ (completeCommand code r s).map = s.map ∧
    (completeCommand code r s).patrol = s.patrol ∧ (completeCommand code r s).jrnl = s.jrnl ∧
    (completeCommand code r s).cond = s.cond ∧ (completeCommand code r s).cfg = s.cfg ∧
    (completeCommand code r s).freeDraws = s.freeDraws ∧ (completeCommand code r s).pending = s.pending ∧
    (completeCommand code r s).cmd.buffer = s.cmd.buffer ∧ (completeCommand code r s).cmd.rptr = s.cmd.rptr ∧
    (completeCommand code r s).attn.enable = s.attn.enable :=
  ⟨rfl, rfl, rfl, rfl, rfl, rfl, rfl, rfl, rfl, rfl, rfl, rfl, rfl, rfl, rfl, rfl, rfl⟩

@[simp] theorem commitReason_keeps (s : State) :
    (commitReason s).rstnLow = s.rstnLow ∧ (commitReason s).lastRead = s.lastRead ∧ (commitReason s).req = s.req ∧
    (commitReason s).pool = s.pool ∧ (commitReason s).port = s.port ∧ (commitReason s).svc = s.svc ∧
    (commitReason s).array = s.array ∧ (commitReason s).map = s.map ∧ (commitReason s).patrol = s.patrol ∧
    (commitReason s).cond = s.cond ∧ (commitReason s).cmd = s.cmd ∧ (commitReason s).cfg = s.cfg ∧
    (commitReason s).attn = s.attn ∧ (commitReason s).freeDraws = s.freeDraws ∧
    (commitReason s).pending = s.pending ∧ (commitReason s).jrnl.mode = s.jrnl.mode ∧
    (commitReason s).jrnl.lastStarted = s.jrnl.lastStarted ∧ (commitReason s).jrnl.lastDone = s.jrnl.lastDone ∧
    (commitReason s).jrnl.nextPos = s.jrnl.nextPos ∧ (commitReason s).jrnl.commit = s.jrnl.commit ∧
    (commitReason s).jrnl.imageBuffer = s.jrnl.imageBuffer ∧ (commitReason s).jrnl.candidate = s.jrnl.candidate ∧
    (commitReason s).jrnl.scanNext = s.jrnl.scanNext :=
  ⟨rfl, rfl, rfl, rfl, rfl, rfl, rfl, rfl, rfl, rfl, rfl, rfl, rfl, rfl, rfl, rfl, rfl, rfl, rfl, rfl, rfl, rfl,
    rfl⟩

@[simp] theorem commitReasonFor_keeps (t : TagNo) (s : State) :
    (commitReasonFor t s).rstnLow = s.rstnLow ∧ (commitReasonFor t s).lastRead = s.lastRead ∧
    (commitReasonFor t s).pool = s.pool ∧ (commitReasonFor t s).port = s.port ∧ (commitReasonFor t s).svc = s.svc ∧
    (commitReasonFor t s).array = s.array ∧ (commitReasonFor t s).map = s.map ∧
    (commitReasonFor t s).patrol = s.patrol ∧ (commitReasonFor t s).cond = s.cond ∧
    (commitReasonFor t s).cmd = s.cmd ∧ (commitReasonFor t s).cfg = s.cfg ∧ (commitReasonFor t s).attn = s.attn ∧
    (commitReasonFor t s).freeDraws = s.freeDraws ∧ (commitReasonFor t s).pending = s.pending ∧
    (commitReasonFor t s).req.queue = s.req.queue ∧ (commitReasonFor t s).req.arrival = s.req.arrival ∧
    (commitReasonFor t s).req.qlbn = s.req.qlbn ∧ (commitReasonFor t s).req.qcount = s.req.qcount ∧
    (commitReasonFor t s).req.qctrl = s.req.qctrl ∧ (commitReasonFor t s).req.qresult = s.req.qresult ∧
    (commitReasonFor t s).req.qresultTag = s.req.qresultTag ∧ (commitReasonFor t s).req.qabort = s.req.qabort ∧
    (commitReasonFor t s).req.abortIgnored = s.req.abortIgnored ∧ (commitReasonFor t s).jrnl.mode = s.jrnl.mode ∧
    (commitReasonFor t s).jrnl.lastStarted = s.jrnl.lastStarted ∧
    (commitReasonFor t s).jrnl.lastDone = s.jrnl.lastDone ∧ (commitReasonFor t s).jrnl.nextPos = s.jrnl.nextPos ∧
    (commitReasonFor t s).jrnl.commit = s.jrnl.commit ∧ (commitReasonFor t s).jrnl.imageBuffer = s.jrnl.imageBuffer ∧
    (commitReasonFor t s).jrnl.candidate = s.jrnl.candidate ∧
    (commitReasonFor t s).jrnl.scanNext = s.jrnl.scanNext :=
  ⟨rfl, rfl, rfl, rfl, rfl, rfl, rfl, rfl, rfl, rfl, rfl, rfl, rfl, rfl, rfl, rfl, rfl, rfl, rfl, rfl, rfl, rfl,
    rfl, rfl, rfl, rfl, rfl, rfl, rfl, rfl, rfl⟩

@[simp] theorem begin_keeps (o : ArrayOp) (s : State) :
    (begin o s).rstnLow = s.rstnLow ∧ (begin o s).lastRead = s.lastRead ∧ (begin o s).req = s.req ∧
    (begin o s).pool = s.pool ∧ (begin o s).port = s.port ∧ (begin o s).svc = s.svc ∧ (begin o s).map = s.map ∧
    (begin o s).patrol = s.patrol ∧ (begin o s).jrnl = s.jrnl ∧ (begin o s).cond = s.cond ∧ (begin o s).cmd = s.cmd ∧
    (begin o s).cfg = s.cfg ∧ (begin o s).attn = s.attn ∧ (begin o s).freeDraws = s.freeDraws ∧
    (begin o s).pending = s.pending ∧ (begin o s).array.blocks = s.array.blocks ∧
    (begin o s).array.ring = s.array.ring :=
  ⟨rfl, rfl, rfl, rfl, rfl, rfl, rfl, rfl, rfl, rfl, rfl, rfl, rfl, rfl, rfl, rfl, rfl⟩

@[simp] theorem drive_keeps (w : Word) (s : State) :
    (drive w s).rstnLow = s.rstnLow ∧ (drive w s).req = s.req ∧ (drive w s).pool = s.pool ∧
    (drive w s).port = s.port ∧ (drive w s).svc = s.svc ∧ (drive w s).array = s.array ∧ (drive w s).map = s.map ∧
    (drive w s).patrol = s.patrol ∧ (drive w s).jrnl = s.jrnl ∧ (drive w s).cond = s.cond ∧ (drive w s).cmd = s.cmd ∧
    (drive w s).cfg = s.cfg ∧ (drive w s).attn = s.attn ∧ (drive w s).freeDraws = s.freeDraws ∧
    (drive w s).pending = s.pending :=
  ⟨rfl, rfl, rfl, rfl, rfl, rfl, rfl, rfl, rfl, rfl, rfl, rfl, rfl, rfl, rfl⟩

@[simp] theorem portMiss_keeps (s : State) :
    (portMiss s).rstnLow = s.rstnLow ∧ (portMiss s).lastRead = s.lastRead ∧ (portMiss s).req = s.req ∧
    (portMiss s).pool = s.pool ∧ (portMiss s).svc = s.svc ∧ (portMiss s).array = s.array ∧ (portMiss s).map = s.map ∧
    (portMiss s).patrol = s.patrol ∧ (portMiss s).jrnl = s.jrnl ∧ (portMiss s).cond = s.cond ∧
    (portMiss s).cmd = s.cmd ∧ (portMiss s).cfg = s.cfg ∧ (portMiss s).freeDraws = s.freeDraws ∧
    (portMiss s).pending = s.pending ∧ (portMiss s).port.attached = s.port.attached ∧
    (portMiss s).attn.enable = s.attn.enable :=
  ⟨rfl, rfl, rfl, rfl, rfl, rfl, rfl, rfl, rfl, rfl, rfl, rfl, rfl, rfl, rfl, rfl⟩

@[simp] theorem idleUnit_keeps (s : State) :
    (idleUnit s).rstnLow = s.rstnLow ∧ (idleUnit s).lastRead = s.lastRead ∧ (idleUnit s).req = s.req ∧
    (idleUnit s).pool = s.pool ∧ (idleUnit s).port = s.port ∧ (idleUnit s).svc = s.svc ∧ (idleUnit s).map = s.map ∧
    (idleUnit s).patrol = s.patrol ∧ (idleUnit s).jrnl = s.jrnl ∧ (idleUnit s).cond = s.cond ∧
    (idleUnit s).cmd = s.cmd ∧ (idleUnit s).cfg = s.cfg ∧ (idleUnit s).attn = s.attn ∧
    (idleUnit s).freeDraws = s.freeDraws ∧ (idleUnit s).pending = s.pending ∧
    (idleUnit s).array.blocks = s.array.blocks ∧ (idleUnit s).array.ring = s.array.ring :=
  ⟨rfl, rfl, rfl, rfl, rfl, rfl, rfl, rfl, rfl, rfl, rfl, rfl, rfl, rfl, rfl, rfl, rfl⟩

@[simp] theorem patrolIdle_keeps (s : State) :
    (patrolIdle s).rstnLow = s.rstnLow ∧ (patrolIdle s).lastRead = s.lastRead ∧ (patrolIdle s).req = s.req ∧
    (patrolIdle s).pool = s.pool ∧ (patrolIdle s).port = s.port ∧ (patrolIdle s).svc = s.svc ∧
    (patrolIdle s).array = s.array ∧ (patrolIdle s).map = s.map ∧ (patrolIdle s).jrnl = s.jrnl ∧
    (patrolIdle s).cond = s.cond ∧ (patrolIdle s).cmd = s.cmd ∧ (patrolIdle s).cfg = s.cfg ∧
    (patrolIdle s).attn = s.attn ∧ (patrolIdle s).freeDraws = s.freeDraws ∧ (patrolIdle s).pending = s.pending ∧
    (patrolIdle s).patrol.status = s.patrol.status ∧ (patrolIdle s).patrol.resume = s.patrol.resume ∧
    (patrolIdle s).patrol.quietTimer = s.patrol.quietTimer ∧
    (patrolIdle s).patrol.quietElapsed = s.patrol.quietElapsed ∧ (patrolIdle s).patrol.gapTimer = s.patrol.gapTimer ∧
    (patrolIdle s).patrol.bgRead = s.patrol.bgRead ∧ (patrolIdle s).patrol.buf = s.patrol.buf ∧
    (patrolIdle s).patrol.refreshBlock = s.patrol.refreshBlock :=
  ⟨rfl, rfl, rfl, rfl, rfl, rfl, rfl, rfl, rfl, rfl, rfl, rfl, rfl, rfl, rfl, rfl, rfl, rfl, rfl, rfl, rfl, rfl,
    rfl⟩

end Sys2Proof.Machine
end

