-- ==== Sys2Proof/Laws/Frames.lean ====
section
/-! SUPPORT. What each shared operation leaves unchanged: one theorem for each operation, one equation for each field that
it never touches, for simp. The lemmas on folds carry such an equation through a list. -/
namespace Sys2Proof.Machine
set_option Elab.async false

theorem foldl_keep {α β : Type} (f : State → β) (g : State → α → State) (h : ∀ s a, f (g s a) = f s)
    (l : List α) (s : State) : f (l.foldl g s) = f s := by
  induction l generalizing s with
  | nil => rfl
  | cons a l ih => rw [List.foldl_cons, ih, h]

@[simp] theorem foldl_rstnLow {α : Type} (g : State → α → State) (h : ∀ s a, (g s a).rstnLow = s.rstnLow)
    (l : List α) (s : State) : (l.foldl g s).rstnLow = s.rstnLow := foldl_keep (fun s => s.rstnLow) g h l s

@[simp] theorem foldl_lastRead {α : Type} (g : State → α → State) (h : ∀ s a, (g s a).lastRead = s.lastRead)
    (l : List α) (s : State) : (l.foldl g s).lastRead = s.lastRead := foldl_keep (fun s => s.lastRead) g h l s

@[simp] theorem foldl_req {α : Type} (g : State → α → State) (h : ∀ s a, (g s a).req = s.req)
    (l : List α) (s : State) : (l.foldl g s).req = s.req := foldl_keep (fun s => s.req) g h l s

@[simp] theorem foldl_pool {α : Type} (g : State → α → State) (h : ∀ s a, (g s a).pool = s.pool)
    (l : List α) (s : State) : (l.foldl g s).pool = s.pool := foldl_keep (fun s => s.pool) g h l s

@[simp] theorem foldl_port {α : Type} (g : State → α → State) (h : ∀ s a, (g s a).port = s.port)
    (l : List α) (s : State) : (l.foldl g s).port = s.port := foldl_keep (fun s => s.port) g h l s

@[simp] theorem foldl_svc {α : Type} (g : State → α → State) (h : ∀ s a, (g s a).svc = s.svc)
    (l : List α) (s : State) : (l.foldl g s).svc = s.svc := foldl_keep (fun s => s.svc) g h l s

@[simp] theorem foldl_array {α : Type} (g : State → α → State) (h : ∀ s a, (g s a).array = s.array)
    (l : List α) (s : State) : (l.foldl g s).array = s.array := foldl_keep (fun s => s.array) g h l s

@[simp] theorem foldl_map {α : Type} (g : State → α → State) (h : ∀ s a, (g s a).map = s.map)
    (l : List α) (s : State) : (l.foldl g s).map = s.map := foldl_keep (fun s => s.map) g h l s

@[simp] theorem foldl_patrol {α : Type} (g : State → α → State) (h : ∀ s a, (g s a).patrol = s.patrol)
    (l : List α) (s : State) : (l.foldl g s).patrol = s.patrol := foldl_keep (fun s => s.patrol) g h l s

@[simp] theorem foldl_jrnl {α : Type} (g : State → α → State) (h : ∀ s a, (g s a).jrnl = s.jrnl)
    (l : List α) (s : State) : (l.foldl g s).jrnl = s.jrnl := foldl_keep (fun s => s.jrnl) g h l s

@[simp] theorem foldl_cond {α : Type} (g : State → α → State) (h : ∀ s a, (g s a).cond = s.cond)
    (l : List α) (s : State) : (l.foldl g s).cond = s.cond := foldl_keep (fun s => s.cond) g h l s

@[simp] theorem foldl_cmd {α : Type} (g : State → α → State) (h : ∀ s a, (g s a).cmd = s.cmd)
    (l : List α) (s : State) : (l.foldl g s).cmd = s.cmd := foldl_keep (fun s => s.cmd) g h l s

@[simp] theorem foldl_cfg {α : Type} (g : State → α → State) (h : ∀ s a, (g s a).cfg = s.cfg)
    (l : List α) (s : State) : (l.foldl g s).cfg = s.cfg := foldl_keep (fun s => s.cfg) g h l s

@[simp] theorem foldl_attn {α : Type} (g : State → α → State) (h : ∀ s a, (g s a).attn = s.attn)
    (l : List α) (s : State) : (l.foldl g s).attn = s.attn := foldl_keep (fun s => s.attn) g h l s

@[simp] theorem foldl_freeDraws {α : Type} (g : State → α → State) (h : ∀ s a, (g s a).freeDraws = s.freeDraws)
    (l : List α) (s : State) : (l.foldl g s).freeDraws = s.freeDraws := foldl_keep (fun s => s.freeDraws) g h l s

@[simp] theorem foldl_pending {α : Type} (g : State → α → State) (h : ∀ s a, (g s a).pending = s.pending)
    (l : List α) (s : State) : (l.foldl g s).pending = s.pending := foldl_keep (fun s => s.pending) g h l s

@[simp] theorem foldl_req_queue {α : Type} (g : State → α → State) (h : ∀ s a, (g s a).req.queue = s.req.queue)
    (l : List α) (s : State) : (l.foldl g s).req.queue = s.req.queue := foldl_keep (fun s => s.req.queue) g h l s

@[simp] theorem foldl_req_arrival {α : Type} (g : State → α → State) (h : ∀ s a, (g s a).req.arrival = s.req.arrival)
    (l : List α) (s : State) : (l.foldl g s).req.arrival = s.req.arrival := foldl_keep (fun s => s.req.arrival) g h l s

@[simp] theorem foldl_req_qlbn {α : Type} (g : State → α → State) (h : ∀ s a, (g s a).req.qlbn = s.req.qlbn)
    (l : List α) (s : State) : (l.foldl g s).req.qlbn = s.req.qlbn := foldl_keep (fun s => s.req.qlbn) g h l s

@[simp] theorem foldl_req_qcount {α : Type} (g : State → α → State) (h : ∀ s a, (g s a).req.qcount = s.req.qcount)
    (l : List α) (s : State) : (l.foldl g s).req.qcount = s.req.qcount := foldl_keep (fun s => s.req.qcount) g h l s

@[simp] theorem foldl_req_qctrl {α : Type} (g : State → α → State) (h : ∀ s a, (g s a).req.qctrl = s.req.qctrl)
    (l : List α) (s : State) : (l.foldl g s).req.qctrl = s.req.qctrl := foldl_keep (fun s => s.req.qctrl) g h l s

@[simp] theorem foldl_req_qresult {α : Type} (g : State → α → State) (h : ∀ s a, (g s a).req.qresult = s.req.qresult)
    (l : List α) (s : State) : (l.foldl g s).req.qresult = s.req.qresult := foldl_keep (fun s => s.req.qresult) g h l s

@[simp] theorem foldl_req_qresultTag {α : Type} (g : State → α → State) (h : ∀ s a, (g s a).req.qresultTag = s.req.qresultTag)
    (l : List α) (s : State) : (l.foldl g s).req.qresultTag = s.req.qresultTag := foldl_keep (fun s => s.req.qresultTag) g h l s

@[simp] theorem foldl_req_qabort {α : Type} (g : State → α → State) (h : ∀ s a, (g s a).req.qabort = s.req.qabort)
    (l : List α) (s : State) : (l.foldl g s).req.qabort = s.req.qabort := foldl_keep (fun s => s.req.qabort) g h l s

@[simp] theorem foldl_req_abortIgnored {α : Type} (g : State → α → State) (h : ∀ s a, (g s a).req.abortIgnored = s.req.abortIgnored)
    (l : List α) (s : State) : (l.foldl g s).req.abortIgnored = s.req.abortIgnored := foldl_keep (fun s => s.req.abortIgnored) g h l s

@[simp] theorem foldl_svc_readout {α : Type} (g : State → α → State) (h : ∀ s a, (g s a).svc.readout = s.svc.readout)
    (l : List α) (s : State) : (l.foldl g s).svc.readout = s.svc.readout := foldl_keep (fun s => s.svc.readout) g h l s

@[simp] theorem foldl_map_remap {α : Type} (g : State → α → State) (h : ∀ s a, (g s a).map.remap = s.map.remap)
    (l : List α) (s : State) : (l.foldl g s).map.remap = s.map.remap := foldl_keep (fun s => s.map.remap) g h l s

@[simp] theorem foldl_map_retired {α : Type} (g : State → α → State) (h : ∀ s a, (g s a).map.retired = s.map.retired)
    (l : List α) (s : State) : (l.foldl g s).map.retired = s.map.retired := foldl_keep (fun s => s.map.retired) g h l s

@[simp] theorem foldl_patrol_state {α : Type} (g : State → α → State) (h : ∀ s a, (g s a).patrol.state = s.patrol.state)
    (l : List α) (s : State) : (l.foldl g s).patrol.state = s.patrol.state := foldl_keep (fun s => s.patrol.state) g h l s

@[simp] theorem foldl_patrol_mode {α : Type} (g : State → α → State) (h : ∀ s a, (g s a).patrol.mode = s.patrol.mode)
    (l : List α) (s : State) : (l.foldl g s).patrol.mode = s.patrol.mode := foldl_keep (fun s => s.patrol.mode) g h l s

@[simp] theorem foldl_patrol_status {α : Type} (g : State → α → State) (h : ∀ s a, (g s a).patrol.status = s.patrol.status)
    (l : List α) (s : State) : (l.foldl g s).patrol.status = s.patrol.status := foldl_keep (fun s => s.patrol.status) g h l s

@[simp] theorem foldl_patrol_resume {α : Type} (g : State → α → State) (h : ∀ s a, (g s a).patrol.resume = s.patrol.resume)
    (l : List α) (s : State) : (l.foldl g s).patrol.resume = s.patrol.resume := foldl_keep (fun s => s.patrol.resume) g h l s

@[simp] theorem foldl_patrol_quietTimer {α : Type} (g : State → α → State) (h : ∀ s a, (g s a).patrol.quietTimer = s.patrol.quietTimer)
    (l : List α) (s : State) : (l.foldl g s).patrol.quietTimer = s.patrol.quietTimer := foldl_keep (fun s => s.patrol.quietTimer) g h l s

@[simp] theorem foldl_patrol_quietElapsed {α : Type} (g : State → α → State) (h : ∀ s a, (g s a).patrol.quietElapsed = s.patrol.quietElapsed)
    (l : List α) (s : State) : (l.foldl g s).patrol.quietElapsed = s.patrol.quietElapsed := foldl_keep (fun s => s.patrol.quietElapsed) g h l s

@[simp] theorem foldl_patrol_gapTimer {α : Type} (g : State → α → State) (h : ∀ s a, (g s a).patrol.gapTimer = s.patrol.gapTimer)
    (l : List α) (s : State) : (l.foldl g s).patrol.gapTimer = s.patrol.gapTimer := foldl_keep (fun s => s.patrol.gapTimer) g h l s

@[simp] theorem foldl_patrol_bgRead {α : Type} (g : State → α → State) (h : ∀ s a, (g s a).patrol.bgRead = s.patrol.bgRead)
    (l : List α) (s : State) : (l.foldl g s).patrol.bgRead = s.patrol.bgRead := foldl_keep (fun s => s.patrol.bgRead) g h l s

@[simp] theorem foldl_patrol_buf {α : Type} (g : State → α → State) (h : ∀ s a, (g s a).patrol.buf = s.patrol.buf)
    (l : List α) (s : State) : (l.foldl g s).patrol.buf = s.patrol.buf := foldl_keep (fun s => s.patrol.buf) g h l s

@[simp] theorem foldl_patrol_refreshBlock {α : Type} (g : State → α → State) (h : ∀ s a, (g s a).patrol.refreshBlock = s.patrol.refreshBlock)
    (l : List α) (s : State) : (l.foldl g s).patrol.refreshBlock = s.patrol.refreshBlock := foldl_keep (fun s => s.patrol.refreshBlock) g h l s

@[simp] theorem foldl_jrnl_lastStarted {α : Type} (g : State → α → State) (h : ∀ s a, (g s a).jrnl.lastStarted = s.jrnl.lastStarted)
    (l : List α) (s : State) : (l.foldl g s).jrnl.lastStarted = s.jrnl.lastStarted := foldl_keep (fun s => s.jrnl.lastStarted) g h l s

@[simp] theorem foldl_jrnl_lastDone {α : Type} (g : State → α → State) (h : ∀ s a, (g s a).jrnl.lastDone = s.jrnl.lastDone)
    (l : List α) (s : State) : (l.foldl g s).jrnl.lastDone = s.jrnl.lastDone := foldl_keep (fun s => s.jrnl.lastDone) g h l s

@[simp] theorem foldl_jrnl_nextPos {α : Type} (g : State → α → State) (h : ∀ s a, (g s a).jrnl.nextPos = s.jrnl.nextPos)
    (l : List α) (s : State) : (l.foldl g s).jrnl.nextPos = s.jrnl.nextPos := foldl_keep (fun s => s.jrnl.nextPos) g h l s

@[simp] theorem foldl_jrnl_commitNeeded {α : Type} (g : State → α → State) (h : ∀ s a, (g s a).jrnl.commitNeeded = s.jrnl.commitNeeded)
    (l : List α) (s : State) : (l.foldl g s).jrnl.commitNeeded = s.jrnl.commitNeeded := foldl_keep (fun s => s.jrnl.commitNeeded) g h l s

@[simp] theorem foldl_jrnl_commit {α : Type} (g : State → α → State) (h : ∀ s a, (g s a).jrnl.commit = s.jrnl.commit)
    (l : List α) (s : State) : (l.foldl g s).jrnl.commit = s.jrnl.commit := foldl_keep (fun s => s.jrnl.commit) g h l s

@[simp] theorem foldl_jrnl_imageBuffer {α : Type} (g : State → α → State) (h : ∀ s a, (g s a).jrnl.imageBuffer = s.jrnl.imageBuffer)
    (l : List α) (s : State) : (l.foldl g s).jrnl.imageBuffer = s.jrnl.imageBuffer := foldl_keep (fun s => s.jrnl.imageBuffer) g h l s

@[simp] theorem foldl_jrnl_candidate {α : Type} (g : State → α → State) (h : ∀ s a, (g s a).jrnl.candidate = s.jrnl.candidate)
    (l : List α) (s : State) : (l.foldl g s).jrnl.candidate = s.jrnl.candidate := foldl_keep (fun s => s.jrnl.candidate) g h l s

@[simp] theorem foldl_jrnl_scanNext {α : Type} (g : State → α → State) (h : ∀ s a, (g s a).jrnl.scanNext = s.jrnl.scanNext)
    (l : List α) (s : State) : (l.foldl g s).jrnl.scanNext = s.jrnl.scanNext := foldl_keep (fun s => s.jrnl.scanNext) g h l s

@[simp] theorem foldl_cmd_buffer {α : Type} (g : State → α → State) (h : ∀ s a, (g s a).cmd.buffer = s.cmd.buffer)
    (l : List α) (s : State) : (l.foldl g s).cmd.buffer = s.cmd.buffer := foldl_keep (fun s => s.cmd.buffer) g h l s

@[simp] theorem foldl_cmd_rptr {α : Type} (g : State → α → State) (h : ∀ s a, (g s a).cmd.rptr = s.cmd.rptr)
    (l : List α) (s : State) : (l.foldl g s).cmd.rptr = s.cmd.rptr := foldl_keep (fun s => s.cmd.rptr) g h l s

@[simp] theorem foldl_attn_enable {α : Type} (g : State → α → State) (h : ∀ s a, (g s a).attn.enable = s.attn.enable)
    (l : List α) (s : State) : (l.foldl g s).attn.enable = s.attn.enable := foldl_keep (fun s => s.attn.enable) g h l s

@[simp] theorem cancelPatrol_keeps (lbn : Nat) (s : State) :
    (cancelPatrol lbn s).rstnLow = s.rstnLow ∧ (cancelPatrol lbn s).lastRead = s.lastRead ∧
    (cancelPatrol lbn s).req = s.req ∧ (cancelPatrol lbn s).pool = s.pool ∧ (cancelPatrol lbn s).port = s.port ∧
    (cancelPatrol lbn s).svc = s.svc ∧ (cancelPatrol lbn s).array = s.array ∧ (cancelPatrol lbn s).map = s.map ∧
    (cancelPatrol lbn s).jrnl = s.jrnl ∧ (cancelPatrol lbn s).cond = s.cond ∧ (cancelPatrol lbn s).cmd = s.cmd ∧
    (cancelPatrol lbn s).cfg = s.cfg ∧ (cancelPatrol lbn s).attn = s.attn ∧
    (cancelPatrol lbn s).freeDraws = s.freeDraws ∧ (cancelPatrol lbn s).pending = s.pending ∧
    (cancelPatrol lbn s).patrol.state = s.patrol.state ∧ (cancelPatrol lbn s).patrol.mode = s.patrol.mode ∧
    (cancelPatrol lbn s).patrol.status = s.patrol.status ∧ (cancelPatrol lbn s).patrol.resume = s.patrol.resume ∧
    (cancelPatrol lbn s).patrol.quietTimer = s.patrol.quietTimer ∧
    (cancelPatrol lbn s).patrol.quietElapsed = s.patrol.quietElapsed ∧
    (cancelPatrol lbn s).patrol.gapTimer = s.patrol.gapTimer := by
  unfold cancelPatrol
  (try dsimp only)
  (repeat' split) <;> simp

@[simp] theorem freeSource_keeps (p : ProgramSource) (s : State) :
    (freeSource p s).rstnLow = s.rstnLow ∧ (freeSource p s).lastRead = s.lastRead ∧ (freeSource p s).req = s.req ∧
    (freeSource p s).port = s.port ∧ (freeSource p s).svc = s.svc ∧ (freeSource p s).array = s.array ∧
    (freeSource p s).map = s.map ∧ (freeSource p s).patrol = s.patrol ∧ (freeSource p s).jrnl = s.jrnl ∧
    (freeSource p s).cond = s.cond ∧ (freeSource p s).cmd = s.cmd ∧ (freeSource p s).cfg = s.cfg ∧
    (freeSource p s).attn = s.attn ∧ (freeSource p s).freeDraws = s.freeDraws ∧
    (freeSource p s).pending = s.pending := by
  unfold freeSource
  (repeat' split) <;> simp

@[simp] theorem freeDataSlot_keeps (d : DataPlace) (s : State) :
    (freeDataSlot d s).rstnLow = s.rstnLow ∧ (freeDataSlot d s).lastRead = s.lastRead ∧
    (freeDataSlot d s).req = s.req ∧ (freeDataSlot d s).port = s.port ∧ (freeDataSlot d s).svc = s.svc ∧
    (freeDataSlot d s).array = s.array ∧ (freeDataSlot d s).map = s.map ∧ (freeDataSlot d s).patrol = s.patrol ∧
    (freeDataSlot d s).jrnl = s.jrnl ∧ (freeDataSlot d s).cond = s.cond ∧ (freeDataSlot d s).cmd = s.cmd ∧
    (freeDataSlot d s).cfg = s.cfg ∧ (freeDataSlot d s).attn = s.attn ∧ (freeDataSlot d s).freeDraws = s.freeDraws ∧
    (freeDataSlot d s).pending = s.pending := by
  unfold freeDataSlot
  (repeat' split) <;> simp

@[simp] theorem serviceAppend_keeps (t : TagNo) (s : State) :
    (serviceAppend t s).rstnLow = s.rstnLow ∧ (serviceAppend t s).lastRead = s.lastRead ∧
    (serviceAppend t s).req = s.req ∧ (serviceAppend t s).pool = s.pool ∧ (serviceAppend t s).port = s.port ∧
    (serviceAppend t s).array = s.array ∧ (serviceAppend t s).map = s.map ∧ (serviceAppend t s).patrol = s.patrol ∧
    (serviceAppend t s).jrnl = s.jrnl ∧ (serviceAppend t s).cond = s.cond ∧ (serviceAppend t s).cmd = s.cmd ∧
    (serviceAppend t s).cfg = s.cfg ∧ (serviceAppend t s).attn = s.attn ∧
    (serviceAppend t s).freeDraws = s.freeDraws ∧ (serviceAppend t s).pending = s.pending ∧
    (serviceAppend t s).svc.readout = s.svc.readout := by
  unfold serviceAppend
  (try dsimp only)
  (repeat' split) <;> simp

@[simp] theorem removePending_keeps (lbn : Nat) (s : State) :
    (removePending lbn s).rstnLow = s.rstnLow ∧ (removePending lbn s).lastRead = s.lastRead ∧
    (removePending lbn s).req = s.req ∧ (removePending lbn s).pool = s.pool ∧ (removePending lbn s).port = s.port ∧
    (removePending lbn s).svc = s.svc ∧ (removePending lbn s).array = s.array ∧
    (removePending lbn s).patrol = s.patrol ∧ (removePending lbn s).jrnl = s.jrnl ∧
    (removePending lbn s).cmd = s.cmd ∧ (removePending lbn s).cfg = s.cfg ∧ (removePending lbn s).attn = s.attn ∧
    (removePending lbn s).freeDraws = s.freeDraws ∧ (removePending lbn s).pending = s.pending ∧
    (removePending lbn s).map.remap = s.map.remap ∧ (removePending lbn s).map.retired = s.map.retired ∧
    (removePending lbn s).map.overflow = s.map.overflow ∧ (removePending lbn s).map.refresh = s.map.refresh := by
  unfold removePending
  (repeat' split) <;> simp

@[simp] theorem offerPending_keeps (lbn : Nat) (s : State) :
    (offerPending lbn s).rstnLow = s.rstnLow ∧ (offerPending lbn s).lastRead = s.lastRead ∧
    (offerPending lbn s).req = s.req ∧ (offerPending lbn s).pool = s.pool ∧ (offerPending lbn s).port = s.port ∧
    (offerPending lbn s).svc = s.svc ∧ (offerPending lbn s).array = s.array ∧
    (offerPending lbn s).patrol = s.patrol ∧ (offerPending lbn s).jrnl = s.jrnl ∧ (offerPending lbn s).cmd = s.cmd ∧
    (offerPending lbn s).cfg = s.cfg ∧ (offerPending lbn s).attn = s.attn ∧
    (offerPending lbn s).freeDraws = s.freeDraws ∧ (offerPending lbn s).pending = s.pending ∧
    (offerPending lbn s).map.remap = s.map.remap ∧ (offerPending lbn s).map.retired = s.map.retired := by
  unfold offerPending
  (try dsimp only)
  (repeat' split) <;> simp

@[simp] theorem offerRefresh_keeps (lbn : Nat) (s : State) :
    (offerRefresh lbn s).rstnLow = s.rstnLow ∧ (offerRefresh lbn s).lastRead = s.lastRead ∧
    (offerRefresh lbn s).req = s.req ∧ (offerRefresh lbn s).pool = s.pool ∧ (offerRefresh lbn s).port = s.port ∧
    (offerRefresh lbn s).svc = s.svc ∧ (offerRefresh lbn s).array = s.array ∧
    (offerRefresh lbn s).patrol = s.patrol ∧ (offerRefresh lbn s).jrnl = s.jrnl ∧
    (offerRefresh lbn s).cond = s.cond ∧ (offerRefresh lbn s).cmd = s.cmd ∧ (offerRefresh lbn s).cfg = s.cfg ∧
    (offerRefresh lbn s).attn = s.attn ∧ (offerRefresh lbn s).freeDraws = s.freeDraws ∧
    (offerRefresh lbn s).pending = s.pending ∧ (offerRefresh lbn s).map.remap = s.map.remap ∧
    (offerRefresh lbn s).map.retired = s.map.retired ∧ (offerRefresh lbn s).map.pendingLbns = s.map.pendingLbns ∧
    (offerRefresh lbn s).map.overflow = s.map.overflow := by
  unfold offerRefresh
  (try dsimp only)
  (repeat' split) <;> simp

@[simp] theorem remapTo_keeps (lbn pbn : Nat) (s : State) :
    (remapTo lbn pbn s).rstnLow = s.rstnLow ∧ (remapTo lbn pbn s).lastRead = s.lastRead ∧
    (remapTo lbn pbn s).req = s.req ∧ (remapTo lbn pbn s).pool = s.pool ∧ (remapTo lbn pbn s).port = s.port ∧
    (remapTo lbn pbn s).svc = s.svc ∧ (remapTo lbn pbn s).array = s.array ∧ (remapTo lbn pbn s).patrol = s.patrol ∧
    (remapTo lbn pbn s).jrnl = s.jrnl ∧ (remapTo lbn pbn s).cond = s.cond ∧ (remapTo lbn pbn s).cmd = s.cmd ∧
    (remapTo lbn pbn s).cfg = s.cfg ∧ (remapTo lbn pbn s).attn = s.attn ∧
    (remapTo lbn pbn s).freeDraws = s.freeDraws ∧ (remapTo lbn pbn s).pending = s.pending ∧
    (remapTo lbn pbn s).map.pendingLbns = s.map.pendingLbns ∧ (remapTo lbn pbn s).map.overflow = s.map.overflow ∧
    (remapTo lbn pbn s).map.refresh = s.map.refresh := by
  unfold remapTo
  (try dsimp only)
  (repeat' split) <;> simp

@[simp] theorem clearLists_keeps (lbn : Nat) (s : State) :
    (clearLists lbn s).rstnLow = s.rstnLow ∧ (clearLists lbn s).lastRead = s.lastRead ∧
    (clearLists lbn s).req = s.req ∧ (clearLists lbn s).pool = s.pool ∧ (clearLists lbn s).port = s.port ∧
    (clearLists lbn s).svc = s.svc ∧ (clearLists lbn s).array = s.array ∧ (clearLists lbn s).patrol = s.patrol ∧
    (clearLists lbn s).jrnl = s.jrnl ∧ (clearLists lbn s).cmd = s.cmd ∧ (clearLists lbn s).cfg = s.cfg ∧
    (clearLists lbn s).attn = s.attn ∧ (clearLists lbn s).freeDraws = s.freeDraws ∧
    (clearLists lbn s).pending = s.pending ∧ (clearLists lbn s).map.remap = s.map.remap ∧
    (clearLists lbn s).map.retired = s.map.retired ∧ (clearLists lbn s).map.overflow = s.map.overflow := by
  unfold clearLists
  simp

@[simp] theorem handOffLists_keeps (lbn : Nat) (c : ReadClass) (s : State) :
    (handOffLists lbn c s).rstnLow = s.rstnLow ∧ (handOffLists lbn c s).lastRead = s.lastRead ∧
    (handOffLists lbn c s).req = s.req ∧ (handOffLists lbn c s).pool = s.pool ∧
    (handOffLists lbn c s).port = s.port ∧ (handOffLists lbn c s).svc = s.svc ∧
    (handOffLists lbn c s).array = s.array ∧ (handOffLists lbn c s).patrol = s.patrol ∧
    (handOffLists lbn c s).jrnl = s.jrnl ∧ (handOffLists lbn c s).cmd = s.cmd ∧ (handOffLists lbn c s).cfg = s.cfg ∧
    (handOffLists lbn c s).attn = s.attn ∧ (handOffLists lbn c s).freeDraws = s.freeDraws ∧
    (handOffLists lbn c s).pending = s.pending ∧ (handOffLists lbn c s).map.remap = s.map.remap ∧
    (handOffLists lbn c s).map.retired = s.map.retired := by
  unfold handOffLists
  (try dsimp only)
  (repeat' split) <;> simp

@[simp] theorem handOffCount_keeps (c : ReadClass) (s : State) :
    (handOffCount c s).rstnLow = s.rstnLow ∧ (handOffCount c s).lastRead = s.lastRead ∧
    (handOffCount c s).req = s.req ∧ (handOffCount c s).pool = s.pool ∧ (handOffCount c s).port = s.port ∧
    (handOffCount c s).svc = s.svc ∧ (handOffCount c s).array = s.array ∧ (handOffCount c s).map = s.map ∧
    (handOffCount c s).patrol = s.patrol ∧ (handOffCount c s).jrnl = s.jrnl ∧ (handOffCount c s).cmd = s.cmd ∧
    (handOffCount c s).cfg = s.cfg ∧ (handOffCount c s).attn = s.attn ∧ (handOffCount c s).freeDraws = s.freeDraws ∧
    (handOffCount c s).pending = s.pending := by
  unfold handOffCount
  (repeat' split) <;> simp

@[simp] theorem handOff_keeps (lbn : Nat) (c : ReadClass) (s : State) :
    (handOff lbn c s).rstnLow = s.rstnLow ∧ (handOff lbn c s).lastRead = s.lastRead ∧ (handOff lbn c s).req = s.req ∧
    (handOff lbn c s).pool = s.pool ∧ (handOff lbn c s).port = s.port ∧ (handOff lbn c s).svc = s.svc ∧
    (handOff lbn c s).array = s.array ∧ (handOff lbn c s).patrol = s.patrol ∧ (handOff lbn c s).jrnl = s.jrnl ∧
    (handOff lbn c s).cmd = s.cmd ∧ (handOff lbn c s).cfg = s.cfg ∧ (handOff lbn c s).attn = s.attn ∧
    (handOff lbn c s).freeDraws = s.freeDraws ∧ (handOff lbn c s).pending = s.pending ∧
    (handOff lbn c s).map.remap = s.map.remap ∧ (handOff lbn c s).map.retired = s.map.retired := by
  unfold handOff
  simp

@[simp] theorem setPatrolStatus_keeps (st : PatrolStatus) (s : State) :
    (setPatrolStatus st s).rstnLow = s.rstnLow ∧ (setPatrolStatus st s).lastRead = s.lastRead ∧
    (setPatrolStatus st s).req = s.req ∧ (setPatrolStatus st s).pool = s.pool ∧
    (setPatrolStatus st s).port = s.port ∧ (setPatrolStatus st s).svc = s.svc ∧
    (setPatrolStatus st s).array = s.array ∧ (setPatrolStatus st s).map = s.map ∧
    (setPatrolStatus st s).jrnl = s.jrnl ∧ (setPatrolStatus st s).cond = s.cond ∧
    (setPatrolStatus st s).cmd = s.cmd ∧ (setPatrolStatus st s).cfg = s.cfg ∧
    (setPatrolStatus st s).freeDraws = s.freeDraws ∧ (setPatrolStatus st s).pending = s.pending ∧
    (setPatrolStatus st s).patrol.state = s.patrol.state ∧ (setPatrolStatus st s).patrol.mode = s.patrol.mode ∧
    (setPatrolStatus st s).patrol.resume = s.patrol.resume ∧
    (setPatrolStatus st s).patrol.quietTimer = s.patrol.quietTimer ∧
    (setPatrolStatus st s).patrol.quietElapsed = s.patrol.quietElapsed ∧
    (setPatrolStatus st s).patrol.gapTimer = s.patrol.gapTimer ∧
    (setPatrolStatus st s).patrol.bgRead = s.patrol.bgRead ∧ (setPatrolStatus st s).patrol.buf = s.patrol.buf ∧
    (setPatrolStatus st s).patrol.refreshBlock = s.patrol.refreshBlock ∧
    (setPatrolStatus st s).attn.enable = s.attn.enable := by
  unfold setPatrolStatus
  (try dsimp only)
  (repeat' split) <;> simp

@[simp] theorem quietOver_keeps (s : State) :
    (quietOver s).rstnLow = s.rstnLow ∧ (quietOver s).lastRead = s.lastRead ∧ (quietOver s).req = s.req ∧
    (quietOver s).pool = s.pool ∧ (quietOver s).port = s.port ∧ (quietOver s).svc = s.svc ∧
    (quietOver s).array = s.array ∧ (quietOver s).map = s.map ∧ (quietOver s).jrnl = s.jrnl ∧
    (quietOver s).cond = s.cond ∧ (quietOver s).cmd = s.cmd ∧ (quietOver s).cfg = s.cfg ∧
    (quietOver s).attn = s.attn ∧ (quietOver s).freeDraws = s.freeDraws ∧ (quietOver s).pending = s.pending ∧
    (quietOver s).patrol.mode = s.patrol.mode ∧ (quietOver s).patrol.status = s.patrol.status ∧
    (quietOver s).patrol.resume = s.patrol.resume ∧ (quietOver s).patrol.gapTimer = s.patrol.gapTimer ∧
    (quietOver s).patrol.bgRead = s.patrol.bgRead ∧ (quietOver s).patrol.buf = s.patrol.buf ∧
    (quietOver s).patrol.refreshBlock = s.patrol.refreshBlock := by
  unfold quietOver
  (try dsimp only)
  (repeat' split) <;> simp

@[simp] theorem startQuiet_keeps (s : State) :
    (startQuiet s).rstnLow = s.rstnLow ∧ (startQuiet s).lastRead = s.lastRead ∧ (startQuiet s).req = s.req ∧
    (startQuiet s).pool = s.pool ∧ (startQuiet s).port = s.port ∧ (startQuiet s).svc = s.svc ∧
    (startQuiet s).array = s.array ∧ (startQuiet s).map = s.map ∧ (startQuiet s).jrnl = s.jrnl ∧
    (startQuiet s).cond = s.cond ∧ (startQuiet s).cmd = s.cmd ∧ (startQuiet s).cfg = s.cfg ∧
    (startQuiet s).attn = s.attn ∧ (startQuiet s).freeDraws = s.freeDraws ∧ (startQuiet s).pending = s.pending ∧
    (startQuiet s).patrol.mode = s.patrol.mode ∧ (startQuiet s).patrol.status = s.patrol.status ∧
    (startQuiet s).patrol.resume = s.patrol.resume ∧ (startQuiet s).patrol.gapTimer = s.patrol.gapTimer ∧
    (startQuiet s).patrol.bgRead = s.patrol.bgRead ∧ (startQuiet s).patrol.buf = s.patrol.buf ∧
    (startQuiet s).patrol.refreshBlock = s.patrol.refreshBlock := by
  unfold startQuiet
  (try dsimp only)
  (repeat' split) <;> simp

@[simp] theorem failWaitingCommand_keeps (s : State) :
    (failWaitingCommand s).rstnLow = s.rstnLow ∧ (failWaitingCommand s).lastRead = s.lastRead ∧
    (failWaitingCommand s).req = s.req ∧ (failWaitingCommand s).pool = s.pool ∧
    (failWaitingCommand s).port = s.port ∧ (failWaitingCommand s).svc = s.svc ∧
    (failWaitingCommand s).array = s.array ∧ (failWaitingCommand s).map = s.map ∧
    (failWaitingCommand s).patrol = s.patrol ∧ (failWaitingCommand s).jrnl = s.jrnl ∧
    (failWaitingCommand s).cond = s.cond ∧ (failWaitingCommand s).cfg = s.cfg ∧
    (failWaitingCommand s).freeDraws = s.freeDraws ∧ (failWaitingCommand s).pending = s.pending ∧
    (failWaitingCommand s).cmd.buffer = s.cmd.buffer ∧ (failWaitingCommand s).cmd.rptr = s.cmd.rptr ∧
    (failWaitingCommand s).attn.enable = s.attn.enable := by
  unfold failWaitingCommand
  (repeat' split) <;> simp

@[simp] theorem releaseCommand_keeps (q : Nat) (s : State) :
    (releaseCommand q s).rstnLow = s.rstnLow ∧ (releaseCommand q s).lastRead = s.lastRead ∧
    (releaseCommand q s).req = s.req ∧ (releaseCommand q s).pool = s.pool ∧ (releaseCommand q s).port = s.port ∧
    (releaseCommand q s).svc = s.svc ∧ (releaseCommand q s).array = s.array ∧ (releaseCommand q s).map = s.map ∧
    (releaseCommand q s).patrol = s.patrol ∧ (releaseCommand q s).jrnl = s.jrnl ∧
    (releaseCommand q s).cond = s.cond ∧ (releaseCommand q s).cfg = s.cfg ∧
    (releaseCommand q s).freeDraws = s.freeDraws ∧ (releaseCommand q s).pending = s.pending ∧
    (releaseCommand q s).cmd.buffer = s.cmd.buffer ∧ (releaseCommand q s).cmd.rptr = s.cmd.rptr ∧
    (releaseCommand q s).attn.enable = s.attn.enable := by
  unfold releaseCommand
  (repeat' split) <;> simp

@[simp] theorem endUnresolved_keeps (t : TagNo) (lbn : Nat) (st : Status) (s : State) :
    (endUnresolved t lbn st s).rstnLow = s.rstnLow ∧ (endUnresolved t lbn st s).lastRead = s.lastRead ∧
    (endUnresolved t lbn st s).port = s.port ∧ (endUnresolved t lbn st s).svc = s.svc ∧
    (endUnresolved t lbn st s).array = s.array ∧ (endUnresolved t lbn st s).patrol = s.patrol ∧
    (endUnresolved t lbn st s).jrnl = s.jrnl ∧ (endUnresolved t lbn st s).cmd = s.cmd ∧
    (endUnresolved t lbn st s).cfg = s.cfg ∧ (endUnresolved t lbn st s).attn = s.attn ∧
    (endUnresolved t lbn st s).freeDraws = s.freeDraws ∧ (endUnresolved t lbn st s).pending = s.pending ∧
    (endUnresolved t lbn st s).req.queue = s.req.queue ∧ (endUnresolved t lbn st s).req.arrival = s.req.arrival ∧
    (endUnresolved t lbn st s).req.qlbn = s.req.qlbn ∧ (endUnresolved t lbn st s).req.qcount = s.req.qcount ∧
    (endUnresolved t lbn st s).req.qctrl = s.req.qctrl ∧ (endUnresolved t lbn st s).req.qresult = s.req.qresult ∧
    (endUnresolved t lbn st s).req.qresultTag = s.req.qresultTag ∧
    (endUnresolved t lbn st s).req.qabort = s.req.qabort ∧
    (endUnresolved t lbn st s).req.abortIgnored = s.req.abortIgnored ∧
    (endUnresolved t lbn st s).map.remap = s.map.remap ∧ (endUnresolved t lbn st s).map.retired = s.map.retired := by
  unfold endUnresolved
  simp

@[simp] theorem exhaust_keeps (t : TagNo) (lbn : Nat) (s : State) :
    (exhaust t lbn s).rstnLow = s.rstnLow ∧ (exhaust t lbn s).lastRead = s.lastRead ∧
    (exhaust t lbn s).port = s.port ∧ (exhaust t lbn s).svc = s.svc ∧ (exhaust t lbn s).array = s.array ∧
    (exhaust t lbn s).patrol = s.patrol ∧ (exhaust t lbn s).jrnl = s.jrnl ∧ (exhaust t lbn s).cmd = s.cmd ∧
    (exhaust t lbn s).cfg = s.cfg ∧ (exhaust t lbn s).attn = s.attn ∧ (exhaust t lbn s).freeDraws = s.freeDraws ∧
    (exhaust t lbn s).pending = s.pending ∧ (exhaust t lbn s).req.queue = s.req.queue ∧
    (exhaust t lbn s).req.arrival = s.req.arrival ∧ (exhaust t lbn s).req.qlbn = s.req.qlbn ∧
    (exhaust t lbn s).req.qcount = s.req.qcount ∧ (exhaust t lbn s).req.qctrl = s.req.qctrl ∧
    (exhaust t lbn s).req.qresult = s.req.qresult ∧ (exhaust t lbn s).req.qresultTag = s.req.qresultTag ∧
    (exhaust t lbn s).req.qabort = s.req.qabort ∧ (exhaust t lbn s).req.abortIgnored = s.req.abortIgnored ∧
    (exhaust t lbn s).map.remap = s.map.remap ∧ (exhaust t lbn s).map.retired = s.map.retired := by
  unfold exhaust
  (try dsimp only)
  (repeat' split) <;> simp

@[simp] theorem resolveOwedTag_keeps (s : State) (t : TagNo) :
    (resolveOwedTag s t).rstnLow = s.rstnLow ∧ (resolveOwedTag s t).lastRead = s.lastRead ∧
    (resolveOwedTag s t).port = s.port ∧ (resolveOwedTag s t).svc = s.svc ∧ (resolveOwedTag s t).array = s.array ∧
    (resolveOwedTag s t).patrol = s.patrol ∧ (resolveOwedTag s t).jrnl = s.jrnl ∧ (resolveOwedTag s t).cmd = s.cmd ∧
    (resolveOwedTag s t).cfg = s.cfg ∧ (resolveOwedTag s t).attn = s.attn ∧
    (resolveOwedTag s t).freeDraws = s.freeDraws ∧ (resolveOwedTag s t).pending = s.pending ∧
    (resolveOwedTag s t).req.queue = s.req.queue ∧ (resolveOwedTag s t).req.arrival = s.req.arrival ∧
    (resolveOwedTag s t).req.qlbn = s.req.qlbn ∧ (resolveOwedTag s t).req.qcount = s.req.qcount ∧
    (resolveOwedTag s t).req.qctrl = s.req.qctrl ∧ (resolveOwedTag s t).req.qresult = s.req.qresult ∧
    (resolveOwedTag s t).req.qresultTag = s.req.qresultTag ∧ (resolveOwedTag s t).req.qabort = s.req.qabort ∧
    (resolveOwedTag s t).req.abortIgnored = s.req.abortIgnored ∧ (resolveOwedTag s t).map.remap = s.map.remap ∧
    (resolveOwedTag s t).map.retired = s.map.retired := by
  unfold resolveOwedTag
  (try dsimp only)
  (repeat' split) <;> simp

@[simp] theorem resolveOwedRefresh_keeps (s : State) :
    (resolveOwedRefresh s).rstnLow = s.rstnLow ∧ (resolveOwedRefresh s).lastRead = s.lastRead ∧
    (resolveOwedRefresh s).req = s.req ∧ (resolveOwedRefresh s).pool = s.pool ∧
    (resolveOwedRefresh s).port = s.port ∧ (resolveOwedRefresh s).svc = s.svc ∧
    (resolveOwedRefresh s).array = s.array ∧ (resolveOwedRefresh s).jrnl = s.jrnl ∧
    (resolveOwedRefresh s).cmd = s.cmd ∧ (resolveOwedRefresh s).cfg = s.cfg ∧ (resolveOwedRefresh s).attn = s.attn ∧
    (resolveOwedRefresh s).freeDraws = s.freeDraws ∧ (resolveOwedRefresh s).pending = s.pending ∧
    (resolveOwedRefresh s).map.remap = s.map.remap ∧ (resolveOwedRefresh s).map.retired = s.map.retired ∧
    (resolveOwedRefresh s).patrol.state = s.patrol.state ∧ (resolveOwedRefresh s).patrol.mode = s.patrol.mode ∧
    (resolveOwedRefresh s).patrol.status = s.patrol.status ∧ (resolveOwedRefresh s).patrol.resume = s.patrol.resume ∧
    (resolveOwedRefresh s).patrol.quietTimer = s.patrol.quietTimer ∧
    (resolveOwedRefresh s).patrol.quietElapsed = s.patrol.quietElapsed ∧
    (resolveOwedRefresh s).patrol.gapTimer = s.patrol.gapTimer ∧
    (resolveOwedRefresh s).patrol.bgRead = s.patrol.bgRead := by
  unfold resolveOwedRefresh
  (try dsimp only)
  (repeat' split) <;> simp

@[simp] theorem resolveOwed_keeps (s : State) :
    (resolveOwed s).rstnLow = s.rstnLow ∧ (resolveOwed s).lastRead = s.lastRead ∧ (resolveOwed s).port = s.port ∧
    (resolveOwed s).svc = s.svc ∧ (resolveOwed s).array = s.array ∧ (resolveOwed s).jrnl = s.jrnl ∧
    (resolveOwed s).cmd = s.cmd ∧ (resolveOwed s).cfg = s.cfg ∧ (resolveOwed s).attn = s.attn ∧
    (resolveOwed s).freeDraws = s.freeDraws ∧ (resolveOwed s).pending = s.pending ∧
    (resolveOwed s).req.queue = s.req.queue ∧ (resolveOwed s).req.arrival = s.req.arrival ∧
    (resolveOwed s).req.qlbn = s.req.qlbn ∧ (resolveOwed s).req.qcount = s.req.qcount ∧
    (resolveOwed s).req.qctrl = s.req.qctrl ∧ (resolveOwed s).req.qresult = s.req.qresult ∧
    (resolveOwed s).req.qresultTag = s.req.qresultTag ∧ (resolveOwed s).req.qabort = s.req.qabort ∧
    (resolveOwed s).req.abortIgnored = s.req.abortIgnored ∧ (resolveOwed s).map.remap = s.map.remap ∧
    (resolveOwed s).map.retired = s.map.retired ∧ (resolveOwed s).patrol.state = s.patrol.state ∧
    (resolveOwed s).patrol.mode = s.patrol.mode ∧ (resolveOwed s).patrol.status = s.patrol.status ∧
    (resolveOwed s).patrol.resume = s.patrol.resume ∧ (resolveOwed s).patrol.quietTimer = s.patrol.quietTimer ∧
    (resolveOwed s).patrol.quietElapsed = s.patrol.quietElapsed ∧
    (resolveOwed s).patrol.gapTimer = s.patrol.gapTimer ∧ (resolveOwed s).patrol.bgRead = s.patrol.bgRead := by
  unfold resolveOwed
  simp

@[simp] theorem readOnlyTag_keeps (s : State) (t : TagNo) :
    (readOnlyTag s t).rstnLow = s.rstnLow ∧ (readOnlyTag s t).lastRead = s.lastRead ∧
    (readOnlyTag s t).port = s.port ∧ (readOnlyTag s t).svc = s.svc ∧ (readOnlyTag s t).array = s.array ∧
    (readOnlyTag s t).patrol = s.patrol ∧ (readOnlyTag s t).jrnl = s.jrnl ∧ (readOnlyTag s t).cmd = s.cmd ∧
    (readOnlyTag s t).cfg = s.cfg ∧ (readOnlyTag s t).attn = s.attn ∧ (readOnlyTag s t).freeDraws = s.freeDraws ∧
    (readOnlyTag s t).pending = s.pending ∧ (readOnlyTag s t).req.queue = s.req.queue ∧
    (readOnlyTag s t).req.arrival = s.req.arrival ∧ (readOnlyTag s t).req.qlbn = s.req.qlbn ∧
    (readOnlyTag s t).req.qcount = s.req.qcount ∧ (readOnlyTag s t).req.qctrl = s.req.qctrl ∧
    (readOnlyTag s t).req.qresult = s.req.qresult ∧ (readOnlyTag s t).req.qresultTag = s.req.qresultTag ∧
    (readOnlyTag s t).req.qabort = s.req.qabort ∧ (readOnlyTag s t).req.abortIgnored = s.req.abortIgnored ∧
    (readOnlyTag s t).map.remap = s.map.remap ∧ (readOnlyTag s t).map.retired = s.map.retired := by
  unfold readOnlyTag
  (try dsimp only)
  (repeat' split) <;> simp

@[simp] theorem closeBgRead_keeps (r : BackgroundRead) (c : ReadClass) (s : State) :
    (closeBgRead r c s).rstnLow = s.rstnLow ∧ (closeBgRead r c s).lastRead = s.lastRead ∧
    (closeBgRead r c s).req = s.req ∧ (closeBgRead r c s).pool = s.pool ∧ (closeBgRead r c s).port = s.port ∧
    (closeBgRead r c s).svc = s.svc ∧ (closeBgRead r c s).array = s.array ∧ (closeBgRead r c s).jrnl = s.jrnl ∧
    (closeBgRead r c s).cmd = s.cmd ∧ (closeBgRead r c s).cfg = s.cfg ∧ (closeBgRead r c s).attn = s.attn ∧
    (closeBgRead r c s).freeDraws = s.freeDraws ∧ (closeBgRead r c s).pending = s.pending ∧
    (closeBgRead r c s).map.remap = s.map.remap ∧ (closeBgRead r c s).map.retired = s.map.retired ∧
    (closeBgRead r c s).patrol.state = s.patrol.state ∧ (closeBgRead r c s).patrol.mode = s.patrol.mode ∧
    (closeBgRead r c s).patrol.status = s.patrol.status ∧
    (closeBgRead r c s).patrol.quietTimer = s.patrol.quietTimer ∧
    (closeBgRead r c s).patrol.quietElapsed = s.patrol.quietElapsed ∧
    (closeBgRead r c s).patrol.gapTimer = s.patrol.gapTimer ∧ (closeBgRead r c s).patrol.buf = s.patrol.buf ∧
    (closeBgRead r c s).patrol.refreshBlock = s.patrol.refreshBlock := by
  unfold closeBgRead
  (try dsimp only)
  (repeat' split) <;> simp

@[simp] theorem haltPatrol_keeps (s : State) :
    (haltPatrol s).rstnLow = s.rstnLow ∧ (haltPatrol s).lastRead = s.lastRead ∧ (haltPatrol s).req = s.req ∧
    (haltPatrol s).pool = s.pool ∧ (haltPatrol s).port = s.port ∧ (haltPatrol s).svc = s.svc ∧
    (haltPatrol s).array = s.array ∧ (haltPatrol s).jrnl = s.jrnl ∧ (haltPatrol s).cmd = s.cmd ∧
    (haltPatrol s).cfg = s.cfg ∧ (haltPatrol s).freeDraws = s.freeDraws ∧ (haltPatrol s).pending = s.pending ∧
    (haltPatrol s).map.remap = s.map.remap ∧ (haltPatrol s).map.retired = s.map.retired ∧
    (haltPatrol s).patrol.quietTimer = s.patrol.quietTimer ∧
    (haltPatrol s).patrol.quietElapsed = s.patrol.quietElapsed ∧ (haltPatrol s).attn.enable = s.attn.enable := by
  unfold haltPatrol
  (try dsimp only)
  (repeat' split) <;> simp

@[simp] theorem becomeReadOnly_keeps (s : State) :
    (becomeReadOnly s).rstnLow = s.rstnLow ∧ (becomeReadOnly s).lastRead = s.lastRead ∧
    (becomeReadOnly s).port = s.port ∧ (becomeReadOnly s).svc = s.svc ∧ (becomeReadOnly s).array = s.array ∧
    (becomeReadOnly s).cfg = s.cfg ∧ (becomeReadOnly s).freeDraws = s.freeDraws ∧
    (becomeReadOnly s).pending = s.pending ∧ (becomeReadOnly s).req.queue = s.req.queue ∧
    (becomeReadOnly s).req.arrival = s.req.arrival ∧ (becomeReadOnly s).req.qlbn = s.req.qlbn ∧
    (becomeReadOnly s).req.qcount = s.req.qcount ∧ (becomeReadOnly s).req.qctrl = s.req.qctrl ∧
    (becomeReadOnly s).req.qresult = s.req.qresult ∧ (becomeReadOnly s).req.qresultTag = s.req.qresultTag ∧
    (becomeReadOnly s).req.qabort = s.req.qabort ∧ (becomeReadOnly s).req.abortIgnored = s.req.abortIgnored ∧
    (becomeReadOnly s).map.remap = s.map.remap ∧ (becomeReadOnly s).map.retired = s.map.retired ∧
    (becomeReadOnly s).patrol.quietTimer = s.patrol.quietTimer ∧
    (becomeReadOnly s).patrol.quietElapsed = s.patrol.quietElapsed ∧
    (becomeReadOnly s).jrnl.lastStarted = s.jrnl.lastStarted ∧ (becomeReadOnly s).jrnl.lastDone = s.jrnl.lastDone ∧
    (becomeReadOnly s).jrnl.nextPos = s.jrnl.nextPos ∧ (becomeReadOnly s).jrnl.commitNeeded = s.jrnl.commitNeeded ∧
    (becomeReadOnly s).jrnl.commit = s.jrnl.commit ∧ (becomeReadOnly s).jrnl.imageBuffer = s.jrnl.imageBuffer ∧
    (becomeReadOnly s).jrnl.candidate = s.jrnl.candidate ∧ (becomeReadOnly s).jrnl.scanNext = s.jrnl.scanNext ∧
    (becomeReadOnly s).cmd.buffer = s.cmd.buffer ∧ (becomeReadOnly s).cmd.rptr = s.cmd.rptr ∧
    (becomeReadOnly s).attn.enable = s.attn.enable := by
  unfold becomeReadOnly
  (try dsimp only)
  simp

@[simp] theorem checkSequence_keeps (s : State) :
    (checkSequence s).rstnLow = s.rstnLow ∧ (checkSequence s).lastRead = s.lastRead ∧
    (checkSequence s).port = s.port ∧ (checkSequence s).svc = s.svc ∧ (checkSequence s).array = s.array ∧
    (checkSequence s).cfg = s.cfg ∧ (checkSequence s).freeDraws = s.freeDraws ∧
    (checkSequence s).pending = s.pending ∧ (checkSequence s).req.queue = s.req.queue ∧
    (checkSequence s).req.arrival = s.req.arrival ∧ (checkSequence s).req.qlbn = s.req.qlbn ∧
    (checkSequence s).req.qcount = s.req.qcount ∧ (checkSequence s).req.qctrl = s.req.qctrl ∧
    (checkSequence s).req.qresult = s.req.qresult ∧ (checkSequence s).req.qresultTag = s.req.qresultTag ∧
    (checkSequence s).req.qabort = s.req.qabort ∧ (checkSequence s).req.abortIgnored = s.req.abortIgnored ∧
    (checkSequence s).map.remap = s.map.remap ∧ (checkSequence s).map.retired = s.map.retired ∧
    (checkSequence s).patrol.quietTimer = s.patrol.quietTimer ∧
    (checkSequence s).patrol.quietElapsed = s.patrol.quietElapsed ∧
    (checkSequence s).jrnl.lastStarted = s.jrnl.lastStarted ∧ (checkSequence s).jrnl.lastDone = s.jrnl.lastDone ∧
    (checkSequence s).jrnl.nextPos = s.jrnl.nextPos ∧ (checkSequence s).jrnl.commitNeeded = s.jrnl.commitNeeded ∧
    (checkSequence s).jrnl.commit = s.jrnl.commit ∧ (checkSequence s).jrnl.imageBuffer = s.jrnl.imageBuffer ∧
    (checkSequence s).jrnl.candidate = s.jrnl.candidate ∧ (checkSequence s).jrnl.scanNext = s.jrnl.scanNext ∧
    (checkSequence s).cmd.buffer = s.cmd.buffer ∧ (checkSequence s).cmd.rptr = s.cmd.rptr ∧
    (checkSequence s).attn.enable = s.attn.enable := by
  unfold checkSequence
  (repeat' split) <;> simp

@[simp] theorem closeQueue_keeps (s₀ s : State) :
    (closeQueue s₀ s).rstnLow = s.rstnLow ∧ (closeQueue s₀ s).lastRead = s.lastRead ∧
    (closeQueue s₀ s).pool = s.pool ∧ (closeQueue s₀ s).port = s.port ∧ (closeQueue s₀ s).array = s.array ∧
    (closeQueue s₀ s).map = s.map ∧ (closeQueue s₀ s).jrnl = s.jrnl ∧ (closeQueue s₀ s).cond = s.cond ∧
    (closeQueue s₀ s).cmd = s.cmd ∧ (closeQueue s₀ s).cfg = s.cfg ∧ (closeQueue s₀ s).attn = s.attn ∧
    (closeQueue s₀ s).freeDraws = s.freeDraws ∧ (closeQueue s₀ s).pending = s.pending ∧
    (closeQueue s₀ s).req.qlbn = s.req.qlbn ∧ (closeQueue s₀ s).req.qcount = s.req.qcount ∧
    (closeQueue s₀ s).req.qctrl = s.req.qctrl ∧ (closeQueue s₀ s).req.qresult = s.req.qresult ∧
    (closeQueue s₀ s).req.qresultTag = s.req.qresultTag ∧ (closeQueue s₀ s).req.qabort = s.req.qabort ∧
    (closeQueue s₀ s).req.abortIgnored = s.req.abortIgnored ∧ (closeQueue s₀ s).svc.readout = s.svc.readout ∧
    (closeQueue s₀ s).patrol.mode = s.patrol.mode ∧ (closeQueue s₀ s).patrol.status = s.patrol.status ∧
    (closeQueue s₀ s).patrol.resume = s.patrol.resume ∧ (closeQueue s₀ s).patrol.gapTimer = s.patrol.gapTimer ∧
    (closeQueue s₀ s).patrol.bgRead = s.patrol.bgRead ∧ (closeQueue s₀ s).patrol.buf = s.patrol.buf ∧
    (closeQueue s₀ s).patrol.refreshBlock = s.patrol.refreshBlock := by
  unfold closeQueue
  (try dsimp only)
  (repeat' split) <;> simp

@[simp] theorem reserveSlot_keeps (n : SlotNo) (t : TagNo) (s : State) :
    (reserveSlot n t s).rstnLow = s.rstnLow ∧ (reserveSlot n t s).lastRead = s.lastRead ∧
    (reserveSlot n t s).req = s.req ∧ (reserveSlot n t s).port = s.port ∧ (reserveSlot n t s).array = s.array ∧
    (reserveSlot n t s).map = s.map ∧ (reserveSlot n t s).patrol = s.patrol ∧ (reserveSlot n t s).jrnl = s.jrnl ∧
    (reserveSlot n t s).cond = s.cond ∧ (reserveSlot n t s).cmd = s.cmd ∧ (reserveSlot n t s).cfg = s.cfg ∧
    (reserveSlot n t s).attn = s.attn ∧ (reserveSlot n t s).freeDraws = s.freeDraws ∧
    (reserveSlot n t s).pending = s.pending ∧ (reserveSlot n t s).svc.readout = s.svc.readout := by
  unfold reserveSlot
  (try dsimp only)
  (repeat' split) <;> simp

@[simp] theorem grantSlots_keeps (k : Nat) (s : State) :
    (grantSlots k s).rstnLow = s.rstnLow ∧ (grantSlots k s).lastRead = s.lastRead ∧ (grantSlots k s).req = s.req ∧
    (grantSlots k s).port = s.port ∧ (grantSlots k s).array = s.array ∧ (grantSlots k s).map = s.map ∧
    (grantSlots k s).patrol = s.patrol ∧ (grantSlots k s).jrnl = s.jrnl ∧ (grantSlots k s).cond = s.cond ∧
    (grantSlots k s).cmd = s.cmd ∧ (grantSlots k s).cfg = s.cfg ∧ (grantSlots k s).attn = s.attn ∧
    (grantSlots k s).freeDraws = s.freeDraws ∧ (grantSlots k s).pending = s.pending ∧
    (grantSlots k s).svc.readout = s.svc.readout := by
  induction k generalizing s with
  | zero => simp [grantSlots]
  | succ k ih =>
    unfold grantSlots
    split
    · simp [ih]
    · simp

@[simp] theorem latchHealth_keeps (s₀ s : State) :
    (latchHealth s₀ s).rstnLow = s.rstnLow ∧ (latchHealth s₀ s).lastRead = s.lastRead ∧
    (latchHealth s₀ s).req = s.req ∧ (latchHealth s₀ s).pool = s.pool ∧ (latchHealth s₀ s).port = s.port ∧
    (latchHealth s₀ s).svc = s.svc ∧ (latchHealth s₀ s).array = s.array ∧ (latchHealth s₀ s).map = s.map ∧
    (latchHealth s₀ s).patrol = s.patrol ∧ (latchHealth s₀ s).jrnl = s.jrnl ∧ (latchHealth s₀ s).cond = s.cond ∧
    (latchHealth s₀ s).cmd = s.cmd ∧ (latchHealth s₀ s).cfg = s.cfg ∧ (latchHealth s₀ s).freeDraws = s.freeDraws ∧
    (latchHealth s₀ s).pending = s.pending ∧ (latchHealth s₀ s).attn.enable = s.attn.enable := by
  unfold latchHealth
  (repeat' split) <;> simp

@[simp] theorem grantRingRead_keeps (p : Nat) (s : State) :
    (grantRingRead p s).rstnLow = s.rstnLow ∧ (grantRingRead p s).lastRead = s.lastRead ∧
    (grantRingRead p s).req = s.req ∧ (grantRingRead p s).pool = s.pool ∧ (grantRingRead p s).port = s.port ∧
    (grantRingRead p s).svc = s.svc ∧ (grantRingRead p s).map = s.map ∧ (grantRingRead p s).patrol = s.patrol ∧
    (grantRingRead p s).cond = s.cond ∧ (grantRingRead p s).cmd = s.cmd ∧ (grantRingRead p s).cfg = s.cfg ∧
    (grantRingRead p s).attn = s.attn ∧ (grantRingRead p s).freeDraws = s.freeDraws ∧
    (grantRingRead p s).pending = s.pending ∧ (grantRingRead p s).array.blocks = s.array.blocks ∧
    (grantRingRead p s).array.ring = s.array.ring ∧ (grantRingRead p s).jrnl.mode = s.jrnl.mode ∧
    (grantRingRead p s).jrnl.lastStarted = s.jrnl.lastStarted ∧ (grantRingRead p s).jrnl.lastDone = s.jrnl.lastDone ∧
    (grantRingRead p s).jrnl.nextPos = s.jrnl.nextPos ∧ (grantRingRead p s).jrnl.commitNeeded = s.jrnl.commitNeeded ∧
    (grantRingRead p s).jrnl.commit = s.jrnl.commit ∧ (grantRingRead p s).jrnl.imageBuffer = s.jrnl.imageBuffer ∧
    (grantRingRead p s).jrnl.candidate = s.jrnl.candidate := by
  unfold grantRingRead
  (try dsimp only)
  simp

@[simp] theorem grantCommitFirst_keeps (s : State) :
    (grantCommitFirst s).rstnLow = s.rstnLow ∧ (grantCommitFirst s).lastRead = s.lastRead ∧
    (grantCommitFirst s).req = s.req ∧ (grantCommitFirst s).pool = s.pool ∧ (grantCommitFirst s).port = s.port ∧
    (grantCommitFirst s).svc = s.svc ∧ (grantCommitFirst s).map = s.map ∧ (grantCommitFirst s).patrol = s.patrol ∧
    (grantCommitFirst s).cond = s.cond ∧ (grantCommitFirst s).cmd = s.cmd ∧ (grantCommitFirst s).cfg = s.cfg ∧
    (grantCommitFirst s).attn = s.attn ∧ (grantCommitFirst s).freeDraws = s.freeDraws ∧
    (grantCommitFirst s).pending = s.pending ∧ (grantCommitFirst s).array.blocks = s.array.blocks ∧
    (grantCommitFirst s).array.ring = s.array.ring ∧ (grantCommitFirst s).jrnl.mode = s.jrnl.mode ∧
    (grantCommitFirst s).jrnl.lastDone = s.jrnl.lastDone ∧ (grantCommitFirst s).jrnl.nextPos = s.jrnl.nextPos ∧
    (grantCommitFirst s).jrnl.candidate = s.jrnl.candidate ∧ (grantCommitFirst s).jrnl.scanNext = s.jrnl.scanNext := by
  unfold grantCommitFirst
  (try dsimp only)
  simp

@[simp] theorem grantCommitNext_keeps (s : State) :
    (grantCommitNext s).rstnLow = s.rstnLow ∧ (grantCommitNext s).lastRead = s.lastRead ∧
    (grantCommitNext s).req = s.req ∧ (grantCommitNext s).pool = s.pool ∧ (grantCommitNext s).port = s.port ∧
    (grantCommitNext s).svc = s.svc ∧ (grantCommitNext s).map = s.map ∧ (grantCommitNext s).patrol = s.patrol ∧
    (grantCommitNext s).cond = s.cond ∧ (grantCommitNext s).cmd = s.cmd ∧ (grantCommitNext s).cfg = s.cfg ∧
    (grantCommitNext s).attn = s.attn ∧ (grantCommitNext s).freeDraws = s.freeDraws ∧
    (grantCommitNext s).pending = s.pending ∧ (grantCommitNext s).array.blocks = s.array.blocks ∧
    (grantCommitNext s).array.ring = s.array.ring ∧ (grantCommitNext s).jrnl.mode = s.jrnl.mode ∧
    (grantCommitNext s).jrnl.lastStarted = s.jrnl.lastStarted ∧ (grantCommitNext s).jrnl.lastDone = s.jrnl.lastDone ∧
    (grantCommitNext s).jrnl.nextPos = s.jrnl.nextPos ∧ (grantCommitNext s).jrnl.commitNeeded = s.jrnl.commitNeeded ∧
    (grantCommitNext s).jrnl.imageBuffer = s.jrnl.imageBuffer ∧
    (grantCommitNext s).jrnl.candidate = s.jrnl.candidate ∧ (grantCommitNext s).jrnl.scanNext = s.jrnl.scanNext := by
  unfold grantCommitNext
  (try dsimp only)
  simp

@[simp] theorem grantLoad_keeps (t : TagNo) (s : State) :
    (grantLoad t s).rstnLow = s.rstnLow ∧ (grantLoad t s).lastRead = s.lastRead ∧ (grantLoad t s).port = s.port ∧
    (grantLoad t s).svc = s.svc ∧ (grantLoad t s).map = s.map ∧ (grantLoad t s).patrol = s.patrol ∧
    (grantLoad t s).jrnl = s.jrnl ∧ (grantLoad t s).cond = s.cond ∧ (grantLoad t s).cmd = s.cmd ∧
    (grantLoad t s).cfg = s.cfg ∧ (grantLoad t s).attn = s.attn ∧ (grantLoad t s).freeDraws = s.freeDraws ∧
    (grantLoad t s).pending = s.pending ∧ (grantLoad t s).req.queue = s.req.queue ∧
    (grantLoad t s).req.arrival = s.req.arrival ∧ (grantLoad t s).req.qlbn = s.req.qlbn ∧
    (grantLoad t s).req.qcount = s.req.qcount ∧ (grantLoad t s).req.qctrl = s.req.qctrl ∧
    (grantLoad t s).req.qresult = s.req.qresult ∧ (grantLoad t s).req.qresultTag = s.req.qresultTag ∧
    (grantLoad t s).req.qabort = s.req.qabort ∧ (grantLoad t s).req.abortIgnored = s.req.abortIgnored ∧
    (grantLoad t s).array.blocks = s.array.blocks ∧ (grantLoad t s).array.ring = s.array.ring := by
  unfold grantLoad
  (try dsimp only)
  (repeat' split) <;> simp

@[simp] theorem grantCheckRead_keeps (t : TagNo) (s : State) :
    (grantCheckRead t s).rstnLow = s.rstnLow ∧ (grantCheckRead t s).lastRead = s.lastRead ∧
    (grantCheckRead t s).pool = s.pool ∧ (grantCheckRead t s).port = s.port ∧ (grantCheckRead t s).svc = s.svc ∧
    (grantCheckRead t s).map = s.map ∧ (grantCheckRead t s).patrol = s.patrol ∧ (grantCheckRead t s).jrnl = s.jrnl ∧
    (grantCheckRead t s).cond = s.cond ∧ (grantCheckRead t s).cmd = s.cmd ∧ (grantCheckRead t s).cfg = s.cfg ∧
    (grantCheckRead t s).attn = s.attn ∧ (grantCheckRead t s).freeDraws = s.freeDraws ∧
    (grantCheckRead t s).pending = s.pending ∧ (grantCheckRead t s).req.queue = s.req.queue ∧
    (grantCheckRead t s).req.arrival = s.req.arrival ∧ (grantCheckRead t s).req.qlbn = s.req.qlbn ∧
    (grantCheckRead t s).req.qcount = s.req.qcount ∧ (grantCheckRead t s).req.qctrl = s.req.qctrl ∧
    (grantCheckRead t s).req.qresult = s.req.qresult ∧ (grantCheckRead t s).req.qresultTag = s.req.qresultTag ∧
    (grantCheckRead t s).req.qabort = s.req.qabort ∧ (grantCheckRead t s).req.abortIgnored = s.req.abortIgnored ∧
    (grantCheckRead t s).array.blocks = s.array.blocks ∧ (grantCheckRead t s).array.ring = s.array.ring := by
  unfold grantCheckRead
  (try dsimp only)
  simp

@[simp] theorem grantRetry_keeps (t : TagNo) (s : State) :
    (grantRetry t s).rstnLow = s.rstnLow ∧ (grantRetry t s).lastRead = s.lastRead ∧ (grantRetry t s).pool = s.pool ∧
    (grantRetry t s).port = s.port ∧ (grantRetry t s).svc = s.svc ∧ (grantRetry t s).map = s.map ∧
    (grantRetry t s).patrol = s.patrol ∧ (grantRetry t s).jrnl = s.jrnl ∧ (grantRetry t s).cond = s.cond ∧
    (grantRetry t s).cmd = s.cmd ∧ (grantRetry t s).cfg = s.cfg ∧ (grantRetry t s).attn = s.attn ∧
    (grantRetry t s).freeDraws = s.freeDraws ∧ (grantRetry t s).pending = s.pending ∧
    (grantRetry t s).req.queue = s.req.queue ∧ (grantRetry t s).req.arrival = s.req.arrival ∧
    (grantRetry t s).req.qlbn = s.req.qlbn ∧ (grantRetry t s).req.qcount = s.req.qcount ∧
    (grantRetry t s).req.qctrl = s.req.qctrl ∧ (grantRetry t s).req.qresult = s.req.qresult ∧
    (grantRetry t s).req.qresultTag = s.req.qresultTag ∧ (grantRetry t s).req.qabort = s.req.qabort ∧
    (grantRetry t s).req.abortIgnored = s.req.abortIgnored ∧ (grantRetry t s).array.blocks = s.array.blocks ∧
    (grantRetry t s).array.ring = s.array.ring := by
  unfold grantRetry
  (try dsimp only)
  (repeat' split) <;> simp

@[simp] theorem grantProgram_keeps (t : TagNo) (s : State) :
    (grantProgram t s).rstnLow = s.rstnLow ∧ (grantProgram t s).lastRead = s.lastRead ∧
    (grantProgram t s).port = s.port ∧ (grantProgram t s).svc = s.svc ∧ (grantProgram t s).map = s.map ∧
    (grantProgram t s).patrol = s.patrol ∧ (grantProgram t s).jrnl = s.jrnl ∧ (grantProgram t s).cond = s.cond ∧
    (grantProgram t s).cmd = s.cmd ∧ (grantProgram t s).cfg = s.cfg ∧ (grantProgram t s).attn = s.attn ∧
    (grantProgram t s).freeDraws = s.freeDraws ∧ (grantProgram t s).pending = s.pending ∧
    (grantProgram t s).req.queue = s.req.queue ∧ (grantProgram t s).req.arrival = s.req.arrival ∧
    (grantProgram t s).req.qlbn = s.req.qlbn ∧ (grantProgram t s).req.qcount = s.req.qcount ∧
    (grantProgram t s).req.qctrl = s.req.qctrl ∧ (grantProgram t s).req.qresult = s.req.qresult ∧
    (grantProgram t s).req.qresultTag = s.req.qresultTag ∧ (grantProgram t s).req.qabort = s.req.qabort ∧
    (grantProgram t s).req.abortIgnored = s.req.abortIgnored ∧ (grantProgram t s).array.blocks = s.array.blocks ∧
    (grantProgram t s).array.ring = s.array.ring := by
  unfold grantProgram
  (try dsimp only)
  (repeat' split) <;> simp

@[simp] theorem grantReallocate_keeps (t : TagNo) (s : State) :
    (grantReallocate t s).rstnLow = s.rstnLow ∧ (grantReallocate t s).lastRead = s.lastRead ∧
    (grantReallocate t s).pool = s.pool ∧ (grantReallocate t s).port = s.port ∧ (grantReallocate t s).svc = s.svc ∧
    (grantReallocate t s).map = s.map ∧ (grantReallocate t s).patrol = s.patrol ∧
    (grantReallocate t s).jrnl = s.jrnl ∧ (grantReallocate t s).cond = s.cond ∧ (grantReallocate t s).cmd = s.cmd ∧
    (grantReallocate t s).cfg = s.cfg ∧ (grantReallocate t s).attn = s.attn ∧
    (grantReallocate t s).freeDraws = s.freeDraws ∧ (grantReallocate t s).pending = s.pending ∧
    (grantReallocate t s).req.queue = s.req.queue ∧ (grantReallocate t s).req.arrival = s.req.arrival ∧
    (grantReallocate t s).req.qlbn = s.req.qlbn ∧ (grantReallocate t s).req.qcount = s.req.qcount ∧
    (grantReallocate t s).req.qctrl = s.req.qctrl ∧ (grantReallocate t s).req.qresult = s.req.qresult ∧
    (grantReallocate t s).req.qresultTag = s.req.qresultTag ∧ (grantReallocate t s).req.qabort = s.req.qabort ∧
    (grantReallocate t s).req.abortIgnored = s.req.abortIgnored ∧
    (grantReallocate t s).array.blocks = s.array.blocks ∧ (grantReallocate t s).array.ring = s.array.ring := by
  unfold grantReallocate
  (try dsimp only)
  (repeat' split) <;> simp

@[simp] theorem grantPatrolRetry_keeps (s : State) :
    (grantPatrolRetry s).rstnLow = s.rstnLow ∧ (grantPatrolRetry s).lastRead = s.lastRead ∧
    (grantPatrolRetry s).req = s.req ∧ (grantPatrolRetry s).pool = s.pool ∧ (grantPatrolRetry s).port = s.port ∧
    (grantPatrolRetry s).svc = s.svc ∧ (grantPatrolRetry s).map = s.map ∧ (grantPatrolRetry s).jrnl = s.jrnl ∧
    (grantPatrolRetry s).cond = s.cond ∧ (grantPatrolRetry s).cmd = s.cmd ∧ (grantPatrolRetry s).cfg = s.cfg ∧
    (grantPatrolRetry s).attn = s.attn ∧ (grantPatrolRetry s).freeDraws = s.freeDraws ∧
    (grantPatrolRetry s).pending = s.pending ∧ (grantPatrolRetry s).array.blocks = s.array.blocks ∧
    (grantPatrolRetry s).array.ring = s.array.ring ∧ (grantPatrolRetry s).patrol.state = s.patrol.state ∧
    (grantPatrolRetry s).patrol.mode = s.patrol.mode ∧ (grantPatrolRetry s).patrol.status = s.patrol.status ∧
    (grantPatrolRetry s).patrol.resume = s.patrol.resume ∧
    (grantPatrolRetry s).patrol.quietTimer = s.patrol.quietTimer ∧
    (grantPatrolRetry s).patrol.quietElapsed = s.patrol.quietElapsed ∧
    (grantPatrolRetry s).patrol.gapTimer = s.patrol.gapTimer ∧ (grantPatrolRetry s).patrol.buf = s.patrol.buf ∧
    (grantPatrolRetry s).patrol.refreshBlock = s.patrol.refreshBlock := by
  unfold grantPatrolRetry
  (try dsimp only)
  (repeat' split) <;> simp

@[simp] theorem grantRefreshProgram_keeps (s : State) :
    (grantRefreshProgram s).rstnLow = s.rstnLow ∧ (grantRefreshProgram s).lastRead = s.lastRead ∧
    (grantRefreshProgram s).req = s.req ∧ (grantRefreshProgram s).pool = s.pool ∧
    (grantRefreshProgram s).port = s.port ∧ (grantRefreshProgram s).svc = s.svc ∧
    (grantRefreshProgram s).map = s.map ∧ (grantRefreshProgram s).jrnl = s.jrnl ∧
    (grantRefreshProgram s).cond = s.cond ∧ (grantRefreshProgram s).cmd = s.cmd ∧
    (grantRefreshProgram s).cfg = s.cfg ∧ (grantRefreshProgram s).attn = s.attn ∧
    (grantRefreshProgram s).freeDraws = s.freeDraws ∧ (grantRefreshProgram s).pending = s.pending ∧
    (grantRefreshProgram s).array.blocks = s.array.blocks ∧ (grantRefreshProgram s).array.ring = s.array.ring ∧
    (grantRefreshProgram s).patrol.state = s.patrol.state ∧ (grantRefreshProgram s).patrol.mode = s.patrol.mode ∧
    (grantRefreshProgram s).patrol.status = s.patrol.status ∧
    (grantRefreshProgram s).patrol.resume = s.patrol.resume ∧
    (grantRefreshProgram s).patrol.quietTimer = s.patrol.quietTimer ∧
    (grantRefreshProgram s).patrol.quietElapsed = s.patrol.quietElapsed ∧
    (grantRefreshProgram s).patrol.gapTimer = s.patrol.gapTimer ∧
    (grantRefreshProgram s).patrol.bgRead = s.patrol.bgRead ∧ (grantRefreshProgram s).patrol.buf = s.patrol.buf := by
  unfold grantRefreshProgram
  (try dsimp only)
  simp

@[simp] theorem grantRefreshReallocate_keeps (s : State) :
    (grantRefreshReallocate s).rstnLow = s.rstnLow ∧ (grantRefreshReallocate s).lastRead = s.lastRead ∧
    (grantRefreshReallocate s).req = s.req ∧ (grantRefreshReallocate s).pool = s.pool ∧
    (grantRefreshReallocate s).port = s.port ∧ (grantRefreshReallocate s).svc = s.svc ∧
    (grantRefreshReallocate s).map = s.map ∧ (grantRefreshReallocate s).jrnl = s.jrnl ∧
    (grantRefreshReallocate s).cond = s.cond ∧ (grantRefreshReallocate s).cmd = s.cmd ∧
    (grantRefreshReallocate s).cfg = s.cfg ∧ (grantRefreshReallocate s).attn = s.attn ∧
    (grantRefreshReallocate s).freeDraws = s.freeDraws ∧ (grantRefreshReallocate s).pending = s.pending ∧
    (grantRefreshReallocate s).array.blocks = s.array.blocks ∧ (grantRefreshReallocate s).array.ring = s.array.ring ∧
    (grantRefreshReallocate s).patrol.state = s.patrol.state ∧
    (grantRefreshReallocate s).patrol.mode = s.patrol.mode ∧
    (grantRefreshReallocate s).patrol.status = s.patrol.status ∧
    (grantRefreshReallocate s).patrol.resume = s.patrol.resume ∧
    (grantRefreshReallocate s).patrol.quietTimer = s.patrol.quietTimer ∧
    (grantRefreshReallocate s).patrol.quietElapsed = s.patrol.quietElapsed ∧
    (grantRefreshReallocate s).patrol.gapTimer = s.patrol.gapTimer ∧
    (grantRefreshReallocate s).patrol.bgRead = s.patrol.bgRead ∧
    (grantRefreshReallocate s).patrol.buf = s.patrol.buf := by
  unfold grantRefreshReallocate
  (try dsimp only)
  (repeat' split) <;> simp

@[simp] theorem grantRefreshRead_keeps (s : State) :
    (grantRefreshRead s).rstnLow = s.rstnLow ∧ (grantRefreshRead s).lastRead = s.lastRead ∧
    (grantRefreshRead s).req = s.req ∧ (grantRefreshRead s).pool = s.pool ∧ (grantRefreshRead s).port = s.port ∧
    (grantRefreshRead s).svc = s.svc ∧ (grantRefreshRead s).jrnl = s.jrnl ∧ (grantRefreshRead s).cond = s.cond ∧
    (grantRefreshRead s).cmd = s.cmd ∧ (grantRefreshRead s).cfg = s.cfg ∧ (grantRefreshRead s).attn = s.attn ∧
    (grantRefreshRead s).freeDraws = s.freeDraws ∧ (grantRefreshRead s).pending = s.pending ∧
    (grantRefreshRead s).array.blocks = s.array.blocks ∧ (grantRefreshRead s).array.ring = s.array.ring ∧
    (grantRefreshRead s).map.remap = s.map.remap ∧ (grantRefreshRead s).map.retired = s.map.retired ∧
    (grantRefreshRead s).map.pendingLbns = s.map.pendingLbns ∧ (grantRefreshRead s).map.overflow = s.map.overflow ∧
    (grantRefreshRead s).patrol.state = s.patrol.state ∧ (grantRefreshRead s).patrol.mode = s.patrol.mode ∧
    (grantRefreshRead s).patrol.status = s.patrol.status ∧ (grantRefreshRead s).patrol.resume = s.patrol.resume ∧
    (grantRefreshRead s).patrol.quietTimer = s.patrol.quietTimer ∧
    (grantRefreshRead s).patrol.quietElapsed = s.patrol.quietElapsed ∧
    (grantRefreshRead s).patrol.gapTimer = s.patrol.gapTimer ∧ (grantRefreshRead s).patrol.buf = s.patrol.buf ∧
    (grantRefreshRead s).patrol.refreshBlock = s.patrol.refreshBlock := by
  unfold grantRefreshRead
  (try dsimp only)
  (repeat' split) <;> simp

@[simp] theorem grantPatrolRead_keeps (s : State) :
    (grantPatrolRead s).rstnLow = s.rstnLow ∧ (grantPatrolRead s).lastRead = s.lastRead ∧
    (grantPatrolRead s).req = s.req ∧ (grantPatrolRead s).pool = s.pool ∧ (grantPatrolRead s).port = s.port ∧
    (grantPatrolRead s).svc = s.svc ∧ (grantPatrolRead s).map = s.map ∧ (grantPatrolRead s).jrnl = s.jrnl ∧
    (grantPatrolRead s).cond = s.cond ∧ (grantPatrolRead s).cmd = s.cmd ∧ (grantPatrolRead s).cfg = s.cfg ∧
    (grantPatrolRead s).attn = s.attn ∧ (grantPatrolRead s).freeDraws = s.freeDraws ∧
    (grantPatrolRead s).pending = s.pending ∧ (grantPatrolRead s).array.blocks = s.array.blocks ∧
    (grantPatrolRead s).array.ring = s.array.ring ∧ (grantPatrolRead s).patrol.state = s.patrol.state ∧
    (grantPatrolRead s).patrol.mode = s.patrol.mode ∧ (grantPatrolRead s).patrol.status = s.patrol.status ∧
    (grantPatrolRead s).patrol.resume = s.patrol.resume ∧
    (grantPatrolRead s).patrol.quietTimer = s.patrol.quietTimer ∧
    (grantPatrolRead s).patrol.quietElapsed = s.patrol.quietElapsed ∧
    (grantPatrolRead s).patrol.gapTimer = s.patrol.gapTimer ∧ (grantPatrolRead s).patrol.buf = s.patrol.buf ∧
    (grantPatrolRead s).patrol.refreshBlock = s.patrol.refreshBlock := by
  unfold grantPatrolRead
  (try dsimp only)
  simp

@[simp] theorem applyGrant_keeps (g : Grant) (s : State) :
    (applyGrant g s).rstnLow = s.rstnLow ∧ (applyGrant g s).lastRead = s.lastRead ∧ (applyGrant g s).port = s.port ∧
    (applyGrant g s).svc = s.svc ∧ (applyGrant g s).cond = s.cond ∧ (applyGrant g s).cmd = s.cmd ∧
    (applyGrant g s).cfg = s.cfg ∧ (applyGrant g s).attn = s.attn ∧ (applyGrant g s).freeDraws = s.freeDraws ∧
    (applyGrant g s).pending = s.pending ∧ (applyGrant g s).req.queue = s.req.queue ∧
    (applyGrant g s).req.arrival = s.req.arrival ∧ (applyGrant g s).req.qlbn = s.req.qlbn ∧
    (applyGrant g s).req.qcount = s.req.qcount ∧ (applyGrant g s).req.qctrl = s.req.qctrl ∧
    (applyGrant g s).req.qresult = s.req.qresult ∧ (applyGrant g s).req.qresultTag = s.req.qresultTag ∧
    (applyGrant g s).req.qabort = s.req.qabort ∧ (applyGrant g s).req.abortIgnored = s.req.abortIgnored ∧
    (applyGrant g s).array.blocks = s.array.blocks ∧ (applyGrant g s).array.ring = s.array.ring ∧
    (applyGrant g s).map.remap = s.map.remap ∧ (applyGrant g s).map.retired = s.map.retired ∧
    (applyGrant g s).map.pendingLbns = s.map.pendingLbns ∧ (applyGrant g s).map.overflow = s.map.overflow ∧
    (applyGrant g s).patrol.state = s.patrol.state ∧ (applyGrant g s).patrol.mode = s.patrol.mode ∧
    (applyGrant g s).patrol.status = s.patrol.status ∧ (applyGrant g s).patrol.resume = s.patrol.resume ∧
    (applyGrant g s).patrol.quietTimer = s.patrol.quietTimer ∧
    (applyGrant g s).patrol.quietElapsed = s.patrol.quietElapsed ∧
    (applyGrant g s).patrol.gapTimer = s.patrol.gapTimer ∧ (applyGrant g s).patrol.buf = s.patrol.buf ∧
    (applyGrant g s).jrnl.mode = s.jrnl.mode ∧ (applyGrant g s).jrnl.lastDone = s.jrnl.lastDone ∧
    (applyGrant g s).jrnl.nextPos = s.jrnl.nextPos ∧ (applyGrant g s).jrnl.candidate = s.jrnl.candidate := by
  cases g <;> simp [applyGrant]

@[simp] theorem arbitrate_keeps (s : State) :
    (arbitrate s).rstnLow = s.rstnLow ∧ (arbitrate s).lastRead = s.lastRead ∧ (arbitrate s).port = s.port ∧
    (arbitrate s).svc = s.svc ∧ (arbitrate s).cond = s.cond ∧ (arbitrate s).cmd = s.cmd ∧ (arbitrate s).cfg = s.cfg ∧
    (arbitrate s).attn = s.attn ∧ (arbitrate s).freeDraws = s.freeDraws ∧ (arbitrate s).pending = s.pending ∧
    (arbitrate s).req.queue = s.req.queue ∧ (arbitrate s).req.arrival = s.req.arrival ∧
    (arbitrate s).req.qlbn = s.req.qlbn ∧ (arbitrate s).req.qcount = s.req.qcount ∧
    (arbitrate s).req.qctrl = s.req.qctrl ∧ (arbitrate s).req.qresult = s.req.qresult ∧
    (arbitrate s).req.qresultTag = s.req.qresultTag ∧ (arbitrate s).req.qabort = s.req.qabort ∧
    (arbitrate s).req.abortIgnored = s.req.abortIgnored ∧ (arbitrate s).array.blocks = s.array.blocks ∧
    (arbitrate s).array.ring = s.array.ring ∧ (arbitrate s).map.remap = s.map.remap ∧
    (arbitrate s).map.retired = s.map.retired ∧ (arbitrate s).map.pendingLbns = s.map.pendingLbns ∧
    (arbitrate s).map.overflow = s.map.overflow ∧ (arbitrate s).patrol.state = s.patrol.state ∧
    (arbitrate s).patrol.mode = s.patrol.mode ∧ (arbitrate s).patrol.status = s.patrol.status ∧
    (arbitrate s).patrol.resume = s.patrol.resume ∧ (arbitrate s).patrol.quietTimer = s.patrol.quietTimer ∧
    (arbitrate s).patrol.quietElapsed = s.patrol.quietElapsed ∧ (arbitrate s).patrol.gapTimer = s.patrol.gapTimer ∧
    (arbitrate s).patrol.buf = s.patrol.buf ∧ (arbitrate s).jrnl.mode = s.jrnl.mode ∧
    (arbitrate s).jrnl.lastDone = s.jrnl.lastDone ∧ (arbitrate s).jrnl.nextPos = s.jrnl.nextPos ∧
    (arbitrate s).jrnl.candidate = s.jrnl.candidate := by
  unfold arbitrate
  (repeat' split) <;> simp

@[simp] theorem settle_keeps (s₀ s : State) :
    (settle s₀ s).rstnLow = s.rstnLow ∧ (settle s₀ s).lastRead = s.lastRead ∧ (settle s₀ s).port = s.port ∧
    (settle s₀ s).cond = s.cond ∧ (settle s₀ s).cmd = s.cmd ∧ (settle s₀ s).cfg = s.cfg ∧
    (settle s₀ s).freeDraws = s.freeDraws ∧ (settle s₀ s).pending = s.pending ∧ (settle s₀ s).req.qlbn = s.req.qlbn ∧
    (settle s₀ s).req.qcount = s.req.qcount ∧ (settle s₀ s).req.qctrl = s.req.qctrl ∧
    (settle s₀ s).req.qresult = s.req.qresult ∧ (settle s₀ s).req.qresultTag = s.req.qresultTag ∧
    (settle s₀ s).req.qabort = s.req.qabort ∧ (settle s₀ s).req.abortIgnored = s.req.abortIgnored ∧
    (settle s₀ s).svc.readout = s.svc.readout ∧ (settle s₀ s).array.blocks = s.array.blocks ∧
    (settle s₀ s).array.ring = s.array.ring ∧ (settle s₀ s).map.remap = s.map.remap ∧
    (settle s₀ s).map.retired = s.map.retired ∧ (settle s₀ s).map.pendingLbns = s.map.pendingLbns ∧
    (settle s₀ s).map.overflow = s.map.overflow ∧ (settle s₀ s).patrol.mode = s.patrol.mode ∧
    (settle s₀ s).patrol.status = s.patrol.status ∧ (settle s₀ s).patrol.resume = s.patrol.resume ∧
    (settle s₀ s).patrol.gapTimer = s.patrol.gapTimer ∧ (settle s₀ s).patrol.buf = s.patrol.buf ∧
    (settle s₀ s).jrnl.mode = s.jrnl.mode ∧ (settle s₀ s).jrnl.lastDone = s.jrnl.lastDone ∧
    (settle s₀ s).jrnl.nextPos = s.jrnl.nextPos ∧ (settle s₀ s).jrnl.candidate = s.jrnl.candidate ∧
    (settle s₀ s).attn.enable = s.attn.enable := by
  unfold settle
  simp

@[simp] theorem passEnd_keeps (s : State) :
    (passEnd s).rstnLow = s.rstnLow ∧ (passEnd s).lastRead = s.lastRead ∧ (passEnd s).req = s.req ∧
    (passEnd s).pool = s.pool ∧ (passEnd s).port = s.port ∧ (passEnd s).svc = s.svc ∧ (passEnd s).array = s.array ∧
    (passEnd s).map = s.map ∧ (passEnd s).cmd = s.cmd ∧ (passEnd s).cfg = s.cfg ∧
    (passEnd s).freeDraws = s.freeDraws ∧ (passEnd s).pending = s.pending ∧
    (passEnd s).patrol.state = s.patrol.state ∧ (passEnd s).patrol.mode = s.patrol.mode ∧
    (passEnd s).patrol.resume = s.patrol.resume ∧ (passEnd s).patrol.quietTimer = s.patrol.quietTimer ∧
    (passEnd s).patrol.quietElapsed = s.patrol.quietElapsed ∧ (passEnd s).patrol.gapTimer = s.patrol.gapTimer ∧
    (passEnd s).patrol.bgRead = s.patrol.bgRead ∧ (passEnd s).patrol.buf = s.patrol.buf ∧
    (passEnd s).patrol.refreshBlock = s.patrol.refreshBlock ∧ (passEnd s).jrnl.mode = s.jrnl.mode ∧
    (passEnd s).jrnl.lastStarted = s.jrnl.lastStarted ∧ (passEnd s).jrnl.lastDone = s.jrnl.lastDone ∧
    (passEnd s).jrnl.nextPos = s.jrnl.nextPos ∧ (passEnd s).jrnl.commit = s.jrnl.commit ∧
    (passEnd s).jrnl.imageBuffer = s.jrnl.imageBuffer ∧ (passEnd s).jrnl.candidate = s.jrnl.candidate ∧
    (passEnd s).jrnl.scanNext = s.jrnl.scanNext ∧ (passEnd s).attn.enable = s.attn.enable := by
  unfold passEnd
  simp

@[simp] theorem startGap_keeps (s : State) :
    (startGap s).rstnLow = s.rstnLow ∧ (startGap s).lastRead = s.lastRead ∧ (startGap s).req = s.req ∧
    (startGap s).pool = s.pool ∧ (startGap s).port = s.port ∧ (startGap s).svc = s.svc ∧
    (startGap s).array = s.array ∧ (startGap s).map = s.map ∧ (startGap s).jrnl = s.jrnl ∧
    (startGap s).cond = s.cond ∧ (startGap s).cmd = s.cmd ∧ (startGap s).cfg = s.cfg ∧ (startGap s).attn = s.attn ∧
    (startGap s).freeDraws = s.freeDraws ∧ (startGap s).pending = s.pending ∧
    (startGap s).patrol.mode = s.patrol.mode ∧ (startGap s).patrol.resume = s.patrol.resume ∧
    (startGap s).patrol.quietTimer = s.patrol.quietTimer ∧ (startGap s).patrol.quietElapsed = s.patrol.quietElapsed ∧
    (startGap s).patrol.bgRead = s.patrol.bgRead ∧ (startGap s).patrol.buf = s.patrol.buf ∧
    (startGap s).patrol.refreshBlock = s.patrol.refreshBlock := by
  unfold startGap
  (repeat' split) <;> (repeat' apply And.intro) <;> rfl

@[simp] theorem testEnds_keeps (n : Nat) (s : State) :
    (testEnds n s).rstnLow = s.rstnLow ∧ (testEnds n s).lastRead = s.lastRead ∧ (testEnds n s).port = s.port ∧
    (testEnds n s).svc = s.svc ∧ (testEnds n s).array = s.array ∧ (testEnds n s).cfg = s.cfg ∧
    (testEnds n s).freeDraws = s.freeDraws ∧ (testEnds n s).pending = s.pending ∧
    (testEnds n s).req.queue = s.req.queue ∧ (testEnds n s).req.arrival = s.req.arrival ∧
    (testEnds n s).req.qlbn = s.req.qlbn ∧ (testEnds n s).req.qcount = s.req.qcount ∧
    (testEnds n s).req.qctrl = s.req.qctrl ∧ (testEnds n s).req.qresult = s.req.qresult ∧
    (testEnds n s).req.qresultTag = s.req.qresultTag ∧ (testEnds n s).req.qabort = s.req.qabort ∧
    (testEnds n s).req.abortIgnored = s.req.abortIgnored ∧ (testEnds n s).map.remap = s.map.remap ∧
    (testEnds n s).map.retired = s.map.retired ∧ (testEnds n s).patrol.quietTimer = s.patrol.quietTimer ∧
    (testEnds n s).patrol.quietElapsed = s.patrol.quietElapsed ∧
    (testEnds n s).jrnl.lastStarted = s.jrnl.lastStarted ∧ (testEnds n s).jrnl.lastDone = s.jrnl.lastDone ∧
    (testEnds n s).jrnl.nextPos = s.jrnl.nextPos ∧ (testEnds n s).jrnl.commit = s.jrnl.commit ∧
    (testEnds n s).jrnl.imageBuffer = s.jrnl.imageBuffer ∧ (testEnds n s).jrnl.candidate = s.jrnl.candidate ∧
    (testEnds n s).jrnl.scanNext = s.jrnl.scanNext ∧ (testEnds n s).cmd.buffer = s.cmd.buffer ∧
    (testEnds n s).cmd.rptr = s.cmd.rptr ∧ (testEnds n s).attn.enable = s.attn.enable := by
  unfold testEnds
  (repeat' split) <;> simp

@[simp] theorem beginPatrol_keeps (m : PatrolMode) (s : State) :
    (beginPatrol m s).rstnLow = s.rstnLow ∧ (beginPatrol m s).lastRead = s.lastRead ∧ (beginPatrol m s).req = s.req ∧
    (beginPatrol m s).pool = s.pool ∧ (beginPatrol m s).port = s.port ∧ (beginPatrol m s).svc = s.svc ∧
    (beginPatrol m s).array = s.array ∧ (beginPatrol m s).map = s.map ∧ (beginPatrol m s).jrnl = s.jrnl ∧
    (beginPatrol m s).cond = s.cond ∧ (beginPatrol m s).cmd = s.cmd ∧ (beginPatrol m s).cfg = s.cfg ∧
    (beginPatrol m s).attn = s.attn ∧ (beginPatrol m s).freeDraws = s.freeDraws ∧
    (beginPatrol m s).pending = s.pending ∧ (beginPatrol m s).patrol.resume = s.patrol.resume ∧
    (beginPatrol m s).patrol.quietTimer = s.patrol.quietTimer ∧
    (beginPatrol m s).patrol.quietElapsed = s.patrol.quietElapsed ∧
    (beginPatrol m s).patrol.bgRead = s.patrol.bgRead ∧ (beginPatrol m s).patrol.buf = s.patrol.buf ∧
    (beginPatrol m s).patrol.refreshBlock = s.patrol.refreshBlock := by
  unfold beginPatrol
  (repeat' apply And.intro) <;> rfl

@[simp] theorem startPatrol_keeps (m : PatrolMode) (s : State) :
    (startPatrol m s).rstnLow = s.rstnLow ∧ (startPatrol m s).lastRead = s.lastRead ∧ (startPatrol m s).req = s.req ∧
    (startPatrol m s).pool = s.pool ∧ (startPatrol m s).port = s.port ∧ (startPatrol m s).svc = s.svc ∧
    (startPatrol m s).array = s.array ∧ (startPatrol m s).map = s.map ∧ (startPatrol m s).jrnl = s.jrnl ∧
    (startPatrol m s).cond = s.cond ∧ (startPatrol m s).cmd = s.cmd ∧ (startPatrol m s).cfg = s.cfg ∧
    (startPatrol m s).attn = s.attn ∧ (startPatrol m s).freeDraws = s.freeDraws ∧
    (startPatrol m s).pending = s.pending ∧ (startPatrol m s).patrol.resume = s.patrol.resume ∧
    (startPatrol m s).patrol.quietTimer = s.patrol.quietTimer ∧
    (startPatrol m s).patrol.quietElapsed = s.patrol.quietElapsed ∧
    (startPatrol m s).patrol.bgRead = s.patrol.bgRead ∧ (startPatrol m s).patrol.buf = s.patrol.buf ∧
    (startPatrol m s).patrol.refreshBlock = s.patrol.refreshBlock := by
  unfold startPatrol
  (try dsimp only)
  (repeat' split) <;> simp

@[simp] theorem stopPatrol_keeps (s : State) :
    (stopPatrol s).rstnLow = s.rstnLow ∧ (stopPatrol s).lastRead = s.lastRead ∧ (stopPatrol s).req = s.req ∧
    (stopPatrol s).pool = s.pool ∧ (stopPatrol s).port = s.port ∧ (stopPatrol s).svc = s.svc ∧
    (stopPatrol s).array = s.array ∧ (stopPatrol s).map = s.map ∧ (stopPatrol s).jrnl = s.jrnl ∧
    (stopPatrol s).cond = s.cond ∧ (stopPatrol s).cmd = s.cmd ∧ (stopPatrol s).cfg = s.cfg ∧
    (stopPatrol s).freeDraws = s.freeDraws ∧ (stopPatrol s).pending = s.pending ∧
    (stopPatrol s).patrol.resume = s.patrol.resume ∧ (stopPatrol s).patrol.quietTimer = s.patrol.quietTimer ∧
    (stopPatrol s).patrol.quietElapsed = s.patrol.quietElapsed ∧ (stopPatrol s).patrol.bgRead = s.patrol.bgRead ∧
    (stopPatrol s).patrol.buf = s.patrol.buf ∧ (stopPatrol s).patrol.refreshBlock = s.patrol.refreshBlock ∧
    (stopPatrol s).attn.enable = s.attn.enable := by
  unfold stopPatrol
  (try dsimp only)
  (repeat' split) <;> simp

@[simp] theorem gapOver_keeps (s : State) :
    (gapOver s).rstnLow = s.rstnLow ∧ (gapOver s).lastRead = s.lastRead ∧ (gapOver s).req = s.req ∧
    (gapOver s).pool = s.pool ∧ (gapOver s).port = s.port ∧ (gapOver s).svc = s.svc ∧ (gapOver s).array = s.array ∧
    (gapOver s).map = s.map ∧ (gapOver s).jrnl = s.jrnl ∧ (gapOver s).cond = s.cond ∧ (gapOver s).cmd = s.cmd ∧
    (gapOver s).cfg = s.cfg ∧ (gapOver s).attn = s.attn ∧ (gapOver s).freeDraws = s.freeDraws ∧
    (gapOver s).pending = s.pending ∧ (gapOver s).patrol.mode = s.patrol.mode ∧
    (gapOver s).patrol.resume = s.patrol.resume ∧ (gapOver s).patrol.quietTimer = s.patrol.quietTimer ∧
    (gapOver s).patrol.quietElapsed = s.patrol.quietElapsed ∧ (gapOver s).patrol.bgRead = s.patrol.bgRead ∧
    (gapOver s).patrol.buf = s.patrol.buf ∧ (gapOver s).patrol.refreshBlock = s.patrol.refreshBlock := by
  unfold gapOver
  (repeat' apply And.intro) <;> rfl

end Sys2Proof.Machine
end

