-- ==== Sys2Proof/Laws/Memory.lean ====
section
/-! SUPPORT. Storage by number: what a read returns after each operation, and the canonical form that each one keeps. -/
namespace Sys2Proof.Machine
set_option Elab.async false

theorem Memory.find_put_same {α : Type} (m : Memory α) (a : Nat) (v : α) : (m.put a v).find a = some v := by
  induction m with
  | nil => simp [put, find]
  | cons e m ih =>
    obtain ⟨b, w⟩ := e
    simp only [put]
    split
    · simp [find]
    · split
      · simp [find]
      · rename_i h1 h2
        simp [find, Ne.symm h2, ih]

theorem Memory.find_put_other {α : Type} (m : Memory α) (a b : Nat) (v : α) (h : b ≠ a) :
    (m.put a v).find b = m.find b := by
  induction m with
  | nil => simp [put, find, Ne.symm h]
  | cons e m ih =>
    obtain ⟨c, w⟩ := e
    simp only [put]
    split
    · simp [find, Ne.symm h]
    · split
      · rename_i h1 h2
        subst h2
        simp [find, Ne.symm h]
      · simp only [find, ih]

theorem Memory.find_drop_other {α : Type} (m : Memory α) (a b : Nat) (h : b ≠ a) : (m.drop a).find b = m.find b := by
  induction m with
  | nil => rfl
  | cons e m ih =>
    obtain ⟨c, w⟩ := e
    simp only [drop]
    split
    · rename_i hc
      subst hc
      simp [find, Ne.symm h]
    · simp only [find, ih]

/-- The canonical form says that every number in the tail stands above the head's. -/
theorem Memory.wf_cons {α : Type} (a : Nat) (v : α) (m : Memory α) :
    Memory.wf ((a, v) :: m) = true ↔ (∀ e ∈ m, a < e.1) ∧ Memory.wf m = true := by
  induction m generalizing a v with
  | nil => simp [wf]
  | cons e m ih =>
    obtain ⟨b, w⟩ := e
    have hb := ih b w
    simp only [wf, Bool.and_eq_true, decide_eq_true_eq]
    constructor
    · rintro ⟨hab, hm⟩
      refine ⟨?_, hm⟩
      intro e he
      rcases List.mem_cons.1 he with rfl | he
      · exact hab
      · exact lt_trans hab ((hb.1 hm).1 e he)
    · rintro ⟨hall, hm⟩
      exact ⟨hall (b, w) (List.mem_cons_self ..), hm⟩

theorem Memory.find_none_of_below {α : Type} (m : Memory α) (a : Nat) (h : ∀ e ∈ m, a < e.1) : m.find a = none := by
  induction m with
  | nil => rfl
  | cons e m ih =>
    obtain ⟨b, w⟩ := e
    have hb := h (b, w) (List.mem_cons_self ..)
    simp only [find]
    rw [if_neg (Nat.ne_of_gt hb), ih fun e he => h e (List.mem_cons_of_mem _ he)]

theorem Memory.find_drop_same {α : Type} (m : Memory α) (a : Nat) (h : m.wf = true) : (m.drop a).find a = none := by
  induction m with
  | nil => rfl
  | cons e m ih =>
    obtain ⟨b, w⟩ := e
    have hm := (wf_cons b w m).1 h
    simp only [drop]
    split
    · rename_i hb
      subst hb
      exact find_none_of_below m b hm.1
    · rename_i hb
      simp [find, hb, ih hm.2]

theorem Memory.mem_put {α : Type} (m : Memory α) (a : Nat) (v : α) (e : Nat × α) (h : e ∈ m.put a v) :
    e = (a, v) ∨ e ∈ m := by
  induction m with
  | nil => simpa [put] using h
  | cons e' m ih =>
    obtain ⟨b, w⟩ := e'
    simp only [put] at h
    split at h
    · simpa using h
    · split at h
      · rcases List.mem_cons.1 h with h | h
        · exact .inl h
        · exact .inr (List.mem_cons_of_mem _ h)
      · rcases List.mem_cons.1 h with h | h
        · exact .inr (h ▸ List.mem_cons_self ..)
        · rcases ih h with h | h
          · exact .inl h
          · exact .inr (List.mem_cons_of_mem _ h)

theorem Memory.mem_of_mem_drop {α : Type} (m : Memory α) (a : Nat) (e : Nat × α) (h : e ∈ m.drop a) : e ∈ m := by
  induction m with
  | nil => exact h
  | cons e' m ih =>
    obtain ⟨b, w⟩ := e'
    simp only [drop] at h
    split at h
    · exact List.mem_cons_of_mem _ h
    · rcases List.mem_cons.1 h with h | h
      · exact h ▸ List.mem_cons_self ..
      · exact List.mem_cons_of_mem _ (ih h)

/-- A store keeps the canonical form. -/
theorem Memory.put_wf {α : Type} (m : Memory α) (a : Nat) (v : α) (h : m.wf = true) : (m.put a v).wf = true := by
  induction m with
  | nil => rfl
  | cons e m ih =>
    obtain ⟨b, w⟩ := e
    have hm := (wf_cons b w m).1 h
    simp only [put]
    split
    · rename_i hab
      refine (wf_cons a v _).2 ⟨fun e he => ?_, h⟩
      rcases List.mem_cons.1 he with rfl | he
      · exact hab
      · exact lt_trans hab (hm.1 e he)
    · split
      · rename_i hab
        subst hab
        exact (wf_cons a v m).2 hm
      · rename_i h1 h2
        refine (wf_cons b w _).2 ⟨fun e he => ?_, ih hm.2⟩
        rcases mem_put m a v e he with rfl | he
        · exact lt_of_le_of_ne (Nat.le_of_not_lt h1) (Ne.symm h2)
        · exact hm.1 e he

/-- A removal keeps the canonical form. -/
theorem Memory.drop_wf {α : Type} (m : Memory α) (a : Nat) (h : m.wf = true) : (m.drop a).wf = true := by
  induction m with
  | nil => rfl
  | cons e m ih =>
    obtain ⟨b, w⟩ := e
    have hm := (wf_cons b w m).1 h
    simp only [drop]
    split
    · exact hm.2
    · exact (wf_cons b w _).2 ⟨fun e he => hm.1 e (mem_of_mem_drop m a e he), ih hm.2⟩

/-- Equal memories are equal data: two canonical memories that read alike are the same list. -/
theorem Memory.ext_of_wf {α : Type} (m₁ m₂ : Memory α) (h₁ : m₁.wf = true) (h₂ : m₂.wf = true)
    (h : ∀ a, m₁.find a = m₂.find a) : m₁ = m₂ := by
  induction m₁ generalizing m₂ with
  | nil =>
    cases m₂ with
    | nil => rfl
    | cons e m₂ =>
      obtain ⟨b, w⟩ := e
      have := h b
      simp [find] at this
  | cons e m₁ ih =>
    obtain ⟨a, v⟩ := e
    have w₁ := (wf_cons a v m₁).1 h₁
    cases m₂ with
    | nil =>
      have := h a
      simp [find] at this
    | cons e m₂ =>
      obtain ⟨b, w⟩ := e
      have w₂ := (wf_cons b w m₂).1 h₂
      have hab : a = b := by
        rcases lt_trichotomy a b with hlt | heq | hgt
        · have hn : Memory.find ((b, w) :: m₂) a = none := by
            apply find_none_of_below
            intro e he
            rcases List.mem_cons.1 he with rfl | he
            · exact hlt
            · exact lt_trans hlt (w₂.1 e he)
          have := h a
          rw [hn] at this
          simp [find] at this
        · exact heq
        · have hn : Memory.find ((a, v) :: m₁) b = none := by
            apply find_none_of_below
            intro e he
            rcases List.mem_cons.1 he with rfl | he
            · exact hgt
            · exact lt_trans hgt (w₁.1 e he)
          have := h b
          rw [hn] at this
          simp [find] at this
      subst hab
      have hv : v = w := by
        have := h a
        simpa [find] using this
      subst hv
      rw [ih m₂ w₁.2 w₂.2]
      intro c
      by_cases hc : a = c
      · subst hc
        rw [find_none_of_below m₁ a w₁.1, find_none_of_below m₂ a w₂.1]
      · have := h c
        simpa [find, hc] using this

/-! ## The operations over the array and the remap table -/

/-- The end of a program keeps the canonical form of the array (R66). -/
theorem storeProgram_wf (o : ArrayOp) (out : ProgramOutcome) (a : ArrayUnit) (hb : a.blocks.wf = true)
    (hr : a.ring.wf = true) :
    Memory.wf (storeProgram o out a).blocks = true ∧ Memory.wf (storeProgram o out a).ring = true := by
  unfold storeProgram
  split
  · exact ⟨Memory.put_wf _ _ _ hb, hr⟩
  · exact ⟨hb, Memory.put_wf _ _ _ hr⟩
  · exact ⟨Memory.drop_wf _ _ hb, Memory.drop_wf _ _ hr⟩
  · exact ⟨Memory.drop_wf _ _ hb, Memory.drop_wf _ _ hr⟩

/-- The loss of power keeps it too (R76). -/
theorem losePower_wf (a : ArrayUnit) (hb : a.blocks.wf = true) (hr : a.ring.wf = true) :
    Memory.wf (losePower a).blocks = true ∧ Memory.wf (losePower a).ring = true := by
  unfold losePower
  cases a.op with
  | none => exact ⟨hb, hr⟩
  | some o =>
    dsimp only
    split
    · exact ⟨Memory.drop_wf _ _ hb, Memory.drop_wf _ _ hr⟩
    · exact ⟨hb, hr⟩

/-- A new remap entry keeps the remap table's (R100, R104). -/
theorem remapTo_wf (lbn pbn : Nat) (s : State) (h : s.map.remap.wf = true) :
    Memory.wf (remapTo lbn pbn s).map.remap = true := by
  unfold remapTo
  dsimp only
  split
  · exact Memory.put_wf _ _ _ h
  · exact Memory.put_wf _ _ _ h

/-- The state in power-on reset lists nothing. -/
theorem reset_lists_nothing :
    State.reset.array.blocks = [] ∧ State.reset.array.ring = [] ∧ State.reset.map.remap = [] := ⟨rfl, rfl, rfl⟩

end Sys2Proof.Machine
end

