-- ==== Sys2Proof/Laws/Ops.lean ====
section
/-! SUPPORT. What the shared operations do: one specification for each, for proofs to cite instead of unfolding. -/
namespace Sys2Proof.Machine
set_option Elab.async false

/-! ## Records of tags, slots and conditions after an update -/

@[simp] theorem setTag_tag_same (s : State) (t : TagNo) (x : Tag) : (s.setTag t x).tag t = x := by
  simp [State.setTag, State.tag]

theorem setTag_tag_other (s : State) (t u : TagNo) (x : Tag) (h : u ≠ t) : (s.setTag t x).tag u = s.tag u := by
  simp only [State.setTag, State.tag, Fin.getElem_fin]
  exact Vector.getElem_set_ne _ _ fun e => h (Fin.ext e.symm)

theorem setTag_tag (s : State) (t u : TagNo) (x : Tag) : (s.setTag t x).tag u = if u = t then x else s.tag u := by
  split
  · rename_i h
    simp [h]
  · rename_i h
    exact setTag_tag_other s t u x h

theorem modTag_tag (s : State) (t u : TagNo) (f : Tag → Tag) :
    (s.modTag t f).tag u = if u = t then f (s.tag t) else s.tag u := setTag_tag s t u _

@[simp] theorem setSlot_slot_same (s : State) (n : SlotNo) (x : Slot) : (s.setSlot n x).slot n = x := by
  simp [State.setSlot, State.slot]

theorem setSlot_slot_other (s : State) (n m : SlotNo) (x : Slot) (h : m ≠ n) : (s.setSlot n x).slot m = s.slot m := by
  simp only [State.setSlot, State.slot, Fin.getElem_fin]
  exact Vector.getElem_set_ne _ _ fun e => h (Fin.ext e.symm)

theorem setSlot_slot (s : State) (n m : SlotNo) (x : Slot) :
    (s.setSlot n x).slot m = if m = n then x else s.slot m := by
  split
  · rename_i h
    simp [h]
  · rename_i h
    exact setSlot_slot_other s n m x h

@[simp] theorem setTag_slot (s : State) (t : TagNo) (x : Tag) (n : SlotNo) : (s.setTag t x).slot n = s.slot n := rfl

@[simp] theorem setSlot_tag (s : State) (n : SlotNo) (x : Slot) (t : TagNo) : (s.setSlot n x).tag t = s.tag t := rfl

theorem freeSlotsOf_slot (t : TagNo) (p : SlotState → Bool) (s : State) (n : SlotNo) :
    (freeSlotsOf t p s).slot n = if (s.slot n).owner == some t && p (s.slot n).state then Slot.free else s.slot n := by
  simp [freeSlotsOf, State.slot]

theorem finish_tag (t u : TagNo) (st : Status) (s : State) :
    (finish t st s).tag u =
      if u = t then { s.tag t with state := .done, final := some st, blockers := [], cur := none, prog := none }
      else s.tag u := modTag_tag _ t u _

theorem finish_slot (t : TagNo) (st : Status) (s : State) (n : SlotNo) :
    (finish t st s).slot n = if (s.slot n).owner == some t then Slot.free else s.slot n := by
  have h : (finish t st s).slot n = (freeSlotsOf t (fun _ => true) s).slot n := rfl
  rw [h, freeSlotsOf_slot]
  simp

theorem setCond_same (s : State) (i : CondId) (c : Condition) : (s.setCond i c).cond[i] = c := by
  simp [State.setCond]

theorem setCond_other (s : State) (i j : CondId) (c : Condition) (h : j ≠ i) :
    (s.setCond i c).cond[j] = s.cond[j] := by
  simp only [State.setCond, Fin.getElem_fin]
  exact Vector.getElem_set_ne _ _ fun e => h (Fin.ext e.symm)

theorem setRaw_raw (i : CondId) (v : Nat) (c : Condition) : (c.setRaw i v).raw = v := by
  unfold Condition.setRaw
  split
  · rename_i h
    exact h
  · rfl

theorem bump_raw (i : CondId) (c : Condition) : (c.bump i).raw = oneMore c.raw := by
  unfold Condition.bump oneMore
  split
  · rfl
  · exact setRaw_raw ..

/-- A new raw value keeps the grade the grade of its raw value (R172). -/
theorem setRaw_grade (i : CondId) (v : Nat) (c : Condition) (h : c.grade = gradeOf i c.raw) :
    (c.setRaw i v).grade = gradeOf i (c.setRaw i v).raw := by
  unfold Condition.setRaw
  split
  · exact h
  · rfl

/-! ## Causes -/

theorem latch_latched (c : Cause) (s : State) : (latch c s).attn.latched = s.attn.latched ||| c.mask := rfl

theorem latch_keeps_bits (c : Cause) (s : State) (k : Nat) (h : s.attn.latched.getLsbD k = true) :
    (latch c s).attn.latched.getLsbD k = true := by
  simp [latch_latched, h]

theorem latch_sets (c : Cause) (s : State) : (latch c s).attn.latched.getLsbD c.pos = true := by
  cases c <;> simp [latch_latched, Cause.mask, Cause.pos]

/-! ## Lists -/

theorem mem_serviceAppend (t u : TagNo) (s : State) :
    u ∈ (serviceAppend t s).svc.list ↔ u = t ∨ u ∈ s.svc.list := by
  unfold serviceAppend
  split
  · rename_i h
    have ht : t ∈ s.svc.list := by simpa using h
    constructor
    · exact .inr
    · rintro (rfl | hu)
      · exact ht
      · exact hu
  · simp [or_comm]

theorem serviceAppend_nodup (t : TagNo) (s : State) (h : s.svc.list.Nodup) : (serviceAppend t s).svc.list.Nodup := by
  unfold serviceAppend
  split
  · exact h
  · rename_i hn
    have hn : t ∉ s.svc.list := by simpa using hn
    refine List.nodup_append.2 ⟨h, by simp, ?_⟩
    intro a ha b hb
    simp only [List.mem_singleton] at hb
    subst hb
    exact fun e => hn (e ▸ ha)

/-- An offer to the pending list (R119, R122). -/
theorem offerPending_lists (lbn : Nat) (s : State) :
    ((offerPending lbn s).map.pendingLbns, (offerPending lbn s).map.overflow) =
      pendingOffered lbn s.map.pendingLbns s.map.overflow ∧
    (offerPending lbn s).map.refresh = s.map.refresh.erase lbn := by
  unfold offerPending pendingOffered removeRefresh
  by_cases h1 : lbn ∈ s.map.pendingLbns
  · simp [h1]
  · by_cases h2 : s.map.pendingLbns.length < 16
    · simp [h1, h2, setPending, State.setRaw, State.setCond]
    · simp [h1, h2, maxOverflow]

/-- A removal from the pending list (R121). -/
theorem removePending_list (lbn : Nat) (s : State) :
    (removePending lbn s).map.pendingLbns = s.map.pendingLbns.erase lbn := by
  unfold removePending
  split
  · rfl
  · rename_i h
    have h : lbn ∉ s.map.pendingLbns := by simpa using h
    exact (List.erase_of_not_mem h).symm

theorem mem_insertSorted (p q : Nat) (l : List Nat) : q ∈ insertSorted p l ↔ q = p ∨ q ∈ l := by
  induction l with
  | nil => simp [insertSorted]
  | cons a l ih =>
    simp only [insertSorted]
    split
    · simp
    · split
      · rename_i h
        subst h
        simp
      · simp only [List.mem_cons, ih]
        tauto

/-! ## Slot grants: what the lists hold, in the words of the statements -/

theorem mem_slotsOf (s : State) (t : TagNo) (p : SlotState → Bool) (n : SlotNo) :
    n ∈ slotsOf s t p ↔ (s.slot n).owner = some t ∧ p (s.slot n).state = true := by
  simp [slotsOf]

theorem slotsOf_isEmpty (s : State) (t : TagNo) (p : SlotState → Bool) :
    (slotsOf s t p).isEmpty = false ↔ ∃ n, (s.slot n).owner = some t ∧ p (s.slot n).state = true := by
  rw [List.isEmpty_eq_false_iff_exists_mem]
  simp only [mem_slotsOf]

/-- The conditions for a slot but for R32 (R30, R31). -/
theorem wantsSlot_iff (s : State) (n : TagNo) : wantsSlot s n = true ↔ wantsOne s n := by
  have he : (slotsOf s n SlotState.fillable).isEmpty = true ↔
      ∀ k, (s.slot k).owner = some n → (s.slot k).state ≠ .reserved ∧ (s.slot k).state ≠ .filling := by
    rw [List.isEmpty_iff, List.eq_nil_iff_forall_not_mem]
    refine forall_congr' fun k => ?_
    rw [mem_slotsOf, not_and]
    refine imp_congr_right fun _ => ?_
    cases (s.slot k).state <;> simp [SlotState.fillable]
  unfold wantsSlot wantsOne
  dsimp only
  cases (s.tag n).kind <;> simp [and_assoc, he, or_assoc]

/-- The slot-wait list holds the eligible tags (R33). -/
theorem mem_slotWait (s : State) (n : TagNo) : n ∈ slotWait s ↔ eligible s n := by
  have hrun : ((s.req.queue.filter (wantsSlot s)).filter fun t => (s.tag t).state != .held).isEmpty = true ↔
      ∀ u ∈ s.req.queue, (s.tag u).state ≠ .held → ¬ wantsOne s u := by
    rw [List.isEmpty_iff, List.eq_nil_iff_forall_not_mem]
    simp only [List.mem_filter, wantsSlot_iff, bne_iff_ne, ne_eq, not_and]
    constructor
    · exact fun h u hu hs hw => h u ⟨hu, hw⟩ hs
    · exact fun h u hu hs => h u hu.1 hs hu.2
  unfold slotWait eligible
  simp only []
  split
  · rename_i h
    have h := hrun.1 h
    simp only [List.mem_filter, wantsSlot_iff]
    exact ⟨fun ⟨a, b⟩ => ⟨a, b, fun _ => h⟩, fun ⟨a, b, _⟩ => ⟨a, b⟩⟩
  · rename_i h
    simp only [List.mem_filter, wantsSlot_iff, bne_iff_ne, ne_eq]
    constructor
    · rintro ⟨⟨a, b⟩, c⟩
      exact ⟨a, b, fun e => absurd e c⟩
    · rintro ⟨a, b, c⟩
      refine ⟨⟨a, b⟩, fun e => h (hrun.2 (c e))⟩

theorem mem_freeSlots (s : State) (k : SlotNo) : k ∈ freeSlots s ↔ (s.slot k).state = .free := by
  simp [freeSlots]

/-- The free-slot list or the slot-wait list is empty (R34). -/
theorem slotsGranted_iff (s : State) : SlotsGranted s ↔ freeSlots s = [] ∨ slotWait s = [] := by
  unfold SlotsGranted
  simp only [List.eq_nil_iff_forall_not_mem, mem_slotWait, mem_freeSlots]

theorem reserveSlot_slot (n : SlotNo) (t : TagNo) (s : State) (m : SlotNo) :
    (reserveSlot n t s).slot m =
      if m = n then { state := .reserved, owner := some t, lbn := none, pos := 0, data := [] } else s.slot m := by
  unfold reserveSlot
  have h : ∀ s' : State, (serviceAppend t s').slot m = s'.slot m := fun s' => by
    unfold serviceAppend
    split <;> rfl
  dsimp only
  split
  · rw [h, setSlot_slot]
  · rw [setSlot_slot]

theorem freeSlots_reserveSlot (n : SlotNo) (t : TagNo) (s : State) :
    freeSlots (reserveSlot n t s) = (freeSlots s).filter (· != n) := by
  unfold freeSlots
  rw [List.filter_filter]
  refine List.filter_congr fun m _ => ?_
  rw [reserveSlot_slot]
  by_cases h : m = n <;> simp [h]

/-- The repeated grant ends with a list empty (R34). -/
theorem grantSlots_done (fuel : Nat) (s : State) (h : (freeSlots s).length ≤ fuel) :
    freeSlots (grantSlots fuel s) = [] ∨ slotWait (grantSlots fuel s) = [] := by
  induction fuel generalizing s with
  | zero => exact .inl (List.eq_nil_of_length_eq_zero (Nat.le_zero.1 h))
  | succ fuel ih =>
    unfold grantSlots
    cases hf : freeSlots s with
    | nil => exact .inl hf
    | cons n ns =>
      cases hw : slotWait s with
      | nil => exact .inr hw
      | cons t ts =>
        refine ih _ (Nat.le_of_lt_succ (Nat.lt_of_lt_of_le ?_ h))
        rw [freeSlots_reserveSlot]
        exact List.length_filter_lt_length_iff_exists.2 ⟨n, by simp [hf], by simp⟩

theorem grantSlots_granted (s : State) : freeSlots (grantSlots 8 s) = [] ∨ slotWait (grantSlots 8 s) = [] := by
  refine grantSlots_done 8 s (Nat.le_trans (List.length_filter_le _ _) ?_)
  simp

/-! ## The arbiter -/

/-- Journal work is offered exactly when it is due (R69). -/
theorem journalWork_isSome (s : State) : (journalWork s).isSome = true ↔ journalDue s := by
  unfold journalWork journalDue
  cases s.jrnl.scanNext with
  | some p => cases s.jrnl.mode <;> simp
  | none =>
    cases s.jrnl.mode <;> cases s.jrnl.commit <;> cases h : s.jrnl.commitNeeded <;> simp

/-- A tag offers an operation to the arbiter exactly when it can run (R70, R73). -/
theorem tagWork_isSome (s : State) (n : TagNo) : (tagWork s n).isSome = true ↔ canRun s n := by
  have hr : (slotsOf s n (· == .reserved)).isEmpty = false ↔
      ∃ k, (s.slot k).owner = some n ∧ (s.slot k).state = .reserved := by
    rw [slotsOf_isEmpty]
    simp
  have hf : (slotsOf s n (· == .full)).isEmpty = false ↔
      ∃ k, (s.slot k).owner = some n ∧ (s.slot k).state = .full := by
    rw [slotsOf_isEmpty]
    simp
  unfold tagWork canRun canReallocate
  simp only []
  by_cases hst : ((s.tag n).state = .queued ∨ (s.tag n).state = .active) ∧ (s.tag n).abortMark = false ∧
      (s.tag n).wpMark = false
  · have : (!((s.tag n).state == .queued || (s.tag n).state == .active) || (s.tag n).abortMark ||
        (s.tag n).wpMark) = false := by
      rcases hst with ⟨h1 | h1, h2, h3⟩ <;> simp [h1, h2, h3]
    rw [this]
    simp only [hst.1, hst.2.1, hst.2.2, true_and, if_false, Bool.false_eq_true]
    cases (s.tag n).kind with
    | read =>
      rw [← hr]
      cases (s.tag n).cur with
      | some c => cases h : c.retryOwed <;> simp [h]
      | none => cases h : (slotsOf s n (· == .reserved)).isEmpty <;> simp
    | check =>
      cases (s.tag n).cur with
      | some c => cases h : c.retryOwed <;> simp [h]
      | none => by_cases h : (s.tag n).issued < (s.tag n).count <;> simp [h]
    | write =>
      rw [← hf]
      cases s.jrnl.mode <;> cases (s.tag n).prog with
      | some b => cases h : b.owed <;> cases h2 : freeSpares s <;> simp [h]
      | none => cases h : (slotsOf s n (· == .full)).isEmpty <;> simp
    | zero =>
      cases s.jrnl.mode <;> cases (s.tag n).prog with
      | some b => cases h : b.owed <;> cases h2 : freeSpares s <;> simp [h]
      | none => by_cases h : (s.tag n).issued < (s.tag n).count <;> simp [h]
  · have : (!((s.tag n).state == .queued || (s.tag n).state == .active) || (s.tag n).abortMark ||
        (s.tag n).wpMark) = true := by
      cases h1 : (s.tag n).state <;> cases h2 : (s.tag n).abortMark <;> cases h3 : (s.tag n).wpMark <;> simp_all
    rw [this]
    simp only [if_true, Option.isSome_none, Bool.false_eq_true, false_iff]
    rintro ⟨h1, h2, h3, -⟩
    exact hst ⟨h1, h2, h3⟩

theorem arbitrate_busy (s : State) (h : s.array.op ≠ none) : arbitrate s = s := by
  unfold arbitrate
  rw [if_pos]
  cases ho : s.array.op
  · exact absurd ho h
  · rfl

theorem arbitrate_quiet (s : State) (h : choose s = none) : arbitrate s = s := by
  unfold arbitrate
  split
  · rfl
  · rw [h]

theorem arbitrate_grant (s : State) (g : Grant) (h : s.array.op = none) (hg : choose s = some g) :
    arbitrate s = applyGrant g s := by
  unfold arbitrate
  rw [if_neg (by simp [h]), hg]

/-- The arbiter leaves the state as it is, or applies the grant it chose for the idle unit (R68). -/
theorem arbitrate_cases (s : State) :
    arbitrate s = s ∨ ∃ g, s.array.op = none ∧ choose s = some g ∧ arbitrate s = applyGrant g s := by
  cases ho : s.array.op with
  | some o => exact .inl (arbitrate_busy s (by simp [ho]))
  | none =>
    cases hc : choose s with
    | none => exact .inl (arbitrate_quiet s hc)
    | some g => exact .inr ⟨g, rfl, rfl, arbitrate_grant s g ho hc⟩

/-! ## Bus accesses -/

theorem busAccess_high (s : State) (f : State → State) (h : s.rstnLow = false) : busAccess s f = .next (f s) := by
  simp [busAccess, h]

theorem busAccess_low (s : State) (f : State → State) (h : s.rstnLow = true) : busAccess s f = .next s := by
  simp [busAccess, h]

/-- A command that answers a next state is carried out with it. -/
theorem completes_of_eq (c : Instr) (s t : State) (P : State → Prop) (h : exec c s = .next t) (hp : P t) :
    Completes c s P := ⟨t, h, hp⟩

theorem next_inj {s t : State} (h : (Host.Outcome.next s : Result) = .next t) : s = t := by
  injection h

/-! ## Spare exhaustion -/

/-- Spare exhaustion offers the LBN to the pending list, and touches the lists in no other way (R106, R119). -/
theorem exhaust_lists (t : TagNo) (lbn : Nat) (s : State) :
    ((exhaust t lbn s).map.pendingLbns, (exhaust t lbn s).map.overflow) =
      pendingOffered lbn s.map.pendingLbns s.map.overflow ∧
    (exhaust t lbn s).map.refresh = s.map.refresh.erase lbn := by
  have h : (exhaust t lbn s).map = (offerPending lbn s).map := by
    unfold exhaust
    dsimp only
    split <;> rfl
  rw [h]
  exact offerPending_lists lbn s

/-- Spare exhaustion of a tag's block leaves every other tag as it was (R106). -/
theorem exhaust_tag_other (t u : TagNo) (lbn : Nat) (s : State) (h : u ≠ t) : (exhaust t lbn s).tag u = s.tag u := by
  have ho : (offerPending lbn s).tag u = s.tag u := by simp [State.tag]
  rw [← ho]
  unfold exhaust
  dsimp only
  split <;> simp [becomeEnding, finish_tag, modTag_tag, h] <;> rfl

/-- Spare exhaustion frees every slot of the tag, and no other (R106). -/
theorem exhaust_slot (t : TagNo) (lbn : Nat) (s : State) (n : SlotNo) :
    (exhaust t lbn s).slot n = if (s.slot n).owner == some t then Slot.free else s.slot n := by
  have ho : (offerPending lbn s).slot n = s.slot n := by simp [State.slot]
  have h : ∀ (x : State) (f : Tag → Tag), (x.modTag t f).slot n = x.slot n := fun _ _ => rfl
  rw [← ho]
  unfold exhaust
  dsimp only
  split
  · simp [becomeEnding, h, freeSlotsOf_slot]
  · rw [finish_slot, h, freeSlotsOf_slot]
    split <;> simp_all

/-- One tag of the fold that resolves the owed reallocations, with no spare left in a store that is not READ_ONLY: an unmarked
tag that owes one is exhausted, and one that owes none is left alone (R106, R107). -/
theorem resolveOwedTag_spent (s : State) (t : TagNo) (hf : freeSpares s = []) (hm : s.jrnl.mode ≠ .readOnly)
    (hx : ∀ b, (s.tag t).prog = some b → b.owed = true → (s.tag t).abortMark = false ∧ (s.tag t).wpMark = false) :
    resolveOwedTag s t = match owedLbn s t with
      | some l => exhaust t l s
      | none => s := by
  unfold resolveOwedTag owedLbn
  dsimp only
  split
  · rename_i hp
    simp [hp]
  · rename_i b hp
    by_cases hb : b.owed = true
    · simp [hp, hx b hp hb, hb, hf, hm]
    · simp [hp, hb]
/-- While the patrol's or an orphan's program is in flight, no block of a tag owes a reallocation, and of the refresh block
only an owed reallocation of the same LBN is left (R72, R75, R148). -/
theorem noOtherOwes_of_owedOk (s : State) (o : ArrayOp) (l : Nat) (h : OwedOk s) (ho : s.array.op = some o)
    (hr : o.requester = .none ∨ o.requester = .patrol)
    (hl : o.requester = .patrol → ∀ b, s.patrol.refreshBlock = some b → b.lbn = l) : NoOtherOwes s none l := by
  refine ⟨fun u _ _ b hb => h.2.2.1 o ho hr u b hb, fun b hb _ => ?_⟩
  rcases hr with hr | hr
  · rw [h.2.2.2 o ho hr] at hb
    cases hb
  · exact hl hr b hb

end Sys2Proof.Machine
end

