-- ==== Sys2Proof/Tests/Slice0.lean ====
section
/-! SUPPORT. Small tests: the well-formedness checks, one step of each command, and states that meet the hypotheses of the
statements. -/
namespace Sys2Proof.Tests
set_option Elab.async false
open Sys2Proof.Machine

/-! ## Small states -/

/-- The state that a command leads to. -/
def after (c : Instr) (s : State) : State :=
  match exec c s with
  | .next t => t
  | .fault _ | .refused _ => s

/-- The reset state with RSTn high and a store mode. -/
def inMode (m : StoreMode) : State := { State.reset with rstnLow := false, jrnl := { State.reset.jrnl with mode := m } }

/-- READY, with nothing to do. -/
def ready : State := inMode .ready

/-- A request of two blocks from LBN 10. -/
def request (k : Kind) (st : TagState) : Tag := { Tag.free with kind := k, state := st, firstLbn := 10, count := 2 }

/-- Tag 3 is in the queue with a record. -/
def withTag (x : Tag) (s : State) : State := { s.setTag 3 x with req := { (s.setTag 3 x).req with queue := [3] } }

/-- Slot 2 belongs to tag 3. -/
def withSlot (st : SlotState) (pos : Nat) (data : Words) (s : State) : State :=
  s.setSlot 2 { state := st, owner := some 3, lbn := some 10, pos := pos, data := data }

/-- An operation is in flight. -/
def withOp (o : ArrayOp) (s : State) : State := { s with array := { s.array with op := some o } }

/-- A READ BLOCK of LBN 10 for tag 3. -/
def readOf (d : DataPlace) : ArrayOp :=
  { operation := .readBlock, pbn := 10, lbn := some 10, requester := .tag 3, purpose := .load, data := d, payload := .none }

/-- A PROGRAM BLOCK of LBN 10 for tag 3. -/
def programOf (pbn : Nat) (purpose : Purpose) : ArrayOp :=
  { operation := .programBlock, pbn := pbn, lbn := some 10, requester := .tag 3, purpose := purpose, data := .zeroSource,
    payload := .words [1, 2] }

/-- A ring operation at position `p`. -/
def ringOf (operation : Operation) (p : Nat) : ArrayOp :=
  { operation := operation, pbn := 4064 + p, lbn := none, requester := .journal,
    purpose := (match operation with | .readBlock => .ringRead | .programBlock => .ringProgram), data := .imageBuffer,
    payload := .none }

/-- A current block in flight. -/
def current (retries : Nat) : CurrentBlock := { lbn := 10, retries := retries, retryOwed := false, inFlight := true }

/-- A ZERO tag's block in flight. -/
def block (st : Stage) (target : Nat) : BlockInProgram :=
  { lbn := 10, source := .zeroSource, stage := st, target := target, inFlight := true, owed := false }

/-- LBN 20, whose program in place has failed. -/
def owedBlock : BlockInProgram :=
  { lbn := 20, source := .zeroSource, stage := .inPlace, target := 20, inFlight := false, owed := true }

/-- Tag 3, READ, with block 10 being read into slot 2. -/
def reading (retries : Nat) : State :=
  withOp (readOf (.slot 2)) (withSlot .loading 0 []
    (withTag { request .read .active with issued := 1, cur := some (current retries) } ready))

/-- Tag 3, CHECK, with block 10 being read; `done` blocks came before it. -/
def checking (done retries : Nat) : State :=
  withOp (readOf .none)
    (withTag { request .check .active with issued := 1, completed := done, cur := some (current retries) } ready)

/-- Tag 3, ZERO, with block 10 being programmed in place. -/
def zeroing (done : Nat) : State :=
  withOp (programOf 10 .programInPlace)
    (withTag { request .zero .active with issued := 1, completed := done, prog := some (block .inPlace 10) } ready)

/-- Tag 3, ZERO, with block 10 being programmed to spare 3968. -/
def reallocating (done : Nat) : State :=
  withOp (programOf 3968 .reallocation)
    (withTag { request .zero .active with issued := 1, completed := done, prog := some (block .spare 3968) } ready)

/-- A commit of sequence 1 at an attempt. -/
def committing (m : StoreMode) (attempts : Nat) (s : State) : State :=
  withOp (ringOf .programBlock 0) { s with jrnl := { s.jrnl with
    mode := m, lastStarted := 1, commit := some { sequence := 1, attempts := attempts } } }

/-- The start-up scan, with the ring read of position `p` in flight. -/
def scanning (p : Nat) : State := withOp (ringOf .readBlock p) (inMode .starting)

/-- An image of the fresh state whose check matches. -/
def image : StateImage := snapshot State.reset 7

/-- A background read in flight. -/
def background (lbn : Nat) (m : PatrolMode) (gap : Word) : State :=
  withOp { readOf .patrolBuffer with requester := .patrol, purpose := .patrolRead, lbn := some lbn, pbn := lbn } { ready with
    patrol := { ready.patrol with state := .running, mode := some m, resume := lbn, quietElapsed := true,
                                  bgRead := some (newBgRead lbn true) }
    cfg := { ready.cfg with passGap := gap } }

/-- A device command runs. -/
def running (r : Running) : State := { ready with cmd := { ready.cmd with running := some r } }

/-- The buffer holds the report of the reset state. -/
def withReport (s : State) : State := { s with cmd := { s.cmd with buffer := reportOf s } }

/-- QLBN and QCOUNT as written. -/
def asking (lbn count : Word) (s : State) : State := { s with req := { s.req with qlbn := lbn, qcount := count } }

/-- Tag 3 is attached to the port. -/
def attached (s : State) : State := { s with port := { s.port with attached := 3 } }

/-- The service list. -/
def inService (l : List TagNo) (s : State) : State := { s with svc := { s.svc with list := l } }

/-- Tag 3, DONE with a status. -/
def doneWith (st : Status) : State := ready.setTag 3 { request .read .done with final := some st }

/-- The quiet time has run out, or the quiet timer runs beside a WAITING engine, or the gap timer runs. -/
def quiet : State := { ready with patrol := { ready.patrol with quietElapsed := true } }
def quietRuns : State :=
  { ready with patrol := { ready.patrol with quietTimer := some 10, state := .waiting, mode := some .pass } }
def gapRuns : State :=
  { ready with patrol := { ready.patrol with gapTimer := some 65535, state := .gap, mode := some .auto } }

/-- The causes and the mask. -/
def causing (l e : BitVec 8) : State := { ready with attn := { latched := l, enable := e } }

/-- RPTR at 255. -/
def pointerAtEnd : State := { ready with cmd := { ready.cmd with rptr := 255 } }

/-- The sequence is exhausted. -/
def exhausted : State := { withReport ready with jrnl := { ready.jrnl with lastStarted := 4294967295 } }

/-- One tag in the queue, and the arrival counter at its limit. -/
def lastArrival : State :=
  let s := withTag { request .read .active with arrival := 4294967294 } (asking 3967 1 ready)
  { s with req := { s.req with arrival := 4294967295 } }

/-- A marked CHECK tag with its read in flight. -/
def marked : State := withTag { request .check .active with abortMark := true } (withOp (readOf .none) ready)

/-- Tags with a retry or a reallocation outstanding and no operation in flight. -/
def retryWaits : State := withTag { request .read .active with cur := some (current 1) } ready
def blockWaits : State := withTag { request .zero .active with prog := some (block .inPlace 10) } ready

/-- The port's slot of a READ and of a WRITE tag. -/
def portRead (st : SlotState) (pos : Nat) : State := attached (withSlot st pos [] (withTag (request .read .ending) ready))
def portWrite (st : SlotState) (pos : Nat) : State := attached (withSlot st pos [] (withTag (request .write .active) ready))

/-- A service list whose first entry is stale, and tag 3 behind it. -/
def popDone : State := inService [5, 3, 7] (doneWith .ok)
def popRead : State := inService [5, 3, 7] (portRead .full 0)
def popWrite : State := inService [5, 3, 7] (portWrite .reserved 0)

/-- The greatest values of a completion record. -/
def longRecord : Tag :=
  { request .read .done with
    final := some .recovered
    moved := 256
    passed := 256
    completed := 256
    worst := 8
    retriesUsed := 48
    uncorrCount := 256
    reallocs := 96
    firstFail := some 3967 }
def readout : State := { ready with svc := { ready.svc with readout := some (completionOf 3 longRecord) } }

/-- The same ZERO tag, with an earlier block that was reallocated. -/
def waitingZero : State :=
  (zeroing 0).setTag 3 { (zeroing 0).tag 3 with needed := some 1 }

/-- Only spare 3968 is left, and it is being programmed. -/
def lastSpare : State :=
  { reallocating 0 with map := { ready.map with retired := (List.range 95).map (3969 + ·) } }

/-- A commit with a waiter in the queue. -/
def waiting (m : StoreMode) (attempts : Nat) : State :=
  committing m attempts (withTag { request .write .ending with needed := some 1 } ready)

/-- Condition 1 at its limit. -/
def saturated : State :=
  (checking 0 0).setCond CondId.correctedReads { ready.cond[CondId.correctedReads] with raw := 4294967295 }

/-- A condition with a threshold of 100, and condition 3 one event before it trips. -/
def trip (i : CondId) (s : State) : State := s.setCond i { s.cond[i] with threshold := 100 }
def aboutToTrip : State := (checking 0 2).setCond 2 { ready.cond[(2 : CondId)] with raw := 3, threshold := 99 }

/-- Tag 3 stands marked before tag 5, which is HELD behind it. -/
def heldBehind : State :=
  let s := marked.setTag 5 { request .zero .held with arrival := 1, blockers := [3] }
  { s with req := { s.req with queue := [3, 5], arrival := 2 } }

/-- Behind tag 3, which is ACTIVE with a reserved slot beside its operation: a QUEUED READ, an ENDING WRITE, a ZERO tag that
owes a reallocation of LBN 20, and a tag HELD by that one. -/
def crowd (s : State) : State :=
  let s := s.setTag 5 { request .read .queued with arrival := 1, firstLbn := 30 }
  let s := s.setTag 6 { request .write .ending with arrival := 2, firstLbn := 40, needed := some 1 }
  let s := s.setTag 7 { request .zero .active with arrival := 3, firstLbn := 20, issued := 1, prog := some owedBlock }
  let s := s.setTag 8 { request .write .held with arrival := 4, firstLbn := 20, blockers := [7] }
  let s := s.setSlot 4 { Slot.free with state := .reserved, owner := some 3 }
  { s with req := { s.req with queue := [3, 5, 6, 7, 8], arrival := 5 } }

/-- Tags 7 and 9 owe reallocations of LBN 20 and 21, and the refresh block one of LBN 30. -/
def owing (s : State) : State :=
  let s := crowd s
  let s := s.setTag 7 { s.tag 7 with needed := some 1 }
  let s := s.setTag 9 { request .zero .active with arrival := 5, firstLbn := 21, prog := some { owedBlock with lbn := 21 } }
  { s with req := { s.req with queue := [3, 5, 6, 7, 8, 9], arrival := 6 }
           patrol := { s.patrol with
             refreshBlock := some { owedBlock with lbn := 30, source := .patrolBuffer }
             buf := { lbn := some 30, valid := false, words := [7] } } }

/-- Spare 3968 alone is left; with 14 LBNs in the pending list, LBN 10 first. -/
def oneSpare (s : State) : State :=
  { s with map := { s.map with
      retired := (List.range 95).map (3969 + ·)
      pendingLbns := 10 :: (List.range 13).map (100 + ·) } }

/-- No spare is left. -/
def spareless (s : State) : State := { s with map := { s.map with retired := (List.range 96).map (3968 + ·) } }

/-- A background read that a soft reset has dropped, and one whose retry is owed. -/
def dropped : State :=
  { background 5 .pass 0 with patrol := { (background 5 .pass 0).patrol with
      state := .idle, mode := none, bgRead := some { newBgRead 5 true with dropped := true } } }
def bgRetryWaits : State :=
  { quiet with patrol := { quiet.patrol with bgRead := some { newBgRead 5 true with retryOwed := true, inFlight := false } } }

/-- A valid patrol buffer of LBN 10. -/
def buffered (s : State) : State :=
  { s with patrol := { s.patrol with buf := { lbn := some 10, valid := true, words := [7] } } }

/-- A refresh block of LBN 10. -/
def refreshOf (owed : Bool) : BlockInProgram :=
  { lbn := 10, source := .patrolBuffer, stage := .inPlace, target := 10, inFlight := !owed, owed := owed }
def withRefresh (owed : Bool) (s : State) : State :=
  { buffered s with patrol := { (buffered s).patrol with refreshBlock := some (refreshOf owed) } }

/-- A program of LBN 10 with another requester than a tag. -/
def programBy (r : Requester) (pbn : Nat) (purpose : Purpose) : ArrayOp :=
  { programOf pbn purpose with requester := r, data := .patrolBuffer }

/-- A refresh program in flight, in place or on a spare; and an operation without an owner. -/
def refreshing (m : StoreMode) (pbn : Nat) (purpose : Purpose) : State :=
  withOp (programBy .patrol pbn purpose) (withRefresh false (inMode m))
def orphanRead (purpose : Purpose) : ArrayOp := { readOf (.slot 2) with requester := .none, purpose := purpose }
def orphaned (o : ArrayOp) : State := withOp o (buffered ready)

/-- Tag 3 with a mark and its operation in flight. -/
def markedRead (k : Kind) : State :=
  withOp (readOf .none) (withTag { request k .active with issued := 1, abortMark := true, cur := some (current 0) } ready)
def markedProgram (m : StoreMode) (abort : Bool) (done : Nat) (needed : Option Nat) (o : ArrayOp) : State :=
  withOp o (withTag { request .zero .active with
    issued := done + 1
    completed := done
    needed := needed
    abortMark := abort
    wpMark := !abort
    prog := some (block .inPlace 10) } (inMode m))

/-- The sequence is exhausted, with tag 3's program in flight before the other tags. -/
def exhaustedWith (abort : Bool) : State :=
  let s := crowd (zeroing 0)
  let s := withReport (s.setTag 3 { s.tag 3 with abortMark := abort })
  { s with jrnl := { s.jrnl with lastStarted := 4294967295 }
           patrol := { s.patrol with state := .waiting, mode := some .auto } }

/-- The quiet timer runs beside work for the patrol. -/
def quietWith (s : State) : State :=
  { s with patrol := { s.patrol with quietTimer := some 10, quietElapsed := false } }
def listed : State := { ready with map := { ready.map with refresh := [10, 11] } }

/-! ## Well-formed commands -/

theorem test_wf_badCommand_with_a_defined_code : (Instr.badCommand 0xFF04).wf = false := by decide +kernel
theorem test_wf_badCommand_with_an_undefined_code : (Instr.badCommand 0x0405).wf = true := by decide +kernel
theorem test_wf_registerWrite_of_a_register_with_a_row : (Instr.registerWrite 0x06 0).wf = false := by decide +kernel
theorem test_wf_registerWrite_of_a_soft_reset : (Instr.registerWrite 0x19 1).wf = false := by decide +kernel
theorem test_wf_registerWrite : (Instr.registerWrite 0x19 2).wf = true ∧ (Instr.registerWrite 0x04 1).wf = true := by decide +kernel

/-! ## One step of each command -/

theorem test_submission_accepted :
    let t := after (.submission 0x0013) (asking 10 2 ready)
    t.req.qresult = .accepted ∧ t.req.queue = [3] ∧ (t.tag 3).state = .active ∧ (t.slot 0).state = .loading := by decide +kernel

theorem test_submission_refused_with_range :
    (after (.submission 0x0013) (asking 3967 2 ready)).req.qresult = .range := by
  decide +kernel

theorem test_abortRequest_of_a_queued_tag :
    let t := after (.abortRequest 3) (withTag (request .write .queued) ready)
    (t.tag 3).final = some .aborted ∧ t.svc.list = [3] ∧ t.req.queue = [] := by decide +kernel

theorem test_abortRequest_of_no_tag : (after (.abortRequest 16) ready).req.abortIgnored = true := by decide +kernel

theorem test_ptagWrite : (after (.ptagWrite 0xFFF5) ready).port = { attached := 5, miss := false } := by decide +kernel

theorem test_pdataRead_of_a_full_slot :
    let t := after .pdataRead (attached (withSlot .full 0 [7, 8] (withTag (request .read .active) ready)))
    t.lastRead = 7 ∧ (t.slot 2).state = .draining ∧ (t.slot 2).pos = 1 := by decide +kernel

theorem test_pdataRead_miss : (after .pdataRead ready).lastRead = 0xFFFF ∧ (after .pdataRead ready).port.miss = true := by
  decide +kernel

theorem test_pdataWrite_of_a_reserved_slot :
    let t := after (.pdataWrite 9) (portWrite .reserved 0)
    (t.slot 2).state = .filling ∧ (t.slot 2).data = [9] := by decide +kernel

/-- "A pop of tag 5 as DATA_IN with entries remaining reads 0x8025" (section 11.6). -/
theorem test_svcnextPop_word : svcWord (some (5, .dataIn)) true = 0x8025 := by decide +kernel

theorem test_svcnextPop_of_a_done_tag :
    let t := after .svcnextPop (inService [3] (doneWith .aborted))
    t.lastRead = 0x0013 ∧ (t.tag 3).state = .free ∧ regRead t 0x0F = 0x0513 := by decide +kernel

theorem test_patrolSegment_waits_for_quiet : (after (.patrolSegment 0) ready).patrol.state = .waiting := by decide +kernel

theorem test_patrolPass_in_readOnly :
    (after (.patrolPass 0) (inMode .readOnly)).cmd.result = .refusedReadOnly := by decide +kernel

theorem test_patrolAuto_runs :
    let t := after (.patrolAuto 0) quiet
    t.patrol.state = .running ∧ t.array.op.map (·.purpose) = some .patrolRead := by decide +kernel

theorem test_patrolStop :
    (after (.patrolStop 0) (background 5 .auto 0)).patrol.status = .stopped := by decide +kernel

theorem test_reportBuild_runs : regRead (after (.reportBuild 0xFF) ready) 0x0D = 0x0010 := by decide +kernel

theorem test_reportBuildCompletion :
    let t := after .reportBuildCompletion (running (.reportBuild (Vector.replicate 256 5)))
    t.cmd.running = none ∧ regRead t 0x0E = 0x1001 ∧ t.cmd.buffer[255] = 5 := by decide +kernel

theorem test_thresholdLoad_of_zeros : (after (.thresholdLoad 0) ready).cmd.result = .refusedImage := by decide +kernel

theorem test_thresholdLoad_of_a_report :
    (after (.thresholdLoad 0) (withReport ready)).cmd.running = some (.thresholdLoad 1) := by decide +kernel

theorem test_conditionSave_starts_a_commit :
    (after (.conditionSave 0) ready).jrnl.commit = some { sequence := 1, attempts := 1 } := by decide +kernel

theorem test_badCommand : regRead (after (.badCommand 0xAB05) ready) 0x0E = 0x0502 := by decide +kernel

theorem test_rdataWrite_moves_the_pointer :
    let t := after (.rdataWrite 9) pointerAtEnd
    t.cmd.rptr = 0 ∧ t.cmd.buffer[255] = 9 := by decide +kernel

theorem test_rdataRead_is_closed : (after .rdataRead (running (.thresholdLoad 1))).lastRead = 0xFFFF := by decide +kernel

theorem test_acauseWrite :
    (after (.acauseWrite 0x0002) (causing 0x82 0)).attn.latched = 0x80 := by decide +kernel

theorem test_aenableWrite_drives_the_line :
    attnLow (after (.aenableWrite 0x0080) (causing 0x80 0)) = true := by decide +kernel

theorem test_cfgaWrite_keeps_bad_fields :
    regRead (after (.cfgaWrite 0x0910) ready) 0x15 = 0x0415 ∧ (after (.cfgaWrite 0x0910) ready).cfg.cfgReject = true := by
  decide +kernel

theorem test_cfgbWrite : regRead (after (.cfgbWrite 0xFB00) ready) 0x16 = 0x0300 := by decide +kernel

theorem test_registerWrite_of_qlbn : regRead (after (.registerWrite 0x04 0xBEEF) ready) 0x04 = 0xBEEF := by decide +kernel

theorem test_softReset_halts_the_patrol :
    (after .softReset (background 5 .auto 0)).patrol.status = .haltedReset := by decide +kernel

theorem test_powerOnReset : after .powerOnReset ready = State.reset := by decide +kernel

theorem test_startUp : (after .startUp State.reset).array.op = some (ringOf .readBlock 0) := by decide +kernel

theorem test_readBlockCompletion_fills_the_slot :
    let t := after (.readBlockCompletion (.corrected 4)) (reading 0)
    (t.slot 2).state = .full ∧ (t.tag 3).soFar = .recovered ∧ t.map.refresh = [10] ∧ (t.cond[0]).raw = 1 := by
  decide +kernel

theorem test_readBlockCompletion_ends_a_pass :
    let t := after (.readBlockCompletion .clean) (background 3967 .pass 0)
    t.patrol.status = .passDone ∧ t.patrol.resume = 0 ∧ (t.cond[7]).raw = 1 := by decide +kernel

theorem test_programBlockCompletion_maps_the_spare :
    let t := after (.programBlockCompletion .pass) (reallocating 1)
    t.map.remap = [(10, 3968)] ∧ (t.cond[4]).raw = 95 ∧ (t.tag 3).state = .ending := by decide +kernel

theorem test_programBlockCompletion_fourth_fail :
    let t := after (.programBlockCompletion .fail) (committing .ready 4 (withTag (request .write .queued) ready))
    t.jrnl.mode = .readOnly ∧ (t.tag 3).final = some .writeProtected ∧ t.attn.latched = 0x10 := by decide +kernel

theorem test_quietTimerExpiry :
    (after .quietTimerExpiry quietRuns).patrol.state = .running := by decide +kernel

theorem test_gapTimerExpiry :
    (after .gapTimerExpiry gapRuns).patrol.state = .waiting := by decide +kernel

/-! ## States that meet the hypotheses of the statements -/

theorem test_StepRunsFrontCommand_met :
    ({ ready with pending := [.pdataRead] } : State).pending = .pdataRead :: [] ∧ ready.pending = [] := ⟨rfl, rfl⟩

/-- PDATA_READ in reset meets every clause of OnlyProgramsChangeTheArray and RegistersChangeByTheirOwnCommands. -/
theorem test_frames_met :
    exec .pdataRead State.reset = .next State.reset ∧ (∀ o, Instr.pdataRead ≠ .programBlockCompletion o) ∧
      Instr.pdataRead ≠ .powerOnReset ∧ Instr.pdataRead ≠ .softReset ∧ (∀ a v, Instr.pdataRead ≠ .registerWrite a v) ∧
      Instr.pdataRead ≠ .svcnextPop ∧ Instr.pdataRead ≠ .rdataRead ∧ Instr.pdataRead ≠ .reportBuildCompletion ∧
      (∀ v, Instr.pdataRead ≠ .aenableWrite v ∧ Instr.pdataRead ≠ .submission v ∧ Instr.pdataRead ≠ .abortRequest v ∧
        Instr.pdataRead ≠ .ptagWrite v ∧ Instr.pdataRead ≠ .rdataWrite v ∧ Instr.pdataRead ≠ .cfgaWrite v ∧
        Instr.pdataRead ≠ .cfgbWrite v) := by
  refine ⟨rfl, ?_⟩
  simp

/-- A pop of an empty list meets the clauses of PORT_MISS, CMDRES and PPOS in RegistersChangeByTheirOwnCommands. -/
theorem test_RegistersChangeByTheirOwnCommands_met :
    exec .svcnextPop State.reset = .next State.reset ∧ Instr.svcnextPop ≠ .powerOnReset ∧ Instr.svcnextPop ≠ .softReset ∧
      Instr.svcnextPop ≠ .pdataRead ∧ Instr.svcnextPop ≠ .reportBuildCompletion ∧ ¬ writesCmd .svcnextPop ∧
      (∀ a v, Instr.svcnextPop ≠ .registerWrite a v) ∧ (∀ o, Instr.svcnextPop ≠ .readBlockCompletion o) ∧
      (∀ o, Instr.svcnextPop ≠ .programBlockCompletion o) ∧
      ∀ v, Instr.svcnextPop ≠ .pdataWrite v ∧ Instr.svcnextPop ≠ .ptagWrite v := by
  refine ⟨rfl, ?_⟩
  simp [writesCmd]

theorem test_IgnoredCommandsChangeNothing_met :
    State.reset.rstnLow = true ∧ State.reset.array.op = none ∧ State.reset.patrol.quietTimer = none ∧
      State.reset.patrol.gapTimer = none ∧ ready.rstnLow = false ∧ State.reset.cmd.running = none := by decide +kernel

theorem test_StartUpScan_met :
    State.reset.rstnLow = true ∧ State.reset.array.op = none ∧
    ∀ p ∈ [0, 30, 31], (scanning p).array.op = some (ringOf .readBlock p) ∧ (ringOf .readBlock p).pbn = 4064 + p ∧ p ≤ 31 ∧
      (scanning p).jrnl.mode = .starting ∧ (scanning p).jrnl.commitNeeded = false ∧ (scanning p).jrnl.commit = none ∧
      (scanning p).jrnl.scanNext = none ∧ (scanning p).req.queue = [] ∧ (scanning p).jrnl.candidate = none ∧
      (scanning p).jrnl.lastStarted < 4294967295 := by decide +kernel

/-- A valid image, an invalid one, and a candidate at the last position. -/
theorem test_StartUpScan_images_met :
    imageValid image = true ∧ imageValid { image with check := image.check + 1 } = false ∧
    (∀ p ∈ [4064, 4095], ∀ s : State, (blockAt { s with array := { s.array with ring := [(p, image)] } } p).2 = some image) ∧
    ({ position := 31, image := image } : Candidate).position ≤ 31 ∧
    image.sequence < ({ image with sequence := 8 } : StateImage).sequence := by
  refine ⟨?_, ?_, fun p hp s => by simp [blockAt, Memory.find], by decide +kernel, by decide +kernel⟩
  · have h : fieldsValid image = true := by decide +kernel
    have hc : checkMatches image = true := by simp [checkMatches, image, snapshot]
    rw [imageValid, h, hc]
    rfl
  · have hc : checkMatches { image with check := image.check + 1 } = false := by simp [checkMatches, image, snapshot]
    rw [imageValid, hc]
    rfl

theorem test_SoftReset_met :
    ready.rstnLow = false ∧ ready.jrnl.mode ≠ .starting ∧ (inMode .starting).jrnl.mode = .starting ∧
      (reading 0).array.op = some (readOf (.slot 2)) ∧ (readOf (.slot 2)).requester = .tag 3 ∧
      (committing .ready 1 ready).array.op = some (ringOf .programBlock 0) ∧
      opSlot (reading 0) = some 2 ∧ opSlot ready = none ∧ ready.patrol.bgRead = none ∧
      (background 5 .pass 0).patrol.bgRead = some (newBgRead 5 true) ∧ (newBgRead 5 true).inFlight = true ∧
      (newBgRead 5 true).retryOwed = false ∧ (bgRetryWaits.patrol.bgRead.map (·.inFlight)) = some false := by decide +kernel

theorem test_SubmissionRefusals_met :
    (inMode .starting).jrnl.mode = .starting ∧ ((withTag (request .read .done) ready).tag 3).state ≠ .free ∧
    (0x0003#16).toNat / 16 % 8 = 0 ∧ (0x0053#16).toNat / 16 % 8 = 5 ∧ (0x0073#16).toNat / 16 % 8 = 7 ∧
    (asking 10 0 ready).req.qcount.toNat = 0 ∧ 16 < (asking 10 17 ready).req.qcount.toNat ∧
    256 < (asking 10 257 ready).req.qcount.toNat ∧ (0x0023#16).toNat / 16 % 8 = 2 ∧ (0x0033#16).toNat / 16 % 8 = 3 ∧
    3968 < (asking 3967 2 ready).req.qlbn.toNat + (asking 3967 2 ready).req.qcount.toNat ∧
    (asking 3967 1 (inMode .readOnly)).req.qlbn.toNat + (asking 3967 1 (inMode .readOnly)).req.qcount.toNat ≤ 3968 ∧
    (ready.tag 3).state = .free := by decide +kernel

theorem test_SubmissionAccepted_met :
    ∀ p ∈ [(0x0013#16, Kind.read, 3952, 16), (0x0123#16, Kind.write, 3967, 1), (0x0233#16, Kind.check, 3712, 256),
        (0x0343#16, Kind.zero, 0, 256)],
      let k := p.2.1
      let lbn := p.2.2.1
      let count := p.2.2.2
      (ready.tag 3).state = .free ∧ p.1.toNat % 16 = 3 ∧ p.1.toNat / 16 % 8 = k.code ∧ count ≠ 0 ∧
        (k = .read ∨ k = .write → count ≤ 16) ∧ (k = .check ∨ k = .zero → count ≤ 256) ∧ lbn + count ≤ 3968 ∧
        ready.jrnl.mode = .ready ∧ ready.req.arrival < 4294967295 ∧
        ∀ u ∈ (withTag (request .read .active) ready).req.queue,
          ((withTag (request .read .active) ready).tag u).state.live = true := by decide +kernel

theorem test_RenumberingKeepsArrivalOrder_met :
    (lastArrival.tag 5).state = .free ∧ lastArrival.req.qcount.toNat = 1 ∧ lastArrival.req.qlbn.toNat + 1 ≤ 3968 ∧
      (∀ p ∈ [(0x0015#16, Kind.read), (0x0025#16, .write), (0x0035#16, .check), (0x0045#16, .zero)],
        p.1.toNat / 16 % 8 = p.2.code) ∧
      lastArrival.jrnl.mode = .ready ∧ lastArrival.req.arrival = 4294967295 ∧ lastArrival.req.queue ≠ [] ∧ ∀ u ∈ lastArrival.req.queue, (lastArrival.tag u).state.live = true := by
  decide +kernel

theorem test_AbortThatFindsNothing_met :
    UnitOk marked ∧ UnitOk (doneWith .ok) ∧ slotWait marked = [] ∧ slotWait (doneWith .ok) = [] ∧
      (∀ u ∈ marked.req.queue, (marked.tag u).state.live = true) ∧
      15 < (16#16).toNat ∧ (16#16) ≠ 0x8000#16 ∧ (marked.tag 15).state = .free ∧ ready.req.queue = [] ∧
      ((doneWith .ok).tag 3).state = .done ∧ (marked.tag 3).state = .active ∧ (marked.tag 3).abortMark = true := by
  unfold UnitOk
  decide +kernel

/-- Where no tag wants a slot, all are granted. -/
theorem test_slotsGranted (s : State) (h : ∀ n, ¬ wantsOne s n) : SlotsGranted s := Or.inr fun n e => h n e.2.1

/-- The marked tag aborted again, with a tag HELD behind it. -/
theorem test_AbortThatFindsNothing_beside_a_held_tag :
    UnitOk heldBehind ∧ HeldOk heldBehind ∧ SlotsGranted heldBehind ∧ (heldBehind.tag 5).state = .held ∧
      (heldBehind.tag 3).abortMark = true := by
  refine ⟨by unfold UnitOk; decide +kernel, by unfold HeldOk; decide +kernel, ?_, by decide +kernel, by decide +kernel⟩
  exact test_slotsGranted heldBehind (by unfold wantsOne; decide +kernel)

theorem test_AbortBeforeAnyGrant_met :
    ∀ st ∈ [TagState.held, .queued],
      (withTag (request .write st) ready).rstnLow = false ∧ (3#16).toNat = (3 : TagNo).val ∧
      3 ∈ (withTag (request .write st) ready).req.queue ∧ ((withTag (request .write st) ready).tag 3).state = st ∧
      ((withTag (request .write st) ready).tag 3).abortMark = false := by decide +kernel

theorem test_AbortOfStartedTag_met :
    (reading 0).rstnLow = false ∧ (3 : TagNo) ∈ (reading 0).req.queue ∧ ((reading 0).tag 3).state = .active ∧
      opTag (reading 0) = some 3 ∧ ((reading 0).tag 3).abortMark = false ∧ ((reading 0).tag 3).wpMark = false ∧
      SlotsOk (reading 0) ∧
      opTag retryWaits ≠ some 3 ∧ (retryWaits.tag 3).cur = some (current 1) ∧
      opTag blockWaits ≠ some 3 ∧ (blockWaits.tag 3).prog = some (block .inPlace 10) ∧ (blockWaits.tag 3).cur = none ∧
      ((portRead .full 0).tag 3).state = .ending ∧ ((portRead .full 0).tag 3).cur = none ∧
      ((portRead .full 0).tag 3).prog = none := by
  unfold SlotsOk
  decide +kernel

theorem test_AbortAllReachesEveryLiveTag_met :
    ∀ s ∈ [reading 0, crowd (reading 0), markedProgram .readOnly false 0 none (programOf 10 .programInPlace),
        withTag (request .write .queued) ready],
      s.rstnLow = false ∧ QueueOk s ∧ s.req.queue ≠ [] ∧ SlotsOk s := by
  unfold QueueOk SlotsOk
  decide +kernel

/-- Live tags in every state beside the one whose operation is in flight; that one stands marked, or write-protect-marked. -/
theorem test_AbortAllReachesEveryLiveTag_clauses :
    opTag (crowd (reading 0)) = some 3 ∧ ((crowd (reading 0)).tag 3).abortMark = false ∧
      ((crowd (reading 0)).tag 3).wpMark = false ∧
      (∀ n ∈ [(5 : TagNo), 6, 7, 8], ((crowd (reading 0)).tag n).state.live = true) ∧
      ((crowd (reading 0)).tag 8).blockers = [7] ∧
      ((after (.abortRequest 0x8000) (crowd (reading 0))).slot 2).state = .loading ∧
      (after (.abortRequest 0x8000) (crowd (reading 0))).slot 4 = Slot.free ∧
      opTag (withTag (request .write .queued) ready) = none ∧
      opTag (markedProgram .readOnly false 0 none (programOf 10 .programInPlace)) = some 3 ∧
      ((markedProgram .readOnly false 0 none (programOf 10 .programInPlace)).tag 3).wpMark = true := by decide +kernel

/-! ### Slot grants and the arbiter -/

/-- The slot that an accepted WRITE is granted, and the same for a HELD one. -/
theorem test_SlotGrants_met :
    (exec (.submission 0x0023) (asking 10 2 ready) = .next (after (.submission 0x0023) (asking 10 2 ready))) ∧
      ((after (.submission 0x0023) (asking 10 2 ready)).slot 0).state = .reserved ∧
      ((after (.submission 0x0023) (asking 10 2 ready)).slot 0).owner = some 3 ∧
      ((asking 10 2 ready).slot 0).state = .free ∧
      ((after (.submission 0x0025) (asking 10 2 marked)).tag 5).state = .held ∧
      ((after (.submission 0x0025) (asking 10 2 marked)).slot 0).owner = some 5 ∧
      ((after (.submission 0x0025) (asking 10 2 marked)).slot 0).state = .reserved ∧
      SlotsOk (asking 10 2 ready) ∧ SlotsOk (asking 10 2 marked) := by
  refine ⟨rfl, ?_⟩
  unfold SlotsOk
  decide +kernel

/-- A command after which an operation is in flight, where none was. -/
theorem test_newGrant (c : Instr) (s : State) (o : ArrayOp) (h : s.array.op = none)
    (hc : exec c s = .next (after c s)) (ho : (after c s).array.op = some o) : NewGrant c s (after c s) o :=
  ⟨hc, ho, fun p hp => by rw [h] at hp; cases hp⟩

/-- New grants of every requester and purpose class meet the hypotheses of ArbiterOrder and GrantsBindTheirBlocks. -/
theorem test_grants_met :
    ((asking 10 2 ready).array.op = none ∧
      (after (.submission 0x0013) (asking 10 2 ready)).array.op.map (·.purpose) = some .load ∧
      (after (.submission 0x0033) (asking 10 2 ready)).array.op.map (·.purpose) = some .checkRead ∧
      (after (.submission 0x0043) (asking 10 2 ready)).array.op.map (·.purpose) = some .programInPlace) ∧
    ((after (.readBlockCompletion .uncorrectable) (reading 0)).array.op.map (·.purpose) = some .retry ∧
      (after (.programBlockCompletion .fail) (zeroing 0)).array.op.map (·.purpose) = some .reallocation ∧
      (after (.pdataWrite 9) (portWrite .filling 255)).array.op.map (·.data) = some (.slot 2)) ∧
    (after (.conditionSave 0) ready).array.op.map (·.purpose) = some .ringProgram ∧
    (after (.programBlockCompletion .fail) (committing .ready 1 ready)).jrnl.commit.map (·.attempts) = some 2 := by
  decide +kernel

/-- The quiet timer expires with each kind of background work owed, and with none. -/
theorem test_ArbiterOrder_quiet_met :
    (after .quietTimerExpiry (quietWith bgRetryWaits)).array.op.map (·.purpose) = some .retry ∧
    (after .quietTimerExpiry (quietWith (withRefresh true ready))).array.op.map (·.purpose) = some .reallocation ∧
    (after .quietTimerExpiry (quietWith (buffered ready))).array.op.map (·.purpose) = some .refreshProgram ∧
    (after .quietTimerExpiry (quietWith listed)).array.op.map (·.purpose) = some .refreshRead ∧
    (after .quietTimerExpiry quietRuns).array.op.map (·.purpose) = some .patrolRead ∧
    (after .quietTimerExpiry (quietWith ready)).array.op = none := by
  decide +kernel

theorem test_ArbiterOrder_hypotheses_met :
    ∀ k : Fin 6, let s := quietWith ([bgRetryWaits, withRefresh true ready, buffered ready, listed, quietRuns, ready][k])
      s.array.op = none ∧ s.patrol.quietTimer ≠ none ∧ s.req.queue = [] ∧ s.jrnl.mode = .ready ∧ ¬ journalDue s := by
  unfold journalDue
  decide +kernel

/-- The port's slot at positions 0, 254 and 255, for a READ and for a WRITE tag. -/
theorem test_PortMovesWords_met :
    ((portRead .full 0).tag 3).state.live = true ∧ ((portRead .full 0).tag 3).kind = .read ∧
      ((portWrite .filling 0).tag 3).kind = .write ∧ 3 ∈ (portRead .full 0).req.queue ∧
      ((portRead .full 0).slot 2).lbn = some 10 ∧ ((portRead .full 0).slot 2).pos + 1 < 256 ∧
      ((portRead .draining 254).slot 2).pos + 1 < 256 ∧ ((portRead .draining 255).slot 2).pos = 255 ∧
      ((portWrite .reserved 0).slot 2).pos + 1 < 256 ∧ ((portWrite .filling 254).slot 2).pos + 1 < 256 ∧
      ((portWrite .filling 255).slot 2).pos = 255 ∧
      ∀ m, m ≠ 2 → ((portRead .draining 255).slot m).owner ≠ some 3 ∧ ((portWrite .filling 255).slot m).owner ≠ some 3 := by
  decide +kernel

theorem test_PortMissChangesOnlyItsFlag_met :
    ¬ hasDataIn ready 0 ∧ ¬ hasDataOut ready 0 ∧ ready.port.attached = 0 ∧ (after .pdataRead ready).port.miss = true ∧
      (after .pdataRead ready).attn.latched.getLsbD 5 = true := by
  unfold hasDataIn hasDataOut ownsSlotIn
  decide +kernel

theorem test_PopClassifiesFirstLiveEntry_met :
    popDone.svc.list = [5] ++ 3 :: [7] ∧ isStale popDone 5 ∧ (popDone.tag 3).state = .done ∧ ready.svc.list = [] := by
  unfold isStale hasDataIn hasDataOut ownsSlotIn
  decide +kernel

theorem test_PopClassifiesDataIn_met :
    popRead.svc.list = [5] ++ 3 :: [7] ∧ isStale popRead 5 ∧ (popRead.tag 3).state ≠ .done ∧ hasDataIn popRead 3 := by
  unfold isStale hasDataIn hasDataOut ownsSlotIn
  decide +kernel

theorem test_PopClassifiesDataOut_met :
    popWrite.svc.list = [5] ++ 3 :: [7] ∧ isStale popWrite 5 ∧ (popWrite.tag 3).state ≠ .done ∧ ¬ hasDataIn popWrite 3 ∧
      hasDataOut popWrite 3 := by
  unfold isStale hasDataIn hasDataOut ownsSlotIn
  decide +kernel

theorem test_ReadoutShowsCompletionRecord_met :
    longRecord.final = some .recovered ∧ readout.svc.readout = some (completionOf 3 longRecord) ∧
      longRecord.moved ≤ 256 ∧ longRecord.passed ≤ 256 ∧ longRecord.completed ≤ 256 ∧ longRecord.worst ≤ 8 ∧
      longRecord.retriesUsed ≤ 48 ∧ longRecord.uncorrCount ≤ 256 ∧ longRecord.reallocs ≤ 96 ∧
      longRecord.firstFail = some 3967 := by decide +kernel

theorem test_ServiceCauseFollowsList_met :
    ready.attn.latched.getLsbD 0 = false ∧ ready.svc.list = [] ∧ (inService [3] (causing 0 1)).svc.list ≠ [] ∧
      (causing 0 1).attn.enable.getLsbD 0 = true ∧ (inService [5] ready).svc.list = [5] ∧ isStale (inService [5] ready) 5 := by
  unfold isStale hasDataIn hasDataOut ownsSlotIn
  decide +kernel

/-! ### Reads -/

theorem test_tagOpInFlight :
    (∀ k, TagOpInFlight (reading k) (readOf (.slot 2)) 3) ∧ (∀ d k, TagOpInFlight (checking d k) (readOf .none) 3) ∧
    (∀ d, TagOpInFlight (zeroing d) (programOf 10 .programInPlace) 3) ∧
    (∀ d, TagOpInFlight (reallocating d) (programOf 3968 .reallocation) 3) := by
  have h : (3 : TagNo) ∈ [(3 : TagNo)] := List.mem_singleton.2 rfl
  exact ⟨fun _ => ⟨rfl, rfl, rfl, h, rfl, rfl⟩, fun _ _ => ⟨rfl, rfl, rfl, h, rfl, rfl⟩,
    fun _ => ⟨rfl, rfl, rfl, h, rfl, rfl⟩, fun _ => ⟨rfl, rfl, rfl, h, rfl, rfl⟩⟩

theorem test_reads_of_tags_met :
    (readOf (.slot 2)).operation = .readBlock ∧ ((reading 0).slot 2).owner = some 3 ∧ ((reading 0).tag 3).kind = .read ∧
    ((reading 0).tag 3).cur = some (current 0) ∧ (current 1).retries < (reading 1).cfg.retryLimit ∧
    ((reading 2).tag 3).cur = some (current 2) ∧ (reading 2).cfg.retryLimit ≤ (current 2).retries ∧
    ((checking 1 2).tag 3).kind = .check ∧ ((checking 1 2).tag 3).cur = some (current 2) ∧
    ((checking 1 2).tag 3).completed + 1 = ((checking 1 2).tag 3).count ∧
    ((checking 0 2).tag 3).completed + 1 ≠ ((checking 0 2).tag 3).count := by decide +kernel

/-- Segment, pass and AUTO ends, the last with a gap and without, and reads that end nothing. -/
theorem test_BackgroundReadEnds_met :
    ∀ p ∈ [(3967, PatrolMode.segment, 0#16), (255, .segment, 0#16), (254, .segment, 0#16), (3966, .pass, 0#16),
        (3967, .pass, 0#16), (3967, .auto, 0#16), (3967, .auto, 65535#16)],
      let s := background p.1 p.2.1 p.2.2
      s.patrol.bgRead = some (newBgRead p.1 true) ∧ (newBgRead p.1 true).dropped = false ∧ s.jrnl.mode = .ready ∧
        s.jrnl.lastStarted < 4294967295 ∧ s.req.queue = [] ∧ s.patrol.state = .running ∧
        s.array.op.map (·.requester) = some .patrol ∧ s.array.op.map (·.operation) = some .readBlock ∧
        (newBgRead p.1 true).retries < s.cfg.retryLimit := by decide +kernel

theorem test_BackgroundReadEnds_dropped_met :
    dropped.patrol.bgRead = some { newBgRead 5 true with dropped := true } ∧ dropped.jrnl.mode ≠ .starting ∧
      dropped.req.queue = [] ∧ dropped.array.op.map (·.requester) = some .patrol ∧
      (after (.readBlockCompletion .uncorrectable) dropped).map.pendingLbns = [5] ∧
      (after (.readBlockCompletion .uncorrectable) dropped).patrol.resume = 6 := by decide +kernel

/-! ### Programs and the journal -/

theorem test_programs_met :
    (programOf 10 .programInPlace).purpose = .programInPlace ∧ (programOf 10 .programInPlace).lbn = some 10 ∧
    ((zeroing 0).tag 3).prog = some (block .inPlace 10) ∧ (zeroing 0).jrnl.mode = .ready ∧
    ((zeroing 1).tag 3).completed + 1 = ((zeroing 1).tag 3).count ∧ ((zeroing 1).tag 3).needed = none ∧
    (programOf 3968 .reallocation).purpose = .reallocation ∧
    ((reallocating 0).tag 3).prog = some (block .spare 3968) ∧ (block .spare 3968).lbn = 10 ∧
    (reallocating 0).jrnl.lastStarted < 4294967295 ∧ (reallocating 0).jrnl.lastDone ≤ (reallocating 0).jrnl.lastStarted ∧
    (zeroing 0).map.refresh = [] := by decide +kernel

theorem test_spares_met :
    (freeSpares (zeroing 0)).head? = some 3968 ∧ freeSpares (spareless (zeroing 0)) = [] ∧
    freeSpares (spareless waitingZero) = [] ∧ (spareless waitingZero).jrnl.lastDone = 0 ∧
    ((spareless waitingZero).tag 3).needed = some 1 ∧ ((spareless (zeroing 0)).tag 3).needed = none ∧
    (block .inPlace 10).lbn = 10 ∧ (spareless waitingZero).jrnl.mode = .ready ∧
    (freeSpares lastSpare).filter (· ≠ 3968) = [] := by decide +kernel

/-- OwedOk, where no refresh block is in flight and the operation in flight is a tag's. -/
def owedCheck (s : State) : Bool :=
  (List.finRange 16).all (fun n => (s.tag n).prog.all fun b => (s.tag n).kind.writes && (!b.owed || (!b.inFlight &&
    (s.tag n).state == .active && !(s.tag n).abortMark && !(s.tag n).wpMark && opTag s != some n &&
    s.jrnl.mode != .readOnly))) &&
  s.patrol.refreshBlock.all (fun b => !b.owed || (!b.inFlight && s.jrnl.mode != .readOnly)) &&
  s.array.op.all fun o => o.requester != .none && o.requester != .patrol

theorem test_owedCheck (s : State) (h : owedCheck s = true) : OwedOk s := by
  simp only [owedCheck, Bool.and_eq_true, List.all_eq_true, Option.all_eq_true] at h
  obtain ⟨⟨ht, hr⟩, ho⟩ := h
  refine ⟨fun n b hb => ?_, fun b hb hw => ?_, fun o h₁ h₂ => ?_, fun o h₁ h₂ => ?_⟩
  · simpa [hb, and_assoc, imp_iff_not_or] using ht n (List.mem_finRange n) b hb
  · simpa [hw] using hr b hb
  · rcases h₂ with h₂ | h₂ <;> simp [h₂] at ho <;> exact absurd h₁ (by simp_all)
  · simp_all

/-- Programs of tag 3 in place and on a spare, alone and beside other blocks that owe a reallocation, with spares left, with
one and with none. -/
theorem test_owed_met :
    ∀ s ∈ [zeroing 0, zeroing 1, reallocating 0, lastSpare, owing (zeroing 0), spareless (zeroing 0), spareless waitingZero,
        owing (reallocating 0), oneSpare (owing (reallocating 0)),
        owing (markedProgram .ready true 0 none (programOf 3968 .reallocation)),
        oneSpare (owing (markedProgram .ready true 1 none (programOf 3968 .reallocation)))],
      OwedOk s ∧ s.req.queue.Nodup ∧ 3 ∈ s.req.queue ∧ opTag s = some 3 ∧ (s.tag 3).state = .active ∧
        (s.tag 3).wpMark = false ∧ s.jrnl.mode = .ready ∧ s.jrnl.lastDone ≤ s.jrnl.lastStarted ∧
        s.jrnl.lastStarted < 4294967295 ∧ ((s.tag 3).prog.map (·.lbn)) = some 10 := by
  intro s hs
  refine ⟨test_owedCheck s ?_, ?_⟩ <;> revert s hs <;> decide +kernel

/-- A reallocation that leaves no spare, by a PASS, by a FAIL and by a FAIL of an abort-marked tag: tags 7 and 9 and the
refresh block are exhausted; with the passed LBN gone first the third offer is the one that is refused. -/
theorem test_reallocation_exhausts_the_others :
    (let t := after (.programBlockCompletion .pass) (oneSpare (owing (reallocating 0)))
     t.map.pendingLbns = (List.range 13).map (100 + ·) ++ [20, 21, 30] ∧ t.map.overflow = 0 ∧
       (t.tag 7).state = .ending ∧ (t.tag 9).final = some .writeFault ∧ t.patrol.refreshBlock = none) ∧
    (let t := after (.programBlockCompletion .fail) (oneSpare (owing (reallocating 0)))
     t.map.pendingLbns = 10 :: (List.range 13).map (100 + ·) ++ [20, 21] ∧ t.map.overflow = 1 ∧
       (t.tag 3).state = .ending ∧ t.patrol.refreshBlock = none) ∧
    (let t := after (.programBlockCompletion .fail)
       (oneSpare (owing (markedProgram .ready true 1 none (programOf 3968 .reallocation))))
     t.map.overflow = 1 ∧ (t.tag 3).final = some .aborted ∧ (t.tag 9).final = some .writeFault) ∧
    (let t := after (.programBlockCompletion .pass) (owing (reallocating 0))
     t.map.pendingLbns = [] ∧ (t.tag 7).prog = some owedBlock ∧ t.patrol.refreshBlock.map (·.owed) = some true) := by
  decide +kernel

/-- What the patrol can hold for LBN 10 while a tag's program of it ends: a valid buffer, an owed refresh block, a read. -/
theorem test_PatrolCancelled_met :
    ((after (.programBlockCompletion .pass) (buffered (zeroing 0))).patrol.buf.valid = false) ∧
    ((after (.programBlockCompletion .fail) (withRefresh true (zeroing 0))).patrol.refreshBlock = none) ∧
    ((after (.programBlockCompletion .pass) (withRefresh true (reallocating 0))).patrol.refreshBlock = none) := by
  decide +kernel

/-- A refresh program in place and on a spare, in READY and in READ_ONLY, with spares left and with none. -/
theorem test_RefreshProgramEnds_met :
    (∀ m ∈ [StoreMode.ready, .readOnly], ∀ p ∈ [(10, Purpose.refreshProgram), (3968, Purpose.reallocation)],
      let s := refreshing m p.1 p.2
      s.array.op = some (programBy .patrol p.1 p.2) ∧ (programBy .patrol p.1 p.2).lbn = some 10 ∧
        s.patrol.refreshBlock = some (refreshOf false) ∧ (refreshOf false).owed = false ∧ s.req.queue = [] ∧
        s.jrnl.lastStarted < 4294967295 ∧ (freeSpares s).head? = some 3968) ∧
    (after (.programBlockCompletion .pass) (refreshing .ready 10 .refreshProgram)).patrol.buf.valid = false ∧
    (freeSpares { refreshing .ready 3968 .reallocation with
      map := { ready.map with retired := (List.range 95).map (3969 + ·) } }).filter (· ≠ 3968) = [] := by decide +kernel

/-- Orphans of both operations, and a refresh program whose record is gone. -/
theorem test_OrphanOperationsEnd_met :
    (∀ p ∈ [Purpose.load, .retry], (orphaned (orphanRead p)).array.op = some (orphanRead p) ∧
      (orphanRead p).requester = .none ∧ (orphanRead p).lbn = some 10) ∧
    (∀ r ∈ [Requester.none, .patrol], ∀ p ∈ [(10, Purpose.programInPlace), (3968, Purpose.reallocation)],
      (orphaned (programBy r p.1 p.2)).array.op = some (programBy r p.1 p.2) ∧ (programBy r p.1 p.2).lbn = some 10 ∧
        (orphaned (programBy r p.1 p.2)).patrol.refreshBlock = none ∧ (orphaned (programBy r p.1 p.2)).req.queue = []) ∧
    (after (.programBlockCompletion .fail) (orphaned (programBy .none 10 .programInPlace))).map.pendingLbns = [10] := by
  decide +kernel

/-- Abort-marked reads, and programs of tags with either mark: between blocks, with the last one, needing a commit or not. -/
theorem test_MarkedTagsEnd_met :
    (∀ k ∈ [Kind.read, .check], (markedRead k).array.op = some (readOf .none) ∧ ((markedRead k).tag 3).state = .active ∧
      ((markedRead k).tag 3).abortMark = !((markedRead k).tag 3).wpMark ∧ ((markedRead k).tag 3).cur = some (current 0) ∧
      3 ∈ (markedRead k).req.queue) ∧
    (∀ p ∈ [(StoreMode.ready, true), (.readOnly, false), (.readOnly, true)], ∀ d ∈ [0, 1], ∀ q ∈ [none, some 1],
      let s := markedProgram p.1 p.2 d q (programOf 10 .programInPlace)
      (s.tag 3).abortMark = !(s.tag 3).wpMark ∧ (s.tag 3).prog = some (block .inPlace 10) ∧ (block .inPlace 10).lbn = 10 ∧
        s.jrnl.lastDone ≤ s.jrnl.lastStarted ∧ s.jrnl.lastStarted < 4294967295 ∧ s.req.queue = [3] ∧
        (d = 1 → (s.tag 3).completed + 1 = (s.tag 3).count)) ∧
    ((after (.programBlockCompletion .pass)
      (markedProgram .readOnly false 1 (some 1) (programOf 10 .programInPlace))).tag 3).final = some .journalFault ∧
    ((after (.programBlockCompletion .fail)
      (markedProgram .ready true 0 none (programOf 3968 .reallocation))).tag 3).final = some .aborted := by
  decide +kernel

theorem test_ProgramsAndPowerLossWriteBlocks_met :
    StorageOk (zeroing 0) ∧ (zeroing 0).array.op = some (programOf 10 .programInPlace) ∧
      (programOf 10 .programInPlace).payload = .words [1, 2] ∧
      (∃ o : ArrayOp, (withOp o ready).array.op = some o ∧ o.operation = .programBlock ∧ o.payload = .image image) := by
  exact ⟨by unfold StorageOk; decide +kernel, rfl, rfl,
    { ringOf .programBlock 31 with payload := .image image }, rfl, rfl, rfl⟩

theorem test_commits_met :
    (∀ m ∈ [StoreMode.starting, .ready], ∀ a ∈ [1, 3, 4],
      (waiting m a).array.op = some (ringOf .programBlock 0) ∧
        (waiting m a).jrnl.commit = some { sequence := 1, attempts := a } ∧ (waiting m a).jrnl.mode ≠ .readOnly ∧
        (waiting m a).jrnl.nextPos ≤ 31 ∧ (waiting m a).jrnl.scanNext = none ∧
        (∀ u ∈ (waiting m a).req.queue, ((waiting m a).tag u).state.live = true) ∧
        ((waiting m a).tag 3).kind.writes = true ∧ ((waiting m a).tag 3).state = .ending ∧
        ((waiting m a).tag 3).needed = some 1) ∧
    (∀ q ∈ [1, 2], (committing .ready 4 (running (.conditionSave q))).cmd.running = some (.conditionSave q)) := by
  decide +kernel

/-! ### Commands, timers, registers, conditions -/

theorem test_commands_met :
    ready.cmd.running = none ∧ (running (.thresholdLoad 1)).cmd.running = some (.thresholdLoad 1) ∧
    (Instr.badCommand 0x0000).wf = true ∧ (Instr.badCommand 0xFF13).wf = true ∧
    (inMode .starting).jrnl.mode = .starting ∧ (inMode .readOnly).jrnl.mode = .readOnly ∧ ready.jrnl.mode = .ready ∧
    ready.patrol.state = .idle ∧ (background 5 .auto 0).patrol.state = .running ∧
    thresholdsValid (withReport ready).cmd.buffer = true ∧ thresholdsValid ready.cmd.buffer = false ∧
    (withReport ready).jrnl.lastStarted < 4294967295 ∧
    exhausted.jrnl.lastStarted = 4294967295 ∧ thresholdsValid exhausted.cmd.buffer = true := by decide +kernel

/-- The sequence is exhausted while tag 3's program is in flight, without a mark or with the abort mark. -/
theorem test_CommandsWaitForTheirCommit_exhausted_met :
    ∀ b ∈ [false, true],
      let s := exhaustedWith b
      s.rstnLow = false ∧ s.cmd.running = none ∧ s.jrnl.mode = .ready ∧ s.jrnl.lastStarted = 4294967295 ∧
        thresholdsValid s.cmd.buffer = true ∧ SlotsOk s ∧ opTag s = some 3 ∧ (s.tag 3).abortMark = b ∧
        s.req.queue = [3, 5, 6, 7, 8] ∧ (s.tag 7).prog = some owedBlock ∧ s.patrol.state = .waiting := by
  unfold SlotsOk
  decide +kernel

theorem test_conditionSave_exhausted :
    let t := after (.conditionSave 0) (exhaustedWith false)
    (t.tag 3).wpMark = true ∧ t.slot 4 = Slot.free ∧ (t.tag 6).final = some .journalFault ∧ t.req.queue = [3, 5] ∧
      t.map.pendingLbns = [20] ∧ (t.tag 7).final = some .writeProtected ∧ (t.tag 8).final = some .writeProtected := by
  decide +kernel

theorem test_ThresholdLoadTestsTheBuffer_met :
    (withReport ready).cmd.buffer[0] = 0x0301#16 ∧ ((withReport ready).cmd.buffer.toList.map (·.toNat)).sum % 65536 = 0 ∧
      (∀ i : CondId, idWord (withReport ready).cmd.buffer i = i.val + 1) ∧
      (∀ i : CondId, thresholdWord (withReport ready).cmd.buffer i ≤ 255) := by decide +kernel

theorem test_ReportEntriesAndChecksum_met :
    ConditionsOk ready ∧ ready.map.pendingLbns.length ≤ 16 ∧
      ∀ i : CondId, (ready.cond[i]).raw ≤ 4294967295 ∧ (ready.cond[i]).threshold ≤ 255 := by
  unfold ConditionsOk
  decide +kernel

theorem test_TimersExpire_met :
    quietRuns.patrol.quietTimer ≠ none ∧ quietRuns.patrol.state = .waiting ∧ quietRuns.req.queue = [] ∧
      quietRuns.jrnl.mode ≠ .starting ∧ gapRuns.patrol.gapTimer ≠ none ∧ gapRuns.patrol.quietElapsed = false := by
  decide +kernel

theorem test_ConfigurationWrites_met :
    ConfigOk ready ∧ (0x0401#16).toNat / 256 % 16 = ready.cfg.slotQuota ∧
      (0x0101#16).toNat / 256 % 16 = 1 ∧ (0x0838#16).toNat / 256 % 16 = 8 ∧ (0x0938#16).toNat / 256 % 16 = 9 ∧ (freeSlots ready).length = 8 := by
  unfold ConfigOk
  decide +kernel

/-- PSTAT of a slot not yet touched, of one at its last word, and of no slot. -/
theorem test_RegistersShowTheState_met :
    hasDataIn (portRead .full 0) 3 ∧ hasDataOut (portWrite .filling 255) 3 ∧ ¬ hasDataIn ready 0 ∧ ¬ hasDataOut ready 0 ∧
      ((portRead .full 0).slot 2).lbn = some 10 ∧ (∀ m, m ≠ 2 → ((portRead .full 0).slot m).owner ≠ some 3) ∧
      regRead (portRead .full 0) 0x0A = 0x8013 ∧ regRead (portWrite .filling 255) 0x0A = 0x0093 ∧
      regRead ready 0x0A = 0 ∧ ConfigOk ready ∧ ready.patrol.resume ≤ 3967 ∧
      regRead (running (.conditionSave 1)) 0x0D = 0x0012 := by
  unfold hasDataIn hasDataOut ownsSlotIn ConfigOk
  decide +kernel

theorem test_GradesFollowRawValues_met :
    (((after (.readBlockCompletion (.corrected 0)) (checking 0 0)).cond[CondId.correctedReads]).raw ≠
      ((checking 0 0).cond[CondId.correctedReads]).raw) ∧ (ringOf .readBlock 31).pbn = 4095 := by decide +kernel

theorem test_CumulativeCountsSaturate_met :
    saturated.array.op = some (readOf .none) ∧ (readOf .none).requester ≠ .journal ∧
      (saturated.cond[CondId.correctedReads]).raw = 4294967295 ∧
      ((after (.readBlockCompletion (.corrected 0)) saturated).cond[CondId.correctedReads]).raw = 4294967295 := by
  decide +kernel

theorem test_register_statements_met :
    ready.rstnLow = false ∧ (2#16) ≠ 1#16 ∧ gapRuns.patrol.state = .gap ∧ ready.attn.latched.getLsbD 7 = false ∧
      (causing 0x82 0).attn.latched.getLsbD 7 = true ∧ (running (.conditionSave 1)).cmd.running = some (.conditionSave 1) := by
  decide +kernel

/-- READY meets every invariant, and steps. -/
theorem test_invariants_met :
    SlotsOk ready ∧ ConfigOk ready ∧ ListsOk ready ∧ StorageOk ready ∧ CandidateOk ready ∧ ConditionsOk ready ∧
      QueueOk ready ∧ ArrivalOk ready ∧ HeldOk ready ∧ ServiceOk ready ∧ OwedOk ready ∧ SlotsGranted ready ∧
      JournalOk ready ∧ PatrolOk ready ∧ UnitOk ready ∧ step ready = .next ready := by
  refine ⟨?_, ?_, ?_, ?_, fun c h => ?_, ?_, ?_, ?_, ?_, ?_, ?_, ?_,
    ⟨?_, fun c h => ?_, ?_, ?_, fun o h => ?_, ?_⟩, ?_, ?_, rfl⟩
  · unfold SlotsOk
    decide +kernel
  · unfold ConfigOk
    decide +kernel
  · unfold ListsOk
    decide +kernel
  · unfold StorageOk
    decide +kernel
  · cases h
  · unfold ConditionsOk
    decide +kernel
  · unfold QueueOk
    decide +kernel
  · unfold ArrivalOk
    decide +kernel
  · unfold HeldOk
    decide +kernel
  · unfold ServiceOk
    decide +kernel
  · exact test_owedCheck ready (by decide +kernel)
  · exact test_slotsGranted ready (by unfold wantsOne; decide +kernel)
  · decide +kernel
  · cases h
  · decide +kernel
  · decide +kernel
  · cases h
  · decide +kernel
  · unfold PatrolOk
    decide +kernel
  · unfold UnitOk
    decide +kernel

/-- A queue of tags in every live state, with owed reallocations, meets the queue's invariant. -/
theorem test_QueueAndServiceListKept_met :
    let s := owing (reallocating 0)
    QueueOk s ∧ ArrivalOk s ∧ HeldOk s ∧ ServiceOk s ∧ OwedOk s := by
  refine ⟨?_, ?_, ?_, ?_, test_owedCheck _ (by decide +kernel)⟩
  · unfold QueueOk
    decide +kernel
  · unfold ArrivalOk
    decide +kernel
  · unfold HeldOk
    decide +kernel
  · unfold ServiceOk
    decide +kernel

/-- The last ring read of the scan in flight, and a commit in progress, meet the journal's invariant. -/
theorem test_JournalKept_met : JournalOk (scanning 31) ∧ JournalOk (committing .starting 1 ready) := by
  refine ⟨⟨by decide +kernel, fun c h => ?_, by decide +kernel, by decide +kernel, fun o h _ => ⟨rfl, fun _ => ⟨rfl, rfl⟩⟩,
    by decide +kernel⟩, ⟨by decide +kernel, fun c h => ?_, by decide +kernel, by decide +kernel, fun o h _ => ⟨rfl, ?_⟩,
    by decide +kernel⟩⟩
  · cases h
  · cases h
    decide
  · cases h
    intro e
    cases e

/-- A tripped PREFAIL condition, a tripped ADVISORY one, none, and an event that trips one. -/
theorem test_VerdictAndHealthFollowTripping_met :
    verdict (trip 2 (trip 0 ready)) = .failing ∧ verdict (trip 0 ready) = .advisory ∧ verdict ready = .good ∧
      isTripped aboutToTrip 2 = false ∧ isTripped (after (.readBlockCompletion .uncorrectable) aboutToTrip) 2 = true ∧
      (after (.readBlockCompletion .uncorrectable) aboutToTrip).attn.latched.getLsbD 2 = true := by decide +kernel

end Sys2Proof.Tests
end

section
/-! PROOFS. The records of tags and slots: which operations leave them all as they were, and what the others do to one. -/
namespace Sys2Proof.Machine

theorem tag_eq_of_req {s t : State} (h : t.req = s.req) (u : TagNo) : t.tag u = s.tag u := by
  simp [State.tag, h]

theorem slot_eq_of_pool {s t : State} (h : t.pool = s.pool) (k : SlotNo) : t.slot k = s.slot k := by
  simp [State.slot, h]

theorem opTag_eq_of_array {s t : State} (h : t.array = s.array) : opTag t = opTag s := by
  simp [opTag, h]

@[simp] theorem latch_records (c : Cause) (s : State) :
    (∀ u, (latch c s).tag u = s.tag u) ∧ (∀ k, (latch c s).slot k = s.slot k) ∧ opTag (latch c s) = opTag s :=
  ⟨fun u => tag_eq_of_req (by simp) u, fun k => slot_eq_of_pool (by simp) k, opTag_eq_of_array (by simp)⟩

@[simp] theorem bump_records (s : State) (i : CondId) :
    (∀ u, (s.bump i).tag u = s.tag u) ∧ (∀ k, (s.bump i).slot k = s.slot k) ∧ opTag (s.bump i) = opTag s :=
  ⟨fun u => tag_eq_of_req (by simp) u, fun k => slot_eq_of_pool (by simp) k, opTag_eq_of_array (by simp)⟩

@[simp] theorem setRaw_records (s : State) (i : CondId) (v : Nat) :
    (∀ u, (s.setRaw i v).tag u = s.tag u) ∧ (∀ k, (s.setRaw i v).slot k = s.slot k) ∧ opTag (s.setRaw i v) = opTag s :=
  ⟨fun u => tag_eq_of_req (by simp) u, fun k => slot_eq_of_pool (by simp) k, opTag_eq_of_array (by simp)⟩

@[simp] theorem removeRefresh_records (l : Nat) (s : State) :
    (∀ u, (removeRefresh l s).tag u = s.tag u) ∧ (∀ k, (removeRefresh l s).slot k = s.slot k) ∧ opTag (removeRefresh l s) = opTag s :=
  ⟨fun u => tag_eq_of_req (by simp) u, fun k => slot_eq_of_pool (by simp) k, opTag_eq_of_array (by simp)⟩

@[simp] theorem removePending_records (l : Nat) (s : State) :
    (∀ u, (removePending l s).tag u = s.tag u) ∧ (∀ k, (removePending l s).slot k = s.slot k) ∧ opTag (removePending l s) = opTag s :=
  ⟨fun u => tag_eq_of_req (by simp) u, fun k => slot_eq_of_pool (by simp) k, opTag_eq_of_array (by simp)⟩

@[simp] theorem offerPending_records (l : Nat) (s : State) :
    (∀ u, (offerPending l s).tag u = s.tag u) ∧ (∀ k, (offerPending l s).slot k = s.slot k) ∧ opTag (offerPending l s) = opTag s :=
  ⟨fun u => tag_eq_of_req (by simp) u, fun k => slot_eq_of_pool (by simp) k, opTag_eq_of_array (by simp)⟩

@[simp] theorem clearLists_records (l : Nat) (s : State) :
    (∀ u, (clearLists l s).tag u = s.tag u) ∧ (∀ k, (clearLists l s).slot k = s.slot k) ∧ opTag (clearLists l s) = opTag s :=
  ⟨fun u => tag_eq_of_req (by simp) u, fun k => slot_eq_of_pool (by simp) k, opTag_eq_of_array (by simp)⟩

@[simp] theorem handOff_records (l : Nat) (c : ReadClass) (s : State) :
    (∀ u, (handOff l c s).tag u = s.tag u) ∧ (∀ k, (handOff l c s).slot k = s.slot k) ∧ opTag (handOff l c s) = opTag s :=
  ⟨fun u => tag_eq_of_req (by simp) u, fun k => slot_eq_of_pool (by simp) k, opTag_eq_of_array (by simp)⟩

@[simp] theorem reportSpares_records (s : State) :
    (∀ u, (reportSpares s).tag u = s.tag u) ∧ (∀ k, (reportSpares s).slot k = s.slot k) ∧ opTag (reportSpares s) = opTag s :=
  ⟨fun u => tag_eq_of_req (by simp) u, fun k => slot_eq_of_pool (by simp) k, opTag_eq_of_array (by simp)⟩

@[simp] theorem retire_records (p : Nat) (s : State) :
    (∀ u, (retire p s).tag u = s.tag u) ∧ (∀ k, (retire p s).slot k = s.slot k) ∧ opTag (retire p s) = opTag s :=
  ⟨fun u => tag_eq_of_req (by simp) u, fun k => slot_eq_of_pool (by simp) k, opTag_eq_of_array (by simp)⟩

@[simp] theorem remapTo_records (l p : Nat) (s : State) :
    (∀ u, (remapTo l p s).tag u = s.tag u) ∧ (∀ k, (remapTo l p s).slot k = s.slot k) ∧ opTag (remapTo l p s) = opTag s :=
  ⟨fun u => tag_eq_of_req (by simp) u, fun k => slot_eq_of_pool (by simp) k, opTag_eq_of_array (by simp)⟩

@[simp] theorem cancelPatrol_records (l : Nat) (s : State) :
    (∀ u, (cancelPatrol l s).tag u = s.tag u) ∧ (∀ k, (cancelPatrol l s).slot k = s.slot k) ∧ opTag (cancelPatrol l s) = opTag s :=
  ⟨fun u => tag_eq_of_req (by simp) u, fun k => slot_eq_of_pool (by simp) k, opTag_eq_of_array (by simp)⟩

@[simp] theorem discardBuffer_records (s : State) :
    (∀ u, (discardBuffer s).tag u = s.tag u) ∧ (∀ k, (discardBuffer s).slot k = s.slot k) ∧ opTag (discardBuffer s) = opTag s :=
  ⟨fun u => tag_eq_of_req (by simp) u, fun k => slot_eq_of_pool (by simp) k, opTag_eq_of_array (by simp)⟩

@[simp] theorem commitReason_records (s : State) :
    (∀ u, (commitReason s).tag u = s.tag u) ∧ (∀ k, (commitReason s).slot k = s.slot k) ∧ opTag (commitReason s) = opTag s :=
  ⟨fun u => tag_eq_of_req (by simp) u, fun k => slot_eq_of_pool (by simp) k, opTag_eq_of_array (by simp)⟩

@[simp] theorem completeCommand_records (code : BitVec 8) (r : CmdResult) (s : State) :
    (∀ u, (completeCommand code r s).tag u = s.tag u) ∧ (∀ k, (completeCommand code r s).slot k = s.slot k) ∧ opTag (completeCommand code r s) = opTag s :=
  ⟨fun u => tag_eq_of_req (by simp) u, fun k => slot_eq_of_pool (by simp) k, opTag_eq_of_array (by simp)⟩

@[simp] theorem failWaitingCommand_records (s : State) :
    (∀ u, (failWaitingCommand s).tag u = s.tag u) ∧ (∀ k, (failWaitingCommand s).slot k = s.slot k) ∧ opTag (failWaitingCommand s) = opTag s :=
  ⟨fun u => tag_eq_of_req (by simp) u, fun k => slot_eq_of_pool (by simp) k, opTag_eq_of_array (by simp)⟩

@[simp] theorem releaseCommand_records (q : Nat) (s : State) :
    (∀ u, (releaseCommand q s).tag u = s.tag u) ∧ (∀ k, (releaseCommand q s).slot k = s.slot k) ∧ opTag (releaseCommand q s) = opTag s :=
  ⟨fun u => tag_eq_of_req (by simp) u, fun k => slot_eq_of_pool (by simp) k, opTag_eq_of_array (by simp)⟩

@[simp] theorem setPatrolStatus_records (st : PatrolStatus) (s : State) :
    (∀ u, (setPatrolStatus st s).tag u = s.tag u) ∧ (∀ k, (setPatrolStatus st s).slot k = s.slot k) ∧ opTag (setPatrolStatus st s) = opTag s :=
  ⟨fun u => tag_eq_of_req (by simp) u, fun k => slot_eq_of_pool (by simp) k, opTag_eq_of_array (by simp)⟩

@[simp] theorem quietOver_records (s : State) :
    (∀ u, (quietOver s).tag u = s.tag u) ∧ (∀ k, (quietOver s).slot k = s.slot k) ∧ opTag (quietOver s) = opTag s :=
  ⟨fun u => tag_eq_of_req (by simp) u, fun k => slot_eq_of_pool (by simp) k, opTag_eq_of_array (by simp)⟩

@[simp] theorem startQuiet_records (s : State) :
    (∀ u, (startQuiet s).tag u = s.tag u) ∧ (∀ k, (startQuiet s).slot k = s.slot k) ∧ opTag (startQuiet s) = opTag s :=
  ⟨fun u => tag_eq_of_req (by simp) u, fun k => slot_eq_of_pool (by simp) k, opTag_eq_of_array (by simp)⟩

@[simp] theorem closeBgRead_records (r : BackgroundRead) (c : ReadClass) (s : State) :
    (∀ u, (closeBgRead r c s).tag u = s.tag u) ∧ (∀ k, (closeBgRead r c s).slot k = s.slot k) ∧ opTag (closeBgRead r c s) = opTag s :=
  ⟨fun u => tag_eq_of_req (by simp) u, fun k => slot_eq_of_pool (by simp) k, opTag_eq_of_array (by simp)⟩

@[simp] theorem resolveOwedRefresh_records (s : State) :
    (∀ u, (resolveOwedRefresh s).tag u = s.tag u) ∧ (∀ k, (resolveOwedRefresh s).slot k = s.slot k) ∧ opTag (resolveOwedRefresh s) = opTag s :=
  ⟨fun u => tag_eq_of_req (by simp) u, fun k => slot_eq_of_pool (by simp) k, opTag_eq_of_array (by simp)⟩

@[simp] theorem haltPatrol_records (s : State) :
    (∀ u, (haltPatrol s).tag u = s.tag u) ∧ (∀ k, (haltPatrol s).slot k = s.slot k) ∧ opTag (haltPatrol s) = opTag s :=
  ⟨fun u => tag_eq_of_req (by simp) u, fun k => slot_eq_of_pool (by simp) k, opTag_eq_of_array (by simp)⟩

@[simp] theorem latchHealth_records (s₀ s : State) :
    (∀ u, (latchHealth s₀ s).tag u = s.tag u) ∧ (∀ k, (latchHealth s₀ s).slot k = s.slot k) ∧ opTag (latchHealth s₀ s) = opTag s :=
  ⟨fun u => tag_eq_of_req (by simp) u, fun k => slot_eq_of_pool (by simp) k, opTag_eq_of_array (by simp)⟩

@[simp] theorem serviceAppend_records (t : TagNo) (s : State) :
    (∀ u, (serviceAppend t s).tag u = s.tag u) ∧ (∀ k, (serviceAppend t s).slot k = s.slot k) ∧ opTag (serviceAppend t s) = opTag s :=
  ⟨fun u => tag_eq_of_req (by simp) u, fun k => slot_eq_of_pool (by simp) k, opTag_eq_of_array (by simp)⟩

@[simp] theorem drive_records (w : Word) (s : State) :
    (∀ u, (drive w s).tag u = s.tag u) ∧ (∀ k, (drive w s).slot k = s.slot k) ∧ opTag (drive w s) = opTag s :=
  ⟨fun u => tag_eq_of_req (by simp) u, fun k => slot_eq_of_pool (by simp) k, opTag_eq_of_array (by simp)⟩

@[simp] theorem idleUnit_records (s : State) :
    (∀ u, (idleUnit s).tag u = s.tag u) ∧ (∀ k, (idleUnit s).slot k = s.slot k) :=
  ⟨fun u => tag_eq_of_req (by simp) u, fun k => slot_eq_of_pool (by simp) k⟩

@[simp] theorem begin_records (o : ArrayOp) (s : State) :
    (∀ u, (begin o s).tag u = s.tag u) ∧ (∀ k, (begin o s).slot k = s.slot k) :=
  ⟨fun u => tag_eq_of_req (by simp) u, fun k => slot_eq_of_pool (by simp) k⟩

@[simp] theorem freeSlot_records (n : SlotNo) (s : State) :
    (∀ u, (freeSlot n s).tag u = s.tag u) ∧ opTag (freeSlot n s) = opTag s :=
  ⟨fun u => tag_eq_of_req (by simp) u, opTag_eq_of_array (by simp)⟩

@[simp] theorem freeSource_records (p : ProgramSource) (s : State) :
    (∀ u, (freeSource p s).tag u = s.tag u) ∧ opTag (freeSource p s) = opTag s :=
  ⟨fun u => tag_eq_of_req (by simp) u, opTag_eq_of_array (by simp)⟩

@[simp] theorem freeDataSlot_records (d : DataPlace) (s : State) :
    (∀ u, (freeDataSlot d s).tag u = s.tag u) ∧ opTag (freeDataSlot d s) = opTag s :=
  ⟨fun u => tag_eq_of_req (by simp) u, opTag_eq_of_array (by simp)⟩

@[simp] theorem freeSlotsOf_records (t : TagNo) (p : SlotState → Bool) (s : State) :
    (∀ u, (freeSlotsOf t p s).tag u = s.tag u) ∧ opTag (freeSlotsOf t p s) = opTag s :=
  ⟨fun u => tag_eq_of_req (by simp) u, opTag_eq_of_array (by simp)⟩

@[simp] theorem reserveSlot_records (n : SlotNo) (t : TagNo) (s : State) :
    (∀ u, (reserveSlot n t s).tag u = s.tag u) ∧ opTag (reserveSlot n t s) = opTag s :=
  ⟨fun u => tag_eq_of_req (by simp) u, opTag_eq_of_array (by simp)⟩

@[simp] theorem grantSlots_records (k : Nat) (s : State) :
    (∀ u, (grantSlots k s).tag u = s.tag u) ∧ opTag (grantSlots k s) = opTag s :=
  ⟨fun u => tag_eq_of_req (by simp) u, opTag_eq_of_array (by simp)⟩

@[simp] theorem closeQueue_records (s₀ s : State) :
    (∀ k, (closeQueue s₀ s).slot k = s.slot k) ∧ opTag (closeQueue s₀ s) = opTag s :=
  ⟨fun k => slot_eq_of_pool (by simp) k, opTag_eq_of_array (by simp)⟩

@[simp] theorem becomeEnding_records (t : TagNo) (s : State) :
    (∀ k, (becomeEnding t s).slot k = s.slot k) ∧ opTag (becomeEnding t s) = opTag s :=
  ⟨fun k => slot_eq_of_pool (by simp) k, opTag_eq_of_array (by simp)⟩

@[simp] theorem modTag_records (s : State) (t : TagNo) (f : Tag → Tag) :
    (∀ k, (s.modTag t f).slot k = s.slot k) ∧ opTag (s.modTag t f) = opTag s :=
  ⟨fun k => slot_eq_of_pool (by simp) k, opTag_eq_of_array (by simp)⟩

@[simp] theorem commitReasonFor_records (t : TagNo) (s : State) :
    (∀ k, (commitReasonFor t s).slot k = s.slot k) ∧ opTag (commitReasonFor t s) = opTag s :=
  ⟨fun k => slot_eq_of_pool (by simp) k, opTag_eq_of_array (by simp)⟩


@[simp] theorem setTag_opTag (s : State) (t : TagNo) (x : Tag) : opTag (s.setTag t x) = opTag s := rfl

@[simp] theorem setSlot_opTag (s : State) (n : SlotNo) (x : Slot) : opTag (s.setSlot n x) = opTag s := rfl

@[simp] theorem finish_opTag (t : TagNo) (st : Status) (s : State) : opTag (finish t st s) = opTag s := rfl
end Sys2Proof.Machine
end

section
/-! PROOFS. The close of an event, part by part: the queue, the slot grants, HEALTH. -/
namespace Sys2Proof.Machine

/-! ## The release of HELD tags -/

/-- Only the blockers and the state of a tag change at its release (R17). -/
@[simp] theorem releaseTag_keeps (s : State) (x : Tag) :
    (releaseTag s x).kind = x.kind ∧ (releaseTag s x).firstLbn = x.firstLbn ∧ (releaseTag s x).count = x.count ∧
    (releaseTag s x).urgent = x.urgent ∧ (releaseTag s x).noRetry = x.noRetry ∧
    (releaseTag s x).arrival = x.arrival ∧ (releaseTag s x).issued = x.issued ∧
    (releaseTag s x).completed = x.completed ∧ (releaseTag s x).moved = x.moved ∧
    (releaseTag s x).passed = x.passed ∧ (releaseTag s x).worst = x.worst ∧
    (releaseTag s x).retriesUsed = x.retriesUsed ∧ (releaseTag s x).reallocs = x.reallocs ∧
    (releaseTag s x).uncorrCount = x.uncorrCount ∧ (releaseTag s x).firstFail = x.firstFail ∧
    (releaseTag s x).needed = x.needed ∧ (releaseTag s x).abortMark = x.abortMark ∧
    (releaseTag s x).wpMark = x.wpMark ∧ (releaseTag s x).soFar = x.soFar ∧ (releaseTag s x).final = x.final ∧
    (releaseTag s x).cur = x.cur ∧ (releaseTag s x).prog = x.prog := by
  unfold releaseTag
  split <;> simp

theorem releaseTag_of_ne_held (s : State) (x : Tag) (h : x.state ≠ .held) : releaseTag s x = x := by
  simp [releaseTag, h]

/-- A release leads a HELD tag to HELD or QUEUED, and leaves every other tag alone. -/
theorem releaseTag_state (s : State) (x : Tag) :
    (releaseTag s x).state = x.state ∨ (x.state = .held ∧ (releaseTag s x).state = .queued) := by
  unfold releaseTag
  split
  · rename_i h
    have h : x.state = .held := by simpa using h
    dsimp only
    split <;> simp [h]
  · exact .inl rfl

/-- No release changes whether a tag is live. -/
@[simp] theorem releaseTag_live (s : State) (x : Tag) : (releaseTag s x).state.live = x.state.live := by
  rcases releaseTag_state s x with h | ⟨h, h'⟩
  · rw [h]
  · rw [h, h']
    rfl

/-- What a released tag still waits for is live, and a HELD tag waits for something (R4). -/
theorem releaseTag_held (s : State) (x : Tag) (h : (releaseTag s x).state = .held) :
    (releaseTag s x).blockers ≠ [] ∧ ∀ u ∈ (releaseTag s x).blockers, u ∈ x.blockers ∧ (s.tag u).state.live = true := by
  have hx : x.state = .held := by
    rcases releaseTag_state s x with h' | ⟨h', -⟩
    · rw [← h', h]
    · exact h'
  unfold releaseTag at h ⊢
  simp only [hx, beq_self_eq_true, if_true] at h ⊢
  refine ⟨fun e => ?_, fun u hu => List.mem_filter.1 hu⟩
  rw [e] at h
  simp at h

/-- A HELD tag whose blockers are all live, and not none, stays as it is. -/
theorem releaseTag_of_live (s : State) (x : Tag) (hn : x.state = .held → x.blockers ≠ [])
    (hl : x.state = .held → ∀ u ∈ x.blockers, (s.tag u).state.live = true) : releaseTag s x = x := by
  by_cases h : x.state = .held
  · have hf : x.blockers.filter (fun b => (s.tag b).state.live) = x.blockers := List.filter_eq_self.2 (hl h)
    unfold releaseTag
    simp only [h, beq_self_eq_true, if_true, hf]
    have he : x.blockers.isEmpty = false := by simpa using hn h
    rw [he]
    cases x
    simp_all
  · exact releaseTag_of_ne_held s x h

/-! ## The queue and the service list -/

/-- The service list after an event: the tags of the queue before it that are DONE have joined it (R51). -/
def serviceDones (s₀ s : State) : State :=
  (s₀.req.queue.filter fun t => (s.tag t).state == .done).foldl (fun s t => serviceAppend t s) s

@[simp] theorem serviceDones_keeps (s₀ s : State) :
    (serviceDones s₀ s).req = s.req ∧ (serviceDones s₀ s).patrol = s.patrol ∧ (serviceDones s₀ s).jrnl = s.jrnl ∧
    (serviceDones s₀ s).cfg = s.cfg := by
  simp [serviceDones]

/-- The tags of the queue that are live, in their order. -/
def liveQueue (s : State) : List TagNo := s.req.queue.filter fun t => (s.tag t).state.live

/-- The state after an event, but for what an emptied queue changes (R8, R17, R51). -/
def closedQueue (s₀ s : State) : State :=
  { serviceDones s₀ s with
    req := { s.req with tags := Vector.ofFn fun t : TagNo => releaseTag s (s.tag t), queue := liveQueue s } }

/-- The close of the queue: an emptied queue besides resets the arrival counter and starts the quiet timer. -/
theorem closeQueue_eq (s₀ s : State) :
    closeQueue s₀ s =
      if (liveQueue s).isEmpty && !s₀.req.queue.isEmpty then
        startQuiet { closedQueue s₀ s with req := { (closedQueue s₀ s).req with arrival := 0 } }
      else closedQueue s₀ s := by
  have hq : (serviceDones s₀ s).req = s.req := (serviceDones_keeps s₀ s).1
  have ht : ∀ u, (serviceDones s₀ s).tag u = s.tag u := tag_eq_of_req hq
  have hr : ∀ x, releaseTag (serviceDones s₀ s) x = releaseTag s x := fun x => by simp [releaseTag, ht]
  unfold closeQueue
  change (if ((serviceDones s₀ s).req.queue.filter fun t => ((serviceDones s₀ s).tag t).state.live).isEmpty && _ then
    startQuiet { serviceDones s₀ s with req := { (serviceDones s₀ s).req with
      tags := Vector.ofFn fun t : TagNo => releaseTag (serviceDones s₀ s) ((serviceDones s₀ s).tag t)
      queue := (serviceDones s₀ s).req.queue.filter fun t => ((serviceDones s₀ s).tag t).state.live
      arrival := 0 } } else
    { serviceDones s₀ s with req := { (serviceDones s₀ s).req with
      tags := Vector.ofFn fun t : TagNo => releaseTag (serviceDones s₀ s) ((serviceDones s₀ s).tag t)
      queue := (serviceDones s₀ s).req.queue.filter fun t => ((serviceDones s₀ s).tag t).state.live } }) = _
  simp only [hr, ht, hq]
  rfl

theorem closeQueue_tag (s₀ s : State) (u : TagNo) : (closeQueue s₀ s).tag u = releaseTag s (s.tag u) := by
  rw [closeQueue_eq]
  split <;> simp [State.tag, closedQueue]

theorem closeQueue_queue (s₀ s : State) :
    (closeQueue s₀ s).req.queue = s.req.queue.filter fun t => (s.tag t).state.live := by
  rw [closeQueue_eq]
  split
  · exact congrArg RequestUnit.queue (startQuiet_keeps _).2.2.1
  · rfl

/-- A tag stands in the queue after an event when it stood there and is live (R8, R14). -/
theorem mem_closeQueue_queue (s₀ s : State) (u : TagNo) :
    u ∈ (closeQueue s₀ s).req.queue ↔ u ∈ s.req.queue ∧ (s.tag u).state.live = true := by
  rw [closeQueue_queue, List.mem_filter]

theorem closeQueue_svc_list (s₀ s : State) : (closeQueue s₀ s).svc.list = (serviceDones s₀ s).svc.list := by
  rw [closeQueue_eq]
  split
  · simp [closedQueue]
  · rfl

theorem mem_foldl_serviceAppend (l : List TagNo) (s : State) (u : TagNo) :
    u ∈ (l.foldl (fun s t => serviceAppend t s) s).svc.list ↔ u ∈ l ∨ u ∈ s.svc.list := by
  induction l generalizing s with
  | nil => simp
  | cons t l ih =>
    rw [List.foldl_cons, ih, mem_serviceAppend, List.mem_cons]
    tauto

theorem foldl_serviceAppend_nodup (l : List TagNo) (s : State) (h : s.svc.list.Nodup) :
    (l.foldl (fun s t => serviceAppend t s) s).svc.list.Nodup := by
  induction l generalizing s with
  | nil => exact h
  | cons t l ih => exact ih _ (serviceAppend_nodup t s h)

/-- At the close of an event the tags of the queue before it that are DONE have joined the service list (R51). -/
theorem mem_closeQueue_svc (s₀ s : State) (u : TagNo) :
    u ∈ (closeQueue s₀ s).svc.list ↔ (u ∈ s₀.req.queue ∧ (s.tag u).state = .done) ∨ u ∈ s.svc.list := by
  rw [closeQueue_svc_list, serviceDones, mem_foldl_serviceAppend, List.mem_filter]
  simp

theorem closeQueue_svc_nodup (s₀ s : State) (h : s.svc.list.Nodup) : (closeQueue s₀ s).svc.list.Nodup := by
  rw [closeQueue_svc_list]
  exact foldl_serviceAppend_nodup _ s h

theorem liveQueue_eq_nil (s : State) : liveQueue s = [] ↔ ∀ u ∈ s.req.queue, (s.tag u).state.live = false := by
  simp [liveQueue]

/-- While a tag of the queue is live, neither the patrol nor the arrival counter changes (R13, R135). -/
theorem closeQueue_of_live (s₀ s : State) (u : TagNo) (hu : u ∈ s.req.queue) (hl : (s.tag u).state.live = true) :
    (closeQueue s₀ s).patrol = s.patrol ∧ (closeQueue s₀ s).req.arrival = s.req.arrival := by
  have hne : (liveQueue s).isEmpty = false :=
    List.isEmpty_eq_false_iff_exists_mem.2 ⟨u, List.mem_filter.2 ⟨hu, hl⟩⟩
  rw [closeQueue_eq, hne]
  simp [closedQueue]

/-- The patrol's quiet timer starts, if anything of it changes (R135). -/
theorem closeQueue_patrol (s₀ s : State) :
    (closeQueue s₀ s).patrol = s.patrol ∨ ∃ s', s'.patrol = s.patrol ∧ s'.jrnl = s.jrnl ∧ s'.cfg = s.cfg ∧
      (closeQueue s₀ s).patrol = (startQuiet s').patrol := by
  rw [closeQueue_eq]
  split
  · exact .inr ⟨_, by simp [closedQueue], by simp [closedQueue], by simp [closedQueue], rfl⟩
  · exact .inl (by simp [closedQueue])

/-- The arrival counter is 0 once the queue has become empty, and is else as it was (R13). -/
theorem closeQueue_arrival (s₀ s : State) :
    ((closeQueue s₀ s).req.queue = [] ∧ s₀.req.queue ≠ [] ∧ (closeQueue s₀ s).req.arrival = 0) ∨
    (((closeQueue s₀ s).req.queue = [] → s₀.req.queue = []) ∧ (closeQueue s₀ s).req.arrival = s.req.arrival) := by
  have hq : (closeQueue s₀ s).req.queue = liveQueue s := closeQueue_queue s₀ s
  rw [hq, closeQueue_eq]
  split
  · rename_i h
    have h : liveQueue s = [] ∧ s₀.req.queue ≠ [] := by simpa using h
    exact .inl ⟨h.1, h.2, by simp⟩
  · rename_i h
    have h : liveQueue s = [] → s₀.req.queue = [] := by simpa using h
    exact .inr ⟨h, by simp [closedQueue]⟩

/-- The close of an event that has changed nothing of the queue: no tag of it is DONE, none is to be released (R8, R17). -/
theorem closeQueue_of_unchanged (s₀ s : State) (hq : s₀.req.queue = s.req.queue)
    (hl : ∀ u ∈ s.req.queue, (s.tag u).state.live = true) (hh : HeldOk s) : closeQueue s₀ s = s := by
  have hlive : liveQueue s = s.req.queue := List.filter_eq_self.2 hl
  have hdones : serviceDones s₀ s = s := by
    have hnil : (s₀.req.queue.filter fun t => (s.tag t).state == .done) = [] := by
      rw [List.filter_eq_nil_iff, hq]
      intro u hu hd
      have hd : (s.tag u).state = .done := by simpa using hd
      have hu := hl u hu
      rw [hd] at hu
      cases hu
    rw [serviceDones, hnil]
    rfl
  have htags : (Vector.ofFn fun t : TagNo => releaseTag s (s.tag t)) = s.req.tags := by
    ext k hk
    rw [Vector.getElem_ofFn]
    have h := releaseTag_of_live s (s.tag ⟨k, hk⟩) (fun h => (hh _ h).1) fun h => (hh _ h).2
    rw [h]
    rfl
  have hc : closedQueue s₀ s = s := by
    unfold closedQueue
    rw [hdones, htags, hlive]
  rw [closeQueue_eq, hlive, hq, hc]
  simp

/-! ## Slot grants -/

/-- A tag that may want a slot, whatever it owns: HELD, QUEUED or ACTIVE without the abort mark, of a kind that uses slots
(R30, R31). -/
def maySlot (x : Tag) : Prop :=
  (x.state = .held ∨ x.state = .queued ∨ x.state = .active) ∧ x.abortMark = false ∧
    (x.kind = .read ∨ (x.kind = .write ∧ x.wpMark = false))

theorem maySlot_of_wantsOne (s : State) (n : TagNo) (h : wantsOne s n) : maySlot (s.tag n) := by
  obtain ⟨hs, ha, -, hk⟩ := h
  refine ⟨hs, ha, ?_⟩
  rcases hk with ⟨hk, -⟩ | ⟨hk, hw, -⟩
  · exact .inl hk
  · exact .inr ⟨hk, hw⟩

/-- A grant that is given goes from the first free slot to a tag of the slot-wait list. -/
theorem grantSlots_succ (fuel : Nat) (s : State) :
    grantSlots (fuel + 1) s = s ∨ ∃ n t, (s.slot n).state = .free ∧ t ∈ s.req.queue ∧ maySlot (s.tag t) ∧
      grantSlots (fuel + 1) s = grantSlots fuel (reserveSlot n t s) := by
  cases hf : freeSlots s with
  | nil => exact .inl (by simp [grantSlots, hf])
  | cons n ns =>
    cases hw : slotWait s with
    | nil => exact .inl (by simp [grantSlots, hf, hw])
    | cons t ts =>
      have hn : n ∈ freeSlots s := by simp [hf]
      have ht : eligible s t := (mem_slotWait s t).1 (by simp [hw])
      exact .inr ⟨n, t, (mem_freeSlots s n).1 hn, ht.1, maySlot_of_wantsOne s t ht.2.1, by simp [grantSlots, hf, hw]⟩

/-- An empty RESERVED slot of a tag, as a grant gives it (R34). -/
def reservedFor (u : TagNo) : Slot := { state := .reserved, owner := some u, lbn := none, pos := 0, data := [] }

/-- After the grants a slot is as it was, or it was FREE and is RESERVED for a tag of the queue (R34). -/
theorem grantSlots_slot (fuel : Nat) (s : State) (k : SlotNo) :
    (grantSlots fuel s).slot k = s.slot k ∨
      ((s.slot k).state = .free ∧ ∃ u ∈ s.req.queue, maySlot (s.tag u) ∧ (grantSlots fuel s).slot k = reservedFor u) := by
  induction fuel generalizing s with
  | zero => exact .inl rfl
  | succ fuel ih =>
    rcases grantSlots_succ fuel s with h | ⟨n, t, hn, ht, hm, h⟩
    · rw [h]
      exact .inl rfl
    · rw [h]
      have hs := reserveSlot_slot n t s k
      rcases ih (reserveSlot n t s) with h' | ⟨hf, u, hu, hm', h'⟩
      · by_cases hk : k = n
        · subst hk
          rw [if_pos rfl] at hs
          exact .inr ⟨hn, t, ht, hm, by rw [h', hs]; rfl⟩
        · rw [if_neg hk] at hs
          exact .inl (by rw [h', hs])
      · simp only [reserveSlot_keeps, reserveSlot_records] at hu hm'
        refine .inr ⟨?_, u, hu, hm', h'⟩
        by_cases hk : k = n
        · exact hk ▸ hn
        · rwa [hs, if_neg hk] at hf

theorem mem_reserveSlot_svc (n : SlotNo) (t u : TagNo) (s : State) (h : u ∈ (reserveSlot n t s).svc.list) :
    u = t ∨ u ∈ s.svc.list := by
  unfold reserveSlot at h
  dsimp only at h
  split at h
  · rw [mem_serviceAppend] at h
    simpa using h
  · exact .inr h

theorem reserveSlot_svc_of_mem (n : SlotNo) (t u : TagNo) (s : State) (h : u ∈ s.svc.list) :
    u ∈ (reserveSlot n t s).svc.list := by
  unfold reserveSlot
  dsimp only
  split
  · exact (mem_serviceAppend t u _).2 (.inr h)
  · exact h

theorem reserveSlot_svc_nodup (n : SlotNo) (t : TagNo) (s : State) (h : s.svc.list.Nodup) :
    (reserveSlot n t s).svc.list.Nodup := by
  unfold reserveSlot
  dsimp only
  split
  · exact serviceAppend_nodup t _ h
  · exact h

/-- The grants add to the service list only tags that take a slot (R34, R50). -/
theorem mem_grantSlots_svc (fuel : Nat) (s : State) (u : TagNo) (h : u ∈ (grantSlots fuel s).svc.list) :
    u ∈ s.svc.list ∨ (u ∈ s.req.queue ∧ maySlot (s.tag u)) := by
  induction fuel generalizing s with
  | zero => exact .inl h
  | succ fuel ih =>
    rcases grantSlots_succ fuel s with e | ⟨n, t, -, ht, hm, e⟩
    · exact .inl (e ▸ h)
    · rw [e] at h
      rcases ih _ h with h | ⟨hu, hm'⟩
      · rcases mem_reserveSlot_svc n t u s h with rfl | h
        · exact .inr ⟨ht, hm⟩
        · exact .inl h
      · exact .inr ⟨by simpa using hu, by simpa using hm'⟩

theorem grantSlots_svc_of_mem (fuel : Nat) (s : State) (u : TagNo) (h : u ∈ s.svc.list) :
    u ∈ (grantSlots fuel s).svc.list := by
  induction fuel generalizing s with
  | zero => exact h
  | succ fuel ih =>
    rcases grantSlots_succ fuel s with e | ⟨n, t, -, -, -, e⟩
    · rwa [e]
    · rw [e]
      exact ih _ (reserveSlot_svc_of_mem n t u s h)

theorem grantSlots_svc_nodup (fuel : Nat) (s : State) (h : s.svc.list.Nodup) : (grantSlots fuel s).svc.list.Nodup := by
  induction fuel generalizing s with
  | zero => exact h
  | succ fuel ih =>
    rcases grantSlots_succ fuel s with e | ⟨n, t, -, -, -, e⟩
    · rwa [e]
    · rw [e]
      exact ih _ (reserveSlot_svc_nodup n t s h)

/-- With nothing to grant nothing is granted (R34). -/
theorem grantSlots_of_granted (fuel : Nat) (s : State) (h : SlotsGranted s) : grantSlots fuel s = s := by
  cases fuel with
  | zero => rfl
  | succ fuel =>
    rcases (slotsGranted_iff s).1 h with h | h
    · simp [grantSlots, h]
    · cases hf : freeSlots s <;> simp [grantSlots, h, hf]

/-! ## HEALTH -/

/-- An event that changes no condition latches no HEALTH (R176). -/
theorem latchHealth_of_cond (s₀ s : State) (h : s.cond = s₀.cond) : latchHealth s₀ s = s := by
  have hn : (List.finRange 12).any (fun i => isTripped s i && !isTripped s₀ i) = false := by
    simp [isTripped, h]
  rw [latchHealth, hn]
  rfl

/-- A latched cause stays latched while HEALTH is added. -/
theorem latchHealth_keeps_bits (s₀ s : State) (k : Nat) (h : s.attn.latched.getLsbD k = true) :
    (latchHealth s₀ s).attn.latched.getLsbD k = true := by
  unfold latchHealth
  split
  · exact latch_keeps_bits _ _ _ h
  · exact h

end Sys2Proof.Machine
end

section
/-! PROOFS. The arbiter: what it can choose, and what each grant does (section 4.3). -/
namespace Sys2Proof.Machine

/-! ## What the arbiter can choose -/

/-- QUEUED or ACTIVE with neither mark: what every grant to a tag asks of it (R70). -/
def Runnable (x : Tag) : Prop := (x.state = .queued ∨ x.state = .active) ∧ x.abortMark = false ∧ x.wpMark = false

/-- The grants that a tag can be given, each with what it asks of the state (R70, R73). -/
inductive TagGrant (s : State) (n : TagNo) : Grant → Prop
  | load (k : SlotNo) (rest : List SlotNo) : (s.tag n).kind = .read → (s.tag n).cur = none →
      slotsOf s n (· == .reserved) = k :: rest → TagGrant s n (.load n)
  | retry (c : CurrentBlock) : (s.tag n).kind = .read ∨ (s.tag n).kind = .check → (s.tag n).cur = some c →
      c.retryOwed = true → TagGrant s n (.retry n)
  | checkRead : (s.tag n).kind = .check → (s.tag n).cur = none → (s.tag n).issued < (s.tag n).count →
      TagGrant s n (.checkRead n)
  | programSlot (k : SlotNo) : (s.tag n).kind = .write → s.jrnl.mode ≠ .readOnly → (s.tag n).prog = none →
      lowestBound s (slotsOf s n (· == .full)) = some k → TagGrant s n (.program n)
  | programZero : (s.tag n).kind = .zero → s.jrnl.mode ≠ .readOnly → (s.tag n).prog = none →
      (s.tag n).issued < (s.tag n).count → TagGrant s n (.program n)
  | reallocate (b : BlockInProgram) (p : Nat) (ps : List Nat) : (s.tag n).kind.writes = true →
      s.jrnl.mode ≠ .readOnly → (s.tag n).prog = some b → b.owed = true → freeSpares s = p :: ps →
      TagGrant s n (.reallocate n)

/-- The grants of background work, each with what it asks of the state (R72). -/
inductive BackgroundGrant (s : State) : Grant → Prop
  | retry (r : BackgroundRead) : s.patrol.bgRead = some r → r.retryOwed = true → BackgroundGrant s .patrolRetry
  | reallocate (b : BlockInProgram) (p : Nat) (ps : List Nat) : s.patrol.bgRead = none →
      s.patrol.refreshBlock = some b → b.owed = true → freeSpares s = p :: ps → BackgroundGrant s .refreshReallocate
  | program : s.patrol.bgRead = none → s.patrol.refreshBlock = none → s.patrol.buf.valid = true →
      BackgroundGrant s .refreshProgram
  | refreshRead (l : Nat) (rest : List Nat) : s.patrol.bgRead = none → s.patrol.refreshBlock = none →
      s.patrol.buf.valid = false → s.map.refresh = l :: rest → BackgroundGrant s .refreshRead
  | patrolRead : s.patrol.bgRead = none → s.patrol.refreshBlock = none → s.patrol.buf.valid = false →
      s.map.refresh = [] → s.patrol.state = .running → BackgroundGrant s .patrolRead

/-- What the arbiter can choose: journal work, the first runnable tag's, or background work (R68, R69, R70, R72). -/
inductive Choice (s : State) : Grant → Prop
  | ringRead (p : Nat) : s.jrnl.scanNext = some p → s.jrnl.mode = .starting → Choice s (.ringRead p)
  | commitFirst : s.jrnl.scanNext = none → s.jrnl.mode ≠ .readOnly → s.jrnl.commit = none →
      s.jrnl.commitNeeded = true → Choice s .commitFirst
  | commitNext (c : Commit) : s.jrnl.scanNext = none → s.jrnl.mode ≠ .readOnly → s.jrnl.commit = some c →
      Choice s .commitNext
  | tag (n : TagNo) (g : Grant) (pre post : List TagNo) : ¬ journalDue s → s.req.queue = pre ++ n :: post →
      (∀ u ∈ pre, tagWork s u = none) → Runnable (s.tag n) → TagGrant s n g → Choice s g
  | background (g : Grant) : ¬ journalDue s → s.req.queue = [] → s.patrol.quietElapsed = true →
      s.jrnl.mode = .ready → BackgroundGrant s g → Choice s g

theorem lowestBound_isSome (s : State) (l : List SlotNo) (h : l ≠ []) : ∃ k, lowestBound s l = some k := by
  cases l with
  | nil => exact absurd rfl h
  | cons n ns =>
    unfold lowestBound
    split
    · exact ⟨_, rfl⟩
    · split <;> exact ⟨_, rfl⟩

/-- An owed reallocation is offered while a spare is free (R103). -/
theorem owedWork_cases {s : State} {b : BlockInProgram} {g g' : Grant}
    (h : (if b.owed && !(freeSpares s).isEmpty then some g else none) = some g') :
    g' = g ∧ b.owed = true ∧ ∃ p ps, freeSpares s = p :: ps := by
  split at h
  · rename_i hc
    cases h
    cases hf : freeSpares s with
    | nil => simp [hf] at hc
    | cons p ps => exact ⟨rfl, by simpa [hf] using hc, p, ps, rfl⟩
  · cases h

/-- The work of a tag is one of its grants (R70, R71, R73). -/
theorem tagWork_cases {s : State} {n : TagNo} {g : Grant} (h : tagWork s n = some g) :
    Runnable (s.tag n) ∧ TagGrant s n g := by
  unfold tagWork at h
  simp only [] at h
  split at h
  · cases h
  · rename_i hr
    have hr : Runnable (s.tag n) := by simpa [Runnable, and_assoc, or_iff_not_imp_left] using hr
    refine ⟨hr, ?_⟩
    split at h
    case h_1 hk =>
      split at h
      case h_1 c hc =>
        split at h
        · rename_i ho
          cases h
          exact .retry c (.inl hk) hc ho
        · cases h
      case h_2 hc =>
        cases hs : slotsOf s n (· == .reserved) with
        | nil => simp [hs] at h
        | cons k rest =>
          simp only [hs, List.isEmpty_cons, Bool.false_eq_true, if_false, Option.some.injEq] at h
          subst h
          exact .load k rest hk hc hs
    case h_2 hk =>
      split at h
      case h_1 c hc =>
        split at h
        · rename_i ho
          cases h
          exact .retry c (.inr hk) hc ho
        · cases h
      case h_2 hc =>
        split at h
        · rename_i hi
          cases h
          exact .checkRead hk hc hi
        · cases h
    case h_3 hk =>
      split at h
      · cases h
      · rename_i hm
        have hm : s.jrnl.mode ≠ .readOnly := by simpa using hm
        split at h
        case h_1 b hb =>
          obtain ⟨rfl, ho, p, ps, hf⟩ := owedWork_cases h
          exact .reallocate b p ps (by rw [hk]; rfl) hm hb ho hf
        case h_2 hp =>
          by_cases hs : slotsOf s n (· == .full) = []
          · simp [hs] at h
          · obtain ⟨k, hl⟩ := lowestBound_isSome s _ hs
            have he : (slotsOf s n (· == .full)).isEmpty = false := by simpa using hs
            simp only [he, Bool.false_eq_true, if_false, Option.some.injEq] at h
            subst h
            exact .programSlot k hk hm hp hl
    case h_4 hk =>
      split at h
      · cases h
      · rename_i hm
        have hm : s.jrnl.mode ≠ .readOnly := by simpa using hm
        split at h
        case h_1 b hb =>
          obtain ⟨rfl, ho, p, ps, hf⟩ := owedWork_cases h
          exact .reallocate b p ps (by rw [hk]; rfl) hm hb ho hf
        case h_2 hp =>
          split at h
          · rename_i hi
            cases h
            exact .programZero hk hm hp hi
          · cases h

/-- Background work is one of the background grants, in READY with the queue empty and quiet elapsed (R72). -/
theorem backgroundWork_cases {s : State} {g : Grant} (h : backgroundWork s = some g) :
    s.req.queue = [] ∧ s.patrol.quietElapsed = true ∧ s.jrnl.mode = .ready ∧ BackgroundGrant s g := by
  unfold backgroundWork at h
  simp only [] at h
  split at h
  · cases h
  · rename_i hp
    have hp : ((s.req.queue = [] ∧ s.patrol.quietElapsed = true) ∧ ¬ s.jrnl.mode = .starting) ∧
        s.jrnl.mode = .ready := by simpa [bgPermitted, foregroundIdle] using hp
    refine ⟨hp.1.1.1, hp.1.1.2, hp.2, ?_⟩
    split at h
    case h_1 r hr =>
      split at h
      · rename_i ho
        cases h
        exact .retry r hr ho
      · cases h
    case h_2 b hr hb =>
      obtain ⟨rfl, ho, p, ps, hf⟩ := owedWork_cases h
      exact .reallocate b p ps hr hb ho hf
    case h_3 hr hb =>
      split at h
      · rename_i hv
        cases h
        exact .program hr hb hv
      · rename_i hv
        have hv : s.patrol.buf.valid = false := by simpa using hv
        cases hl : s.map.refresh with
        | nil =>
          simp only [hl, List.isEmpty_nil, Bool.not_true, Bool.false_eq_true, if_false] at h
          split at h
          · rename_i hst
            cases h
            exact .patrolRead hr hb hv hl (by simpa using hst)
          · cases h
        | cons l rest =>
          simp only [hl, List.isEmpty_cons, Bool.not_false, if_true, Option.some.injEq] at h
          subst h
          exact .refreshRead l rest hr hb hv hl

theorem journalWork_cases {s : State} {g : Grant} (h : journalWork s = some g) : Choice s g := by
  unfold journalWork at h
  split at h
  case h_1 p hp =>
    split at h
    · rename_i hm
      cases h
      exact .ringRead p hp (by simpa using hm)
    · cases h
  case h_2 hp =>
    split at h
    · cases h
    · rename_i hm
      have hm : s.jrnl.mode ≠ .readOnly := by simpa using hm
      cases hc : s.jrnl.commit with
      | some c =>
        simp only [hc, Option.isSome_some, if_true, Option.some.injEq] at h
        subst h
        exact .commitNext c hp hm hc
      | none =>
        simp only [hc, Option.isSome_none, Bool.false_eq_true, if_false] at h
        split at h
        · rename_i hn
          cases h
          exact .commitFirst hp hm hc hn
        · cases h

theorem not_journalDue_of_none {s : State} (h : journalWork s = none) : ¬ journalDue s := by
  rw [← journalWork_isSome, h]
  simp

/-- The arbiter's choice is one of the cases of `Choice` (R68). -/
theorem choose_cases {s : State} {g : Grant} (h : choose s = some g) : Choice s g := by
  unfold choose at h
  cases hj : journalWork s with
  | some g' =>
    rw [hj] at h
    cases h
    exact journalWork_cases hj
  | none =>
    have hd := not_journalDue_of_none hj
    rw [hj, Option.none_or] at h
    cases hf : foregroundWork s with
    | some g' =>
      rw [hf] at h
      cases h
      obtain ⟨pre, n, post, hq, hg, hpre⟩ := List.findSome?_eq_some_iff.1 hf
      obtain ⟨hr, hg⟩ := tagWork_cases hg
      exact .tag n _ pre post hd hq hpre hr hg
    | none =>
      rw [hf, Option.none_or] at h
      obtain ⟨hq, he, hm, hg⟩ := backgroundWork_cases h
      exact .background g hd hq he hm hg

/-! ## What each grant does -/

@[simp] theorem activate_keeps (x : Tag) :
    x.activate.kind = x.kind ∧ x.activate.firstLbn = x.firstLbn ∧ x.activate.count = x.count ∧
    x.activate.urgent = x.urgent ∧ x.activate.noRetry = x.noRetry ∧ x.activate.arrival = x.arrival ∧
    x.activate.blockers = x.blockers ∧ x.activate.issued = x.issued ∧ x.activate.completed = x.completed ∧
    x.activate.moved = x.moved ∧ x.activate.passed = x.passed ∧ x.activate.worst = x.worst ∧
    x.activate.retriesUsed = x.retriesUsed ∧ x.activate.reallocs = x.reallocs ∧
    x.activate.uncorrCount = x.uncorrCount ∧ x.activate.firstFail = x.firstFail ∧ x.activate.needed = x.needed ∧
    x.activate.abortMark = x.abortMark ∧ x.activate.wpMark = x.wpMark ∧ x.activate.soFar = x.soFar ∧
    x.activate.final = x.final ∧ x.activate.cur = x.cur ∧ x.activate.prog = x.prog := by
  unfold Tag.activate
  split <;> simp

/-- A runnable tag is ACTIVE once a first grant of a block has activated it (R5). -/
theorem activate_state (x : Tag) (h : Runnable x) : x.activate.state = .active := by
  unfold Tag.activate
  obtain ⟨h | h, -, -⟩ := h <;> simp [h]

/-- The slot that a load takes, with the block it is to hold (R36). -/
def Slot.loadingOf (x : Slot) (lbn : Nat) : Slot := { x with state := .loading, lbn := some lbn }

/-- A tag whose next block is being read (R78). -/
def Tag.reading (x : Tag) : Tag :=
  { x.activate with
    issued := x.issued + 1
    cur := some { lbn := x.firstLbn + x.issued, retries := 0, retryOwed := false, inFlight := true } }

/-- A tag whose current block is being read again (R80). -/
def Tag.retrying (x : Tag) (c : CurrentBlock) : Tag :=
  { x with
    retriesUsed := if x.kind == .read then x.retriesUsed + 1 else x.retriesUsed
    cur := some { c with retries := c.retries + 1, retryOwed := false, inFlight := true } }

/-- A tag whose next block is being programmed in place (R97). -/
def Tag.programming (x : Tag) (lbn : Nat) (src : ProgramSource) (pbn : Nat) : Tag :=
  { x.activate with
    issued := x.issued + 1
    prog := some { lbn := lbn, source := src, stage := .inPlace, target := pbn, inFlight := true, owed := false } }

/-- The data place of a retry: the LOADING slot of the tag, if it has one (R80). -/
def retryPlace (s : State) (n : TagNo) : DataPlace :=
  match slotsOf s n (· == .loading) with
  | [] => .none
  | k :: _ => .slot k

theorem grantLoad_eq (n : TagNo) (s : State) (k : SlotNo) (rest : List SlotNo)
    (h : slotsOf s n (· == .reserved) = k :: rest) :
    grantLoad n s =
      begin (readOp s ((s.tag n).firstLbn + (s.tag n).issued) (.tag n) .load (.slot k))
        ((s.setSlot k ((s.slot k).loadingOf ((s.tag n).firstLbn + (s.tag n).issued))).setTag n (s.tag n).reading) := by
  unfold grantLoad
  rw [h]
  rfl

theorem grantCheckRead_eq (n : TagNo) (s : State) :
    grantCheckRead n s =
      begin (readOp s ((s.tag n).firstLbn + (s.tag n).issued) (.tag n) .checkRead .none)
        (s.setTag n (s.tag n).reading) := rfl

theorem grantRetry_eq (n : TagNo) (s : State) (c : CurrentBlock) (h : (s.tag n).cur = some c) :
    grantRetry n s =
      begin (readOp s c.lbn (.tag n) .retry (retryPlace s n)) (s.setTag n ((s.tag n).retrying c)) := by
  unfold grantRetry
  simp only [h]
  rfl

theorem grantProgram_write_eq (n : TagNo) (s : State) (k : SlotNo) (hk : (s.tag n).kind = .write)
    (h : lowestBound s (slotsOf s n (· == .full)) = some k) :
    grantProgram n s =
      begin (programOp ((s.slot k).lbn.getD 0) (translate s ((s.slot k).lbn.getD 0)) (.tag n) .programInPlace (.slot k)
          (s.slot k).data)
        ((s.setSlot k { s.slot k with state := .programming }).setTag n
          ((s.tag n).programming ((s.slot k).lbn.getD 0) (.slot k) (translate s ((s.slot k).lbn.getD 0)))) := by
  unfold grantProgram
  simp only [hk, h, sourceData, setSlot_slot_same]
  rfl

theorem grantProgram_zero_eq (n : TagNo) (s : State) (hk : (s.tag n).kind = .zero) :
    grantProgram n s =
      begin (programOp ((s.tag n).firstLbn + (s.tag n).issued)
          (translate s ((s.tag n).firstLbn + (s.tag n).issued)) (.tag n) .programInPlace .zeroSource zeroWords)
        (s.setTag n ((s.tag n).programming ((s.tag n).firstLbn + (s.tag n).issued) .zeroSource
          (translate s ((s.tag n).firstLbn + (s.tag n).issued)))) := by
  unfold grantProgram
  simp only [hk]
  rfl

theorem grantReallocate_eq (n : TagNo) (s : State) (b : BlockInProgram) (p : Nat) (ps : List Nat)
    (hb : (s.tag n).prog = some b) (hf : freeSpares s = p :: ps) :
    grantReallocate n s =
      begin (programOp b.lbn p (.tag n) .reallocation (sourceData s b.source).1 (sourceData s b.source).2)
        (s.setTag n { s.tag n with prog := some (b.onSpare p) }) := by
  unfold grantReallocate
  simp only [hb, hf]

@[simp] theorem begin_op (o : ArrayOp) (s : State) : (begin o s).array.op = some o := rfl

theorem opTag_of_op {s : State} {o : ArrayOp} {n : TagNo} (h : s.array.op = some o) (hr : o.requester = .tag n) :
    opTag s = some n := by
  simp [opTag, h, hr]

theorem opTag_of_idle {s : State} (h : s.array.op = none) : opTag s = none := by
  simp [opTag, h]

/-- The operation in flight of a tag names it as its requester. -/
theorem op_of_opTag {s : State} {n : TagNo} (h : opTag s = some n) :
    ∃ o, s.array.op = some o ∧ o.requester = .tag n := by
  unfold opTag at h
  split at h
  · rename_i o ho
    split at h
    · rename_i t hr
      cases h
      exact ⟨o, ho, hr⟩
    · cases h
    · cases h
    · cases h
  · cases h

/-- The records that a grant to a tag can lead to (R78, R80, R97, R103). -/
inductive TagEffect (s : State) (n : TagNo) : Tag → Prop
  | reading : (s.tag n).kind.writes = false → (s.tag n).cur = none → TagEffect s n (s.tag n).reading
  | retrying (c : CurrentBlock) : (s.tag n).kind.writes = false → (s.tag n).cur = some c → c.retryOwed = true →
      TagEffect s n ((s.tag n).retrying c)
  | programming (lbn : Nat) (src : ProgramSource) (pbn : Nat) : (s.tag n).kind.writes = true →
      s.jrnl.mode ≠ .readOnly → (s.tag n).prog = none → TagEffect s n ((s.tag n).programming lbn src pbn)
  | onSpare (b : BlockInProgram) (p : Nat) (ps : List Nat) : (s.tag n).kind.writes = true →
      s.jrnl.mode ≠ .readOnly → (s.tag n).prog = some b → b.owed = true → freeSpares s = p :: ps →
      TagEffect s n { s.tag n with prog := some (b.onSpare p) }

/-- The slots that a grant to a tag can lead to: a load takes a RESERVED slot, a program a FULL one (R36, R97). -/
inductive SlotEffect (s : State) (k : SlotNo) : Slot → Prop
  | loading (n : TagNo) (lbn : Nat) : (s.slot k).owner = some n → (s.slot k).state = .reserved → Runnable (s.tag n) →
      SlotEffect s k ((s.slot k).loadingOf lbn)
  | programming (n : TagNo) : (s.slot k).owner = some n → (s.slot k).state = .full → Runnable (s.tag n) →
      SlotEffect s k { s.slot k with state := .programming }

theorem lowestBound_mem {s : State} {l : List SlotNo} {k : SlotNo} (h : lowestBound s l = some k) : k ∈ l := by
  induction l generalizing k with
  | nil => cases h
  | cons n ns ih =>
    unfold lowestBound at h
    split at h
    · cases h
      exact List.mem_cons_self ..
    · rename_i m hm
      split at h <;> cases h
      · exact List.mem_cons_self ..
      · exact List.mem_cons_of_mem _ (ih hm)

/-- A grant to a tag leaves every other tag and the slots of every other tag as they were, and is of that tag's
operation. -/
theorem TagGrant.effect {s : State} {n : TagNo} {g : Grant} (h : TagGrant s n g) (hr : Runnable (s.tag n)) :
    opTag (applyGrant g s) = some n ∧ (∀ u, u ≠ n → (applyGrant g s).tag u = s.tag u) ∧
      TagEffect s n ((applyGrant g s).tag n) ∧
      ∀ k, (applyGrant g s).slot k = s.slot k ∨ SlotEffect s k ((applyGrant g s).slot k) := by
  cases h with
  | load k rest hk hc hs =>
    have hm : (s.slot k).owner = some n ∧ ((s.slot k).state == .reserved) = true :=
      (mem_slotsOf s n (· == .reserved) k).1 (by rw [hs]; exact List.mem_cons_self ..)
    have e := grantLoad_eq n s k rest hs
    refine ⟨by simp [applyGrant, e, opTag, readOp], fun u hu => ?_, ?_, fun m => ?_⟩
    · simp [applyGrant, e, setTag_tag_other _ _ _ _ hu]
    · simpa [applyGrant, e] using TagEffect.reading (by rw [hk]; rfl) hc
    · simp only [applyGrant, e, begin_records, setTag_slot, setSlot_slot]
      by_cases h : m = k
      · subst h
        rw [if_pos rfl]
        exact .inr (.loading n _ hm.1 (by simpa using hm.2) hr)
      · exact .inl (if_neg h)
  | retry c hk hc ho =>
    have e := grantRetry_eq n s c hc
    refine ⟨by simp [applyGrant, e, opTag, readOp], fun u hu => ?_, ?_, fun m => .inl ?_⟩
    · simp [applyGrant, e, setTag_tag_other _ _ _ _ hu]
    · have hw : (s.tag n).kind.writes = false := by rcases hk with hk | hk <;> rw [hk] <;> rfl
      simpa [applyGrant, e] using TagEffect.retrying c hw hc ho
    · simp [applyGrant, e]
  | checkRead hk hc hi =>
    refine ⟨by simp [applyGrant, grantCheckRead_eq, opTag, readOp], fun u hu => ?_, ?_, fun m => .inl ?_⟩
    · simp [applyGrant, grantCheckRead_eq, setTag_tag_other _ _ _ _ hu]
    · simpa [applyGrant, grantCheckRead_eq] using TagEffect.reading (by rw [hk]; rfl) hc
    · simp [applyGrant, grantCheckRead_eq]
  | programSlot k hk hm hp hl =>
    have ho : (s.slot k).owner = some n ∧ ((s.slot k).state == .full) = true :=
      (mem_slotsOf s n _ k).1 (lowestBound_mem hl)
    have e := grantProgram_write_eq n s k hk hl
    refine ⟨by simp [applyGrant, e, opTag, programOp], fun u hu => ?_, ?_, fun m => ?_⟩
    · simp [applyGrant, e, setTag_tag_other _ _ _ _ hu]
    · simpa [applyGrant, e] using TagEffect.programming _ _ _ (by rw [hk]; rfl) hm hp
    · simp only [applyGrant, e, begin_records, setTag_slot, setSlot_slot]
      by_cases h : m = k
      · subst h
        rw [if_pos rfl]
        exact .inr (.programming n ho.1 (by simpa using ho.2) hr)
      · exact .inl (if_neg h)
  | programZero hk hm hp hi =>
    have e := grantProgram_zero_eq n s hk
    refine ⟨by simp [applyGrant, e, opTag, programOp], fun u hu => ?_, ?_, fun m => .inl ?_⟩
    · simp [applyGrant, e, setTag_tag_other _ _ _ _ hu]
    · simpa [applyGrant, e] using TagEffect.programming _ _ _ (by rw [hk]; rfl) hm hp
    · simp [applyGrant, e]
  | reallocate b p ps hk hm hb ho hf =>
    have e := grantReallocate_eq n s b p ps hb hf
    refine ⟨by simp [applyGrant, e, opTag, programOp], fun u hu => ?_, ?_, fun m => .inl ?_⟩
    · simp [applyGrant, e, setTag_tag_other _ _ _ _ hu]
    · simpa [applyGrant, e] using TagEffect.onSpare b p ps hk hm hb ho hf
    · simp [applyGrant, e]

/-- Journal and background grants leave every tag and every slot as it was. -/
theorem Choice.records {s : State} {g : Grant} (h : Choice s g) :
    (∃ n, Runnable (s.tag n) ∧ n ∈ s.req.queue ∧ TagGrant s n g) ∨
      (opTag (applyGrant g s) = none ∧ (applyGrant g s).req = s.req ∧ (applyGrant g s).pool = s.pool) := by
  cases h with
  | ringRead p => exact .inr ⟨by simp [applyGrant, grantRingRead, ringOp, opTag], by simp [applyGrant], by simp [applyGrant]⟩
  | commitFirst => exact .inr ⟨by simp [applyGrant, grantCommitFirst, ringOp, opTag], by simp [applyGrant], by simp [applyGrant]⟩
  | commitNext => exact .inr ⟨by simp [applyGrant, grantCommitNext, ringOp, opTag], by simp [applyGrant], by simp [applyGrant]⟩
  | tag n g pre post _ hq _ hr hg => exact .inl ⟨n, hr, by simp [hq], hg⟩
  | background g _ _ _ _ hg =>
    refine .inr ?_
    cases hg with
    | retry r hb => exact ⟨by simp [applyGrant, grantPatrolRetry, readOp, opTag, hb], by simp [applyGrant], by simp [applyGrant]⟩
    | reallocate b p ps _ hb _ hf =>
      exact ⟨by simp [applyGrant, grantRefreshReallocate, programOp, opTag, hb, hf], by simp [applyGrant], by simp [applyGrant]⟩
    | program => exact ⟨by simp [applyGrant, grantRefreshProgram, programOp, opTag], by simp [applyGrant], by simp [applyGrant]⟩
    | refreshRead l rest _ _ _ hl =>
      exact ⟨by simp [applyGrant, grantRefreshRead, readOp, opTag, hl], by simp [applyGrant], by simp [applyGrant]⟩
    | patrolRead => exact ⟨by simp [applyGrant, grantPatrolRead, readOp, opTag], by simp [applyGrant], by simp [applyGrant]⟩

/-- What the arbiter does to a tag: nothing, or a grant to it, which is runnable, as the operation now in flight. -/
theorem arbitrate_tag (s : State) (u : TagNo) :
    (arbitrate s).tag u = s.tag u ∨
      (Runnable (s.tag u) ∧ u ∈ s.req.queue ∧ s.array.op = none ∧ opTag (arbitrate s) = some u ∧
        TagEffect s u ((arbitrate s).tag u)) := by
  rcases arbitrate_cases s with h | ⟨g, ho, hg, h⟩
  · exact .inl (by rw [h])
  · rw [h]
    rcases (choose_cases hg).records with ⟨n, hr, hn, hg⟩ | ⟨-, hreq, -⟩
    · obtain ⟨hop, hother, heff, -⟩ := hg.effect hr
      by_cases hu : u = n
      · subst hu
        exact .inr ⟨hr, hn, ho, hop, heff⟩
      · exact .inl (hother u hu)
    · exact .inl (tag_eq_of_req hreq u)

/-- What the arbiter does to a slot: nothing, or the effect of a grant to its owner. -/
theorem arbitrate_slot (s : State) (k : SlotNo) :
    (arbitrate s).slot k = s.slot k ∨ SlotEffect s k ((arbitrate s).slot k) := by
  rcases arbitrate_cases s with h | ⟨g, ho, hg, h⟩
  · exact .inl (by rw [h])
  · rw [h]
    rcases (choose_cases hg).records with ⟨n, hr, hn, hg⟩ | ⟨-, -, hpool⟩
    · exact (hg.effect hr).2.2.2 k
    · exact .inl (slot_eq_of_pool hpool k)

/-- Of a tag's record a grant changes the state, the blocks issued, the retries used, and the block outstanding. -/
theorem tagEffect_keeps {s : State} {n : TagNo} {y : Tag} (h : TagEffect s n y) :
    y.kind = (s.tag n).kind ∧ y.firstLbn = (s.tag n).firstLbn ∧ y.count = (s.tag n).count ∧
    y.urgent = (s.tag n).urgent ∧ y.noRetry = (s.tag n).noRetry ∧ y.arrival = (s.tag n).arrival ∧
    y.blockers = (s.tag n).blockers ∧ y.completed = (s.tag n).completed ∧ y.moved = (s.tag n).moved ∧
    y.passed = (s.tag n).passed ∧ y.worst = (s.tag n).worst ∧ y.reallocs = (s.tag n).reallocs ∧
    y.uncorrCount = (s.tag n).uncorrCount ∧ y.firstFail = (s.tag n).firstFail ∧ y.needed = (s.tag n).needed ∧
    y.abortMark = (s.tag n).abortMark ∧ y.wpMark = (s.tag n).wpMark ∧ y.soFar = (s.tag n).soFar ∧
    y.final = (s.tag n).final := by
  cases h with
  | reading => simp [Tag.reading]
  | retrying c => simp [Tag.retrying]
  | programming => simp [Tag.programming]
  | onSpare => simp

/-- The arbiter keeps of every tag's record what a grant keeps. -/
@[simp] theorem arbitrate_tag_keeps (s : State) (u : TagNo) :
    ((arbitrate s).tag u).kind = (s.tag u).kind ∧ ((arbitrate s).tag u).firstLbn = (s.tag u).firstLbn ∧
    ((arbitrate s).tag u).count = (s.tag u).count ∧ ((arbitrate s).tag u).urgent = (s.tag u).urgent ∧
    ((arbitrate s).tag u).noRetry = (s.tag u).noRetry ∧ ((arbitrate s).tag u).arrival = (s.tag u).arrival ∧
    ((arbitrate s).tag u).blockers = (s.tag u).blockers ∧
    ((arbitrate s).tag u).completed = (s.tag u).completed ∧ ((arbitrate s).tag u).moved = (s.tag u).moved ∧
    ((arbitrate s).tag u).passed = (s.tag u).passed ∧ ((arbitrate s).tag u).worst = (s.tag u).worst ∧
    ((arbitrate s).tag u).reallocs = (s.tag u).reallocs ∧
    ((arbitrate s).tag u).uncorrCount = (s.tag u).uncorrCount ∧
    ((arbitrate s).tag u).firstFail = (s.tag u).firstFail ∧ ((arbitrate s).tag u).needed = (s.tag u).needed ∧
    ((arbitrate s).tag u).abortMark = (s.tag u).abortMark ∧ ((arbitrate s).tag u).wpMark = (s.tag u).wpMark ∧
    ((arbitrate s).tag u).soFar = (s.tag u).soFar ∧ ((arbitrate s).tag u).final = (s.tag u).final := by
  rcases arbitrate_tag s u with h | ⟨-, -, -, -, h⟩
  · simp [h]
  · exact tagEffect_keeps h

/-- A grant leads a tag from QUEUED or ACTIVE to QUEUED or ACTIVE, and never back (R5). -/
theorem tagEffect_state {s : State} {n : TagNo} {y : Tag} (h : TagEffect s n y) (hr : Runnable (s.tag n)) :
    y.state = .active ∨ y.state = (s.tag n).state := by
  cases h with
  | reading => exact .inl (activate_state _ hr)
  | retrying c => exact .inr rfl
  | programming => exact .inl (activate_state _ hr)
  | onSpare => exact .inr rfl

/-- The arbiter leaves the state of a tag, or makes a QUEUED tag ACTIVE as its operation starts (R5). -/
theorem arbitrate_tag_state (s : State) (u : TagNo) :
    ((arbitrate s).tag u).state = (s.tag u).state ∨
      ((s.tag u).state = .queued ∧ ((arbitrate s).tag u).state = .active ∧ opTag (arbitrate s) = some u) := by
  rcases arbitrate_tag s u with h | ⟨hr, -, -, ho, h⟩
  · exact .inl (by rw [h])
  · rcases tagEffect_state h hr with h | h
    · rcases hr.1 with hq | ha
      · exact .inr ⟨hq, h, ho⟩
      · exact .inl (by rw [h, ha])
    · exact .inl h

/-- Every grant but the background ones leaves the patrol and the map as they were. -/
theorem Choice.patrol {s : State} {g : Grant} (h : Choice s g) :
    (s.req.queue = [] ∧ BackgroundGrant s g) ∨ ((applyGrant g s).patrol = s.patrol ∧ (applyGrant g s).map = s.map) := by
  cases h with
  | ringRead p => exact .inr (by simp [applyGrant])
  | commitFirst => exact .inr (by simp [applyGrant])
  | commitNext => exact .inr (by simp [applyGrant])
  | tag n g pre post _ hq _ hr hg => exact .inr (by cases hg <;> simp [applyGrant])
  | background g _ hq _ _ hg => exact .inl ⟨hq, hg⟩

/-- While a tag stands in the queue the arbiter leaves the patrol and the map as they were (R72). -/
theorem arbitrate_patrol_of_queue (s : State) (hq : s.req.queue ≠ []) :
    (arbitrate s).patrol = s.patrol ∧ (arbitrate s).map = s.map := by
  rcases arbitrate_cases s with h | ⟨g, ho, hg, h⟩
  · rw [h]
    exact ⟨rfl, rfl⟩
  · rw [h]
    rcases (choose_cases hg).patrol with ⟨hn, -⟩ | h
    · exact absurd hn hq
    · exact h

/-- The arbiter takes at most the head of the refresh list (R125, R146). -/
theorem arbitrate_refresh (s : State) : refreshAfter s.map.refresh (arbitrate s) := by
  rcases arbitrate_cases s with h | ⟨g, ho, hg, h⟩
  · exact .inl (by rw [h])
  · rw [h]
    rcases (choose_cases hg).patrol with ⟨-, hb⟩ | ⟨-, hm⟩
    · cases hb with
      | retry => exact .inl (by simp [applyGrant])
      | reallocate => exact .inl (by simp [applyGrant])
      | program => exact .inl (by simp [applyGrant])
      | refreshRead l rest _ _ _ hl => exact .inr (by simp [applyGrant, grantRefreshRead, hl])
      | patrolRead => exact .inl (by simp [applyGrant])
    · exact .inl (by rw [hm])

/-- What the arbiter does to the background read: nothing, the retry it owes, or a new read where there was none (R140). -/
theorem arbitrate_bgRead (s : State) :
    (arbitrate s).patrol.bgRead = s.patrol.bgRead ∨
      (∃ r, s.patrol.bgRead = some r ∧ r.retryOwed = true ∧ (arbitrate s).patrol.bgRead =
        some { r with retries := r.retries + 1, retryOwed := false, inFlight := true }) ∨
      s.patrol.bgRead = none := by
  rcases arbitrate_cases s with h | ⟨g, ho, hg, h⟩
  · exact .inl (by rw [h])
  · rw [h]
    rcases (choose_cases hg).patrol with ⟨-, hb⟩ | ⟨hp, -⟩
    · cases hb with
      | retry r hr ho => exact .inr (.inl ⟨r, hr, ho, by simp [applyGrant, grantPatrolRetry, hr]⟩)
      | reallocate b p ps hr => exact .inr (.inr hr)
      | program hr => exact .inr (.inr hr)
      | refreshRead l rest hr => exact .inr (.inr hr)
      | patrolRead hr => exact .inr (.inr hr)
    · exact .inl (by rw [hp])

/-- What the arbiter does to the refresh block: nothing, the reallocation it owes, or a new one of a valid buffer where
there was none (R143, R144). -/
theorem arbitrate_refreshBlock (s : State) :
    (arbitrate s).patrol.refreshBlock = s.patrol.refreshBlock ∨
      (∃ b p ps, s.patrol.refreshBlock = some b ∧ b.owed = true ∧ freeSpares s = p :: ps ∧
        (arbitrate s).patrol.refreshBlock = some (b.onSpare p)) ∨
      (s.patrol.refreshBlock = none ∧ s.patrol.buf.valid = true ∧
        ∃ b, (arbitrate s).patrol.refreshBlock = some b ∧ b.owed = false) := by
  rcases arbitrate_cases s with h | ⟨g, ho, hg, h⟩
  · exact .inl (by rw [h])
  · rw [h]
    rcases (choose_cases hg).patrol with ⟨-, hb⟩ | ⟨hp, -⟩
    · cases hb with
      | retry => exact .inl (by simp [applyGrant])
      | reallocate b p ps _ hb ho hf =>
        exact .inr (.inl ⟨b, p, ps, hb, ho, hf, by simp [applyGrant, grantRefreshReallocate, hb, hf]⟩)
      | program _ hb hv => exact .inr (.inr ⟨hb, hv, by simp [applyGrant, grantRefreshProgram]⟩)
      | refreshRead => exact .inl (by simp [applyGrant])
      | patrolRead => exact .inl (by simp [applyGrant])
    · exact .inl (by rw [hp])

/-- What the arbiter does to the Journal: nothing, the next ring read, or an attempt of a commit (R69, R154, R156). -/
theorem arbitrate_jrnl (s : State) :
    (arbitrate s).jrnl = s.jrnl ∨
      (∃ p, s.jrnl.scanNext = some p ∧ (arbitrate s).jrnl = { s.jrnl with scanNext := none }) ∨
      (s.jrnl.commit = none ∧ s.jrnl.commitNeeded = true ∧ ∃ i, (arbitrate s).jrnl = { s.jrnl with
        imageBuffer := .image i, lastStarted := s.jrnl.lastStarted + 1, commitNeeded := false
        commit := some { sequence := s.jrnl.lastStarted + 1, attempts := 1 } }) ∨
      (∃ c, s.jrnl.commit = some c ∧ (arbitrate s).jrnl =
        { s.jrnl with commit := some { c with attempts := c.attempts + 1 } }) := by
  rcases arbitrate_cases s with h | ⟨g, ho, hg, h⟩
  · exact .inl (by rw [h])
  · rw [h]
    cases choose_cases hg with
    | ringRead p hp => exact .inr (.inl ⟨p, hp, rfl⟩)
    | commitFirst _ _ hc hn => exact .inr (.inr (.inl ⟨hc, hn, _, rfl⟩))
    | commitNext c _ _ hc =>
      exact .inr (.inr (.inr ⟨c, hc, by simp [applyGrant, grantCommitNext, hc]⟩))
    | tag n g pre post _ hq _ hr hg => exact .inl (by cases hg <;> simp [applyGrant])
    | background g _ _ _ _ hg => exact .inl (by cases hg <;> simp [applyGrant])

/-- A commit reason that an event made is still owed, or a commit that records it was started (R153, R154). -/
theorem arbitrate_commitNeeded (s : State) (h : s.jrnl.commitNeeded = true) :
    (arbitrate s).jrnl.commitNeeded = true ∨ (arbitrate s).jrnl.lastStarted = s.jrnl.lastStarted + 1 := by
  rcases arbitrate_jrnl s with e | ⟨p, -, e⟩ | ⟨-, -, i, e⟩ | ⟨c, -, e⟩ <;> rw [e]
  · exact .inl h
  · exact .inl h
  · exact .inr rfl
  · exact .inl h

end Sys2Proof.Machine
end

section
/-! PROOFS. What the close of an event can do to each part of the state, in the words of the statements. -/
namespace Sys2Proof.Machine

/-- The state at the close of an event, before the arbiter's choice. -/
def closedEvent (s₀ s : State) : State := latchHealth s₀ (grantSlots 8 (closeQueue s₀ s))

theorem settle_eq (s₀ s : State) : settle s₀ s = arbitrate (closedEvent s₀ s) := rfl

@[simp] theorem closedEvent_keeps (s₀ s : State) :
    (closedEvent s₀ s).array = s.array ∧ (closedEvent s₀ s).map = s.map ∧ (closedEvent s₀ s).jrnl = s.jrnl ∧
    (closedEvent s₀ s).cond = s.cond ∧ (closedEvent s₀ s).cfg = s.cfg ∧
    (closedEvent s₀ s).req = (closeQueue s₀ s).req ∧ (closedEvent s₀ s).patrol = (closeQueue s₀ s).patrol := by
  simp [closedEvent]

theorem closedEvent_tag (s₀ s : State) (u : TagNo) : (closedEvent s₀ s).tag u = releaseTag s (s.tag u) := by
  simp [closedEvent, closeQueue_tag]

/-! ## Tags -/

/-- Of a tag's record the close of an event changes the state, the blockers, the blocks issued, the retries used, and the
block outstanding. -/
@[simp] theorem settle_tag_keeps (s₀ s : State) (u : TagNo) :
    ((settle s₀ s).tag u).kind = (s.tag u).kind ∧ ((settle s₀ s).tag u).firstLbn = (s.tag u).firstLbn ∧
    ((settle s₀ s).tag u).count = (s.tag u).count ∧ ((settle s₀ s).tag u).urgent = (s.tag u).urgent ∧
    ((settle s₀ s).tag u).noRetry = (s.tag u).noRetry ∧ ((settle s₀ s).tag u).arrival = (s.tag u).arrival ∧
    ((settle s₀ s).tag u).completed = (s.tag u).completed ∧ ((settle s₀ s).tag u).moved = (s.tag u).moved ∧
    ((settle s₀ s).tag u).passed = (s.tag u).passed ∧ ((settle s₀ s).tag u).worst = (s.tag u).worst ∧
    ((settle s₀ s).tag u).reallocs = (s.tag u).reallocs ∧
    ((settle s₀ s).tag u).uncorrCount = (s.tag u).uncorrCount ∧
    ((settle s₀ s).tag u).firstFail = (s.tag u).firstFail ∧ ((settle s₀ s).tag u).needed = (s.tag u).needed ∧
    ((settle s₀ s).tag u).abortMark = (s.tag u).abortMark ∧ ((settle s₀ s).tag u).wpMark = (s.tag u).wpMark ∧
    ((settle s₀ s).tag u).soFar = (s.tag u).soFar ∧ ((settle s₀ s).tag u).final = (s.tag u).final := by
  simp [settle_eq, closedEvent_tag]

/-- What the close of an event does to a tag: a release, and perhaps a grant to it as the operation now in flight. -/
theorem settle_tag (s₀ s : State) (u : TagNo) :
    (settle s₀ s).tag u = releaseTag s (s.tag u) ∨
      (Runnable (releaseTag s (s.tag u)) ∧ s.array.op = none ∧ opTag (settle s₀ s) = some u ∧
        TagEffect (closedEvent s₀ s) u ((settle s₀ s).tag u)) := by
  rw [← closedEvent_tag s₀]
  rcases arbitrate_tag (closedEvent s₀ s) u with h | ⟨hr, -, ho, hop, he⟩
  · exact .inl h
  · exact .inr ⟨hr, by simpa using ho, hop, he⟩

/-- With an operation in flight no grant is made. -/
theorem settle_of_busy (s₀ s : State) (h : s.array.op ≠ none) : settle s₀ s = closedEvent s₀ s := by
  rw [settle_eq, arbitrate_busy _ (by simpa using h)]

/-- A tag that is neither HELD, QUEUED nor ACTIVE stays as it is. -/
theorem settle_tag_of_over (s₀ s : State) (u : TagNo) (hh : (s.tag u).state ≠ .held) (hq : (s.tag u).state ≠ .queued)
    (ha : (s.tag u).state ≠ .active) : (settle s₀ s).tag u = s.tag u := by
  have hrel := releaseTag_of_ne_held s (s.tag u) hh
  rcases settle_tag s₀ s u with h | ⟨⟨hr, -⟩, -⟩
  · rw [h, hrel]
  · rw [hrel] at hr
    rcases hr with hr | hr
    · exact absurd hr hq
    · exact absurd hr ha

/-- A marked tag is given nothing more (R18, R21). -/
theorem settle_tag_of_marked (s₀ s : State) (u : TagNo) (h : (s.tag u).abortMark = true ∨ (s.tag u).wpMark = true) :
    (settle s₀ s).tag u = releaseTag s (s.tag u) := by
  rcases settle_tag s₀ s u with h' | ⟨⟨-, hm⟩, -⟩
  · exact h'
  · simp only [releaseTag_keeps] at hm
    rcases h with h | h
    · rw [h] at hm
      cases hm.1
    · rw [h] at hm
      cases hm.2

/-- The states that a tag can be led to: HELD to QUEUED, and either to ACTIVE as its operation starts (R5, R17). -/
theorem settle_state (s₀ s : State) (u : TagNo) :
    ((settle s₀ s).tag u).state = (releaseTag s (s.tag u)).state ∨
      ((releaseTag s (s.tag u)).state = .queued ∧ ((settle s₀ s).tag u).state = .active ∧
        opTag (settle s₀ s) = some u) := by
  rw [← closedEvent_tag s₀]
  exact arbitrate_tag_state (closedEvent s₀ s) u

/-- The close of an event leaves live what was live. -/
@[simp] theorem settle_live (s₀ s : State) (u : TagNo) :
    ((settle s₀ s).tag u).state.live = (s.tag u).state.live := by
  rw [← releaseTag_live s (s.tag u)]
  rcases settle_state s₀ s u with h | ⟨hq, ha, -⟩
  · rw [h]
  · rw [hq, ha]
    rfl

theorem settle_state_active (s₀ s : State) (u : TagNo) (h : (s.tag u).state = .active) :
    ((settle s₀ s).tag u).state = .active := by
  have hrel := releaseTag_of_ne_held s (s.tag u) (by simp [h])
  rcases settle_state s₀ s u with h' | ⟨-, h', -⟩
  · rw [h', hrel, h]
  · exact h'

/-- A tag that waits is led nowhere else, one that does not is not led to wait. -/
theorem settle_state_held (s₀ s : State) (u : TagNo) (h : ((settle s₀ s).tag u).state = .held) :
    (settle s₀ s).tag u = releaseTag s (s.tag u) := by
  rcases settle_tag s₀ s u with h' | ⟨hr, -, -, he⟩
  · exact h'
  · rw [← closedEvent_tag s₀] at hr
    rcases tagEffect_state he hr with h' | h'
    · rw [h] at h'
      cases h'
    · rw [h] at h'
      rcases hr.1 with e | e <;> rw [e] at h' <;> cases h'

/-- After an event no HELD tag is blocked by one that is not live (R17). -/
theorem settle_blockers (s₀ s : State) (n u : TagNo) (hn : (s.tag n).state.live = false)
    (hu : ((settle s₀ s).tag u).state = .held) : n ∉ ((settle s₀ s).tag u).blockers := by
  have h := settle_state_held s₀ s u hu
  rw [h] at hu ⊢
  intro hm
  have hl := ((releaseTag_held s (s.tag u) hu).2 n hm).2
  rw [hn] at hl
  cases hl

/-! ## The queue and the service list -/

theorem settle_queue (s₀ s : State) : (settle s₀ s).req.queue = liveQueue s := by
  simp [settle_eq, closeQueue_queue, liveQueue]

theorem mem_settle_queue (s₀ s : State) (u : TagNo) :
    u ∈ (settle s₀ s).req.queue ↔ u ∈ s.req.queue ∧ (s.tag u).state.live = true := by
  rw [settle_queue, liveQueue, List.mem_filter]

theorem settle_svc_of_mem (s₀ s : State) (u : TagNo) (h : u ∈ (closeQueue s₀ s).svc.list) :
    u ∈ (settle s₀ s).svc.list := by
  have : (settle s₀ s).svc = (grantSlots 8 (closeQueue s₀ s)).svc := by simp [settle]
  rw [this]
  exact grantSlots_svc_of_mem 8 _ u h

/-- A tag of the queue that an event has brought to DONE stands in the service list (R51). -/
theorem settle_svc_of_done (s₀ s : State) (u : TagNo) (hu : u ∈ s₀.req.queue) (hd : (s.tag u).state = .done) :
    u ∈ (settle s₀ s).svc.list :=
  settle_svc_of_mem s₀ s u ((mem_closeQueue_svc s₀ s u).2 (.inl ⟨hu, hd⟩))

/-! ## Slots -/

/-- A slot that a grant gave to a tag at the close of an event: RESERVED, or LOADING if the arbiter used it at once. -/
def GivenTo (u : TagNo) (x : Slot) : Prop :=
  (x.state = .reserved ∨ x.state = .loading) ∧ x.owner = some u ∧ x.data = []

/-- What the close of an event does to a slot: nothing; a FREE one may be given to a tag that may want it; one of a
runnable tag may be taken for its operation. -/
theorem settle_slot (s₀ s : State) (k : SlotNo) :
    (settle s₀ s).slot k = s.slot k ∨
      ((s.slot k).state = .free ∧ ∃ u, u ∈ s.req.queue ∧ maySlot (releaseTag s (s.tag u)) ∧
        GivenTo u ((settle s₀ s).slot k)) ∨
      (∃ n l, (s.slot k).owner = some n ∧ Runnable (releaseTag s (s.tag n)) ∧ (s.slot k).state = .reserved ∧
        (settle s₀ s).slot k = (s.slot k).loadingOf l) ∨
      (∃ n, (s.slot k).owner = some n ∧ Runnable (releaseTag s (s.tag n)) ∧ (s.slot k).state = .full ∧
        (settle s₀ s).slot k = { s.slot k with state := .programming }) := by
  have hg : (closedEvent s₀ s).slot k = s.slot k ∨ ((s.slot k).state = .free ∧ ∃ u ∈ s.req.queue,
      maySlot (releaseTag s (s.tag u)) ∧ (closedEvent s₀ s).slot k = reservedFor u) := by
    rcases grantSlots_slot 8 (closeQueue s₀ s) k with h | ⟨hf, u, hu, hm, h⟩
    · exact .inl (by simp [closedEvent, h])
    · rw [closeQueue_tag] at hm
      exact .inr ⟨by simpa using hf, u, ((mem_closeQueue_queue s₀ s u).1 hu).1, hm, by simp [closedEvent, h]⟩
  have ha := arbitrate_slot (closedEvent s₀ s) k
  rw [← settle_eq] at ha
  rcases hg with hg | ⟨hf, u, hu, hm, hg⟩
  · rcases ha with ha | ha
    · exact .inl (ha.trans hg)
    · refine .inr (.inr ?_)
      generalize (settle s₀ s).slot k = y at ha
      cases ha with
      | loading n l ho hs hr =>
        rw [hg] at ho hs
        rw [closedEvent_tag] at hr
        exact .inl ⟨n, l, ho, hr, hs, by rw [hg]⟩
      | programming n ho hs hr =>
        rw [hg] at ho hs
        rw [closedEvent_tag] at hr
        exact .inr ⟨n, ho, hr, hs, by rw [hg]⟩
  · refine .inr (.inl ⟨hf, u, hu, hm, ?_⟩)
    rcases ha with ha | ha
    · rw [ha, hg]
      exact ⟨.inl rfl, rfl, rfl⟩
    · generalize (settle s₀ s).slot k = y at ha
      cases ha with
      | loading n l ho hs hr =>
        rw [hg]
        exact ⟨.inr rfl, rfl, rfl⟩
      | programming n ho hs hr =>
        rw [hg] at hs
        cases hs

/-- A slot that an event has freed is FREE, or the close of the event has given it to a tag (R29, R34). -/
theorem settle_slotFreed (s₀ s : State) (k : SlotNo) (h : s.slot k = Slot.free) : slotFreed (settle s₀ s) k := by
  rcases settle_slot s₀ s k with e | ⟨-, u, -, -, hs, -, hd⟩ | ⟨n, l, ho, -⟩ | ⟨n, ho, -⟩
  · exact .inl (e.trans h)
  · exact .inr ⟨hs, hd⟩
  · rw [h] at ho
    cases ho
  · rw [h] at ho
    cases ho

/-- A slot in LOADING, DRAINING, FILLING or PROGRAMMING stays as it is. -/
theorem settle_slot_of_busy (s₀ s : State) (k : SlotNo) (hf : (s.slot k).state ≠ .free)
    (hr : (s.slot k).state ≠ .reserved) (hl : (s.slot k).state ≠ .full) : (settle s₀ s).slot k = s.slot k := by
  rcases settle_slot s₀ s k with e | ⟨h, -⟩ | ⟨-, -, -, -, h, -⟩ | ⟨-, -, -, h, -⟩
  · exact e
  · exact absurd h hf
  · exact absurd h hr
  · exact absurd h hl

/-- A slot of a tag that is not runnable stays as it is, unless it was FREE. -/
theorem settle_slot_of_owner (s₀ s : State) (k : SlotNo) (n : TagNo) (ho : (s.slot k).owner = some n)
    (hf : (s.slot k).state ≠ .free) (hn : ¬ Runnable (releaseTag s (s.tag n))) : (settle s₀ s).slot k = s.slot k := by
  rcases settle_slot s₀ s k with e | ⟨h, -⟩ | ⟨m, -, hm, hr, -⟩ | ⟨m, hm, hr, -⟩
  · exact e
  · exact absurd h hf
  · rw [ho] at hm
    cases hm
    exact absurd hr hn
  · rw [ho] at hm
    cases hm
    exact absurd hr hn

/-- A tag that may want no slot owns after an event only slots that it owned before. -/
theorem settle_owner (s₀ s : State) (k : SlotNo) (n : TagNo) (hn : ¬ maySlot (releaseTag s (s.tag n)))
    (h : ((settle s₀ s).slot k).owner = some n) : (s.slot k).owner = some n := by
  rcases settle_slot s₀ s k with e | ⟨-, u, -, hm, -, ho, -⟩ | ⟨m, l, hm, -, -, e⟩ | ⟨m, hm, -, -, e⟩
  · rwa [e] at h
  · rw [ho] at h
    cases h
    exact absurd hm hn
  · rw [e] at h
    exact h
  · rw [e] at h
    exact h

/-- A tag that is over wants no slot and is given no operation. -/
theorem not_maySlot_of_over {s : State} {x : Tag} (hh : x.state ≠ .held) (hq : x.state ≠ .queued) (ha : x.state ≠ .active) :
    ¬ maySlot (releaseTag s x) ∧ ¬ Runnable (releaseTag s x) := by
  rw [releaseTag_of_ne_held s x hh]
  constructor
  · rintro ⟨h | h | h, -⟩
    · exact hh h
    · exact hq h
    · exact ha h
  · rintro ⟨h | h, -⟩
    · exact hq h
    · exact ha h

theorem settle_ownsNoSlot (s₀ s : State) (n : TagNo) (h : ownsNoSlot s n) (hn : ¬ maySlot (releaseTag s (s.tag n))) :
    ownsNoSlot (settle s₀ s) n := fun k hk => h k (settle_owner s₀ s k n hn hk)

/-! ## A tag that is DONE, and one that stays -/

/-- A tag that is DONE and owns no slot when the event closes (R8). -/
theorem settle_doneWith (s₀ s : State) (n : TagNo) (st : Status) (hq : n ∈ s₀.req.queue) (hd : (s.tag n).state = .done)
    (hf : (s.tag n).final = some st) (ho : ownsNoSlot s n) : DoneWith (settle s₀ s) n st := by
  have hover := not_maySlot_of_over (s := s) (x := s.tag n) (by simp [hd]) (by simp [hd]) (by simp [hd])
  have ht := settle_tag_of_over s₀ s n (by simp [hd]) (by simp [hd]) (by simp [hd])
  refine ⟨by rw [ht, hd], by rw [ht, hf], fun hm => ?_, settle_ownsNoSlot s₀ s n ho hover.1,
    settle_svc_of_done s₀ s n hq hd⟩
  have hl := ((mem_settle_queue s₀ s n).1 hm).2
  rw [hd] at hl
  cases hl

theorem settle_staysIn_active (s₀ s : State) (n : TagNo) (hq : n ∈ s.req.queue) (ha : (s.tag n).state = .active) :
    StaysIn (settle s₀ s) n .active :=
  ⟨settle_state_active s₀ s n ha, (mem_settle_queue s₀ s n).2 ⟨hq, by rw [ha]; rfl⟩⟩

theorem settle_staysIn_ending (s₀ s : State) (n : TagNo) (hq : n ∈ s.req.queue) (he : (s.tag n).state = .ending) :
    StaysIn (settle s₀ s) n .ending := by
  have ht := settle_tag_of_over s₀ s n (by simp [he]) (by simp [he]) (by simp [he])
  exact ⟨by rw [ht, he], (mem_settle_queue s₀ s n).2 ⟨hq, by rw [he]; rfl⟩⟩

/-! ## The map, the patrol and the Journal -/

/-- The close of an event takes at most the head of the refresh list (R125). -/
theorem settle_refresh (s₀ s : State) : refreshAfter s.map.refresh (settle s₀ s) := by
  have h := arbitrate_refresh (closedEvent s₀ s)
  rwa [(closedEvent_keeps s₀ s).2.1] at h

/-- While a tag of the queue is live the close of an event leaves the patrol and the map as they were (R72, R135). -/
theorem settle_of_live (s₀ s : State) (u : TagNo) (hu : u ∈ s.req.queue) (hl : (s.tag u).state.live = true) :
    (settle s₀ s).patrol = s.patrol ∧ (settle s₀ s).map = s.map ∧ (settle s₀ s).req.arrival = s.req.arrival := by
  have hm : u ∈ (closedEvent s₀ s).req.queue := by
    rw [(closedEvent_keeps s₀ s).2.2.2.2.2.1, mem_closeQueue_queue]
    exact ⟨hu, hl⟩
  have ha := arbitrate_patrol_of_queue (closedEvent s₀ s) (List.ne_nil_of_mem hm)
  have hc := closeQueue_of_live s₀ s u hu hl
  refine ⟨?_, ?_, ?_⟩
  · rw [settle_eq, ha.1, (closedEvent_keeps s₀ s).2.2.2.2.2.2, hc.1]
  · rw [settle_eq, ha.2, (closedEvent_keeps s₀ s).2.1]
  · simp [settle_eq, hc.2]

theorem closedEvent_freeSpares (s₀ s : State) : freeSpares (closedEvent s₀ s) = freeSpares s := by
  simp [freeSpares, isMapped]

/-- What the close of an event does to the background read (R140). -/
theorem settle_bgRead (s₀ s : State) :
    (settle s₀ s).patrol.bgRead = s.patrol.bgRead ∨
      (∃ r, s.patrol.bgRead = some r ∧ r.retryOwed = true ∧ (settle s₀ s).patrol.bgRead =
        some { r with retries := r.retries + 1, retryOwed := false, inFlight := true }) ∨
      s.patrol.bgRead = none := by
  have h := arbitrate_bgRead (closedEvent s₀ s)
  simpa [← settle_eq] using h

/-- What the close of an event does to the refresh block (R143, R144). -/
theorem settle_refreshBlock (s₀ s : State) :
    (settle s₀ s).patrol.refreshBlock = s.patrol.refreshBlock ∨
      (∃ b p ps, s.patrol.refreshBlock = some b ∧ b.owed = true ∧ freeSpares s = p :: ps ∧
        (settle s₀ s).patrol.refreshBlock = some (b.onSpare p)) ∨
      (s.patrol.refreshBlock = none ∧ s.patrol.buf.valid = true ∧
        ∃ b, (settle s₀ s).patrol.refreshBlock = some b ∧ b.owed = false) := by
  have h := arbitrate_refreshBlock (closedEvent s₀ s)
  simpa [← settle_eq, closedEvent_freeSpares] using h

/-- Nothing but a background grant follows from an IDLE engine, and the quiet timer never stops one (R135). -/
theorem settle_patrol_state (s₀ s : State) :
    (settle s₀ s).patrol.state = s.patrol.state ∨
      (s.patrol.state = .waiting ∧ (settle s₀ s).patrol.state = .running) := by
  have h : (settle s₀ s).patrol.state = (closeQueue s₀ s).patrol.state := by simp [settle_eq]
  rw [h]
  rcases closeQueue_patrol s₀ s with e | ⟨s', e, -, -, e'⟩
  · exact .inl (by rw [e])
  · rw [e', ← e]
    unfold startQuiet quietOver
    split
    · dsimp only
      split
      · rename_i hw
        simp only [Bool.and_eq_true, beq_iff_eq] at hw
        exact .inr ⟨hw.2, rfl⟩
      · exact .inl rfl
    · exact .inl rfl

/-- A commit reason that an event made is still owed after it, or a commit that records it was started (R153). -/
theorem settle_reasonMade (s₀ s s₁ : State) (h : s.jrnl.commitNeeded = true)
    (hl : s.jrnl.lastStarted = s₁.jrnl.lastStarted) : reasonMade s₁ (settle s₀ s) := by
  have := arbitrate_commitNeeded (closedEvent s₀ s) (by simpa using h)
  rw [← settle_eq] at this
  simpa [reasonMade, hl] using this

/-! ## Causes and the array -/

/-- An event that changes no condition changes no cause besides its own (R176). -/
theorem settle_attn (s₀ s : State) (h : s.cond = s₀.cond) : (settle s₀ s).attn = s.attn := by
  have hc : (grantSlots 8 (closeQueue s₀ s)).cond = s₀.cond := by simpa using h
  simp [settle_eq, closedEvent, latchHealth_of_cond _ _ hc]

theorem settle_keeps_bits (s₀ s : State) (k : Nat) (h : s.attn.latched.getLsbD k = true) :
    (settle s₀ s).attn.latched.getLsbD k = true := by
  have hg := latchHealth_keeps_bits s₀ (grantSlots 8 (closeQueue s₀ s)) k (by simpa using h)
  simpa [settle_eq, closedEvent] using hg

theorem arrayKept_of_eq {s t : State} (hb : t.array.blocks = s.array.blocks) (hr : t.array.ring = s.array.ring) :
    ArrayKept s t := fun p => by
  simp [blockAt, hb, hr]

theorem freeSpares_of_remapKept {s t : State} (h : RemapKept s t) : freeSpares t = freeSpares s := by
  simp [freeSpares, isMapped, h.1, h.2]

@[simp] theorem settle_freeSpares (s₀ s : State) : freeSpares (settle s₀ s) = freeSpares s :=
  freeSpares_of_remapKept ⟨by simp, by simp⟩

end Sys2Proof.Machine
end

section
/-! PROOFS. What an abort, the change to READ_ONLY, a commit's PASS and spare exhaustion do to the record of each tag and to
each slot, and what they do along the dispatch queue. -/
namespace Sys2Proof.Machine

/-! ## Folds along the queue -/

/-- An operation on one tag at a time, with `rec` what it does to the tag's record as long as `key` stays: applied along a
list it does so to each tag of the list. -/
theorem foldl_tag {κ : Type} (g : State → TagNo → State) (key : State → κ) (rec : κ → TagNo → Tag → Tag)
    (hkey : ∀ s t, key (g s t) = key s)
    (htag : ∀ s t u, (g s t).tag u = if u = t then rec (key s) t (s.tag t) else s.tag u)
    (hidem : ∀ c t x, rec c t (rec c t x) = rec c t x) (l : List TagNo) (s : State) (u : TagNo) :
    (l.foldl g s).tag u = if u ∈ l then rec (key s) u (s.tag u) else s.tag u := by
  induction l generalizing s with
  | nil => simp
  | cons t l ih =>
    rw [List.foldl_cons, ih, hkey, htag]
    by_cases hu : u = t
    · subst hu
      simp [hidem]
    · simp [hu]

/-- The same for the slots, which such an operation only frees: `cond` says which slot states of the tag's record. -/
theorem foldl_slot {κ : Type} (g : State → TagNo → State) (key : State → κ) (rec : κ → TagNo → Tag → Tag)
    (frees : κ → TagNo → Tag → SlotState → Bool) (hkey : ∀ s t, key (g s t) = key s)
    (htag : ∀ s t u, (g s t).tag u = if u = t then rec (key s) t (s.tag t) else s.tag u)
    (hslot : ∀ s t k, (g s t).slot k =
      if (s.slot k).owner = some t ∧ frees (key s) t (s.tag t) (s.slot k).state = true then Slot.free else s.slot k)
    (hfrees : ∀ c t x st, frees c t (rec c t x) st = true → frees c t x st = true) (l : List TagNo) (s : State)
    (k : SlotNo) :
    (l.foldl g s).slot k =
      if ∃ t ∈ l, (s.slot k).owner = some t ∧ frees (key s) t (s.tag t) (s.slot k).state = true then Slot.free
      else s.slot k := by
  induction l generalizing s with
  | nil => simp
  | cons t l ih =>
    rw [List.foldl_cons, ih, hkey, hslot]
    by_cases ht : (s.slot k).owner = some t ∧ frees (key s) t (s.tag t) (s.slot k).state = true
    · have hnone : ¬ ∃ u ∈ l, Slot.free.owner = some u ∧ frees (key s) u ((g s t).tag u) Slot.free.state = true := by
        rintro ⟨u, -, ho, -⟩
        cases ho
      have hsome : ∃ u ∈ t :: l, (s.slot k).owner = some u ∧ frees (key s) u (s.tag u) (s.slot k).state = true :=
        ⟨t, List.mem_cons_self .., ht⟩
      rw [if_pos ht, if_neg hnone, if_pos hsome]
    · rw [if_neg ht]
      refine if_congr ⟨?_, ?_⟩ rfl rfl
      · rintro ⟨u, hu, ho, hf⟩
        refine ⟨u, List.mem_cons_of_mem _ hu, ho, ?_⟩
        rw [htag] at hf
        split at hf
        · rename_i he
          subst he
          exact hfrees _ _ _ _ hf
        · exact hf
      · rintro ⟨u, hu, ho, hf⟩
        rcases List.mem_cons.1 hu with rfl | hu
        · exact absurd ⟨ho, hf⟩ ht
        · have hne : u ≠ t := by
            rintro rfl
            exact ht ⟨ho, hf⟩
          exact ⟨u, hu, ho, by rw [htag, if_neg hne]; exact hf⟩

/-! ## A tag that ends -/

/-- The record of a tag that is DONE with a status (R8). -/
def Tag.finished (st : Status) (x : Tag) : Tag :=
  { x with state := .done, final := some st, blockers := [], cur := none, prog := none }

theorem finish_tag_eq (t u : TagNo) (st : Status) (s : State) :
    (finish t st s).tag u = if u = t then (s.tag t).finished st else s.tag u := finish_tag t u st s

theorem finish_slot_eq (t : TagNo) (st : Status) (s : State) (k : SlotNo) :
    (finish t st s).slot k = if (s.slot k).owner = some t then Slot.free else s.slot k := by
  simp [finish_slot]

theorem freeSlotsOf_slot_eq (t : TagNo) (p : SlotState → Bool) (s : State) (k : SlotNo) :
    (freeSlotsOf t p s).slot k =
      if (s.slot k).owner = some t ∧ p (s.slot k).state = true then Slot.free else s.slot k := by
  simp [freeSlotsOf_slot]

theorem ownsNoSlot_finish (t : TagNo) (st : Status) (s : State) : ownsNoSlot (finish t st s) t := by
  intro k hk
  rw [finish_slot_eq] at hk
  split at hk
  · cases hk
  · rename_i h
    exact h hk

/-- The record of a tag whose block counts as completed. -/
def Tag.counted (x : Tag) : Tag := { x with completed := x.completed + 1 }

theorem endUnresolved_tag (t u : TagNo) (l : Nat) (st : Status) (s : State) :
    (endUnresolved t l st s).tag u = if u = t then (s.tag t).counted.finished st else s.tag u := by
  unfold endUnresolved
  rw [finish_tag_eq]
  by_cases h : u = t
  · simp [h, modTag_tag, Tag.counted]
  · simp [h, modTag_tag]

theorem endUnresolved_slot (t : TagNo) (l : Nat) (st : Status) (s : State) (k : SlotNo) :
    (endUnresolved t l st s).slot k = if (s.slot k).owner = some t then Slot.free else s.slot k := by
  unfold endUnresolved
  rw [finish_slot_eq]
  simp

theorem endUnresolved_lists (t : TagNo) (l : Nat) (st : Status) (s : State) :
    ((endUnresolved t l st s).map.pendingLbns, (endUnresolved t l st s).map.overflow) =
      pendingOffered l s.map.pendingLbns s.map.overflow ∧
    (endUnresolved t l st s).map.refresh = s.map.refresh.erase l := by
  have h : (endUnresolved t l st s).map = (offerPending l s).map := by simp [endUnresolved]
  rw [h]
  exact offerPending_lists l s

/-! ## The change to READ_ONLY -/

/-- The record of a tag that has taken the write-protect mark (R18). -/
def Tag.markWp (x : Tag) : Tag := { x with wpMark := true }

theorem markWp_tag (s : State) (t u : TagNo) (p : SlotState → Bool) :
    ((freeSlotsOf t p s).modTag t fun x => { x with wpMark := true }).tag u =
      if u = t then (s.tag t).markWp else s.tag u := modTag_tag _ t u _

/-- What the change does to a tag's record; `inOp` says that its operation is in flight (R18, R46, R115). -/
def Tag.stopped (inOp : Bool) (x : Tag) : Tag :=
  if x.kind.writes then
    match x.state with
    | .free | .done => x
    | .held | .queued => x.finished .writeProtected
    | .ending => x.finished .journalFault
    | .active =>
      if inOp then if x.abortMark then x else x.markWp
      else match x.prog with
        | some b => if b.owed then x.counted.finished .writeProtected else x.finished .writeProtected
        | none => x.finished .writeProtected
  else x

/-- The slots that a tag loses at the change (R18, R46). -/
def Tag.stoppedFrees (inOp : Bool) (x : Tag) (st : SlotState) : Bool :=
  x.kind.writes && match x.state with
    | .free | .done => false
    | .held | .queued | .ending => true
    | .active => if inOp then !x.abortMark && st.resting else true

theorem readOnlyTag_tag (s : State) (t u : TagNo) :
    (readOnlyTag s t).tag u = if u = t then (s.tag t).stopped (opTag s == some t) else s.tag u := by
  unfold readOnlyTag Tag.stopped
  dsimp only
  by_cases hw : (s.tag t).kind.writes = true
  · simp only [hw, Bool.not_true, Bool.false_eq_true, if_false, if_true]
    cases (s.tag t).state with
    | free | done => by_cases h : u = t <;> simp [h]
    | held | queued | ending => exact finish_tag_eq ..
    | active =>
      by_cases ho : opTag s = some t
      · by_cases ha : (s.tag t).abortMark = true
        · by_cases h : u = t <;> simp [ho, ha, h]
        · simp only [ho, ha, beq_self_eq_true, if_true, if_false, Bool.false_eq_true, markWp_tag]
      · simp only [ho, if_false, beq_eq_false_iff_ne.2 ho, Bool.false_eq_true]
        cases (s.tag t).prog with
        | none => exact finish_tag_eq ..
        | some b =>
          by_cases hb : b.owed = true
          · simp only [hb, if_true]
            exact endUnresolved_tag ..
          · simp only [hb]
            exact finish_tag_eq ..
  · by_cases h : u = t <;> simp [hw, h]

theorem readOnlyTag_slot (s : State) (t : TagNo) (k : SlotNo) :
    (readOnlyTag s t).slot k =
      if (s.slot k).owner = some t ∧ (s.tag t).stoppedFrees (opTag s == some t) (s.slot k).state = true then Slot.free
      else s.slot k := by
  unfold readOnlyTag Tag.stoppedFrees
  dsimp only
  by_cases hw : (s.tag t).kind.writes = true
  · simp only [hw, Bool.not_true, Bool.false_eq_true, if_false, Bool.true_and]
    cases (s.tag t).state with
    | free | done => simp
    | held | queued | ending => simp [finish_slot_eq]
    | active =>
      by_cases ho : opTag s = some t
      · by_cases ha : (s.tag t).abortMark = true
        · simp [ho, ha]
        · simp [ho, ha, freeSlotsOf_slot_eq]
      · simp only [ho, if_false, beq_eq_false_iff_ne.2 ho, Bool.false_eq_true, and_true]
        cases (s.tag t).prog with
        | none => exact finish_slot_eq ..
        | some b =>
          by_cases hb : b.owed = true
          · simp only [hb, if_true]
            exact endUnresolved_slot ..
          · simp only [hb]
            exact finish_slot_eq ..
  · simp [hw]

theorem stopped_stopped (inOp : Bool) (x : Tag) : (x.stopped inOp).stopped inOp = x.stopped inOp := by
  by_cases hw : x.kind.writes = true
  · cases hs : x.state with
    | free | done | held | queued | ending => simp [Tag.stopped, Tag.finished, hw, hs]
    | active =>
      cases inOp with
      | true =>
        by_cases ha : x.abortMark = true
        · simp [Tag.stopped, hw, hs, ha]
        · simp [Tag.stopped, Tag.markWp, hw, hs, ha]
      | false =>
        cases hp : x.prog with
        | none => simp [Tag.stopped, Tag.finished, hw, hs, hp]
        | some b => by_cases hb : b.owed = true <;> simp [Tag.stopped, Tag.finished, Tag.counted, hw, hs, hp, hb]
  · simp [Tag.stopped, hw]

theorem stoppedFrees_stopped (inOp : Bool) (x : Tag) (st : SlotState)
    (h : (x.stopped inOp).stoppedFrees inOp st = true) : x.stoppedFrees inOp st = true := by
  by_cases hw : x.kind.writes = true
  · cases hs : x.state with
    | held | queued | ending => simp [Tag.stoppedFrees, hw, hs]
    | free | done => simp [Tag.stopped, Tag.stoppedFrees, hw, hs] at h
    | active =>
      cases inOp with
      | false => simp [Tag.stoppedFrees, hw, hs]
      | true =>
        by_cases ha : x.abortMark = true
        · simp [Tag.stopped, Tag.stoppedFrees, hw, hs, ha] at h
        · simpa [Tag.stopped, Tag.markWp, Tag.stoppedFrees, hw, hs, ha] using h
  · simpa [Tag.stopped, hw] using h

/-- The change to READ_ONLY along the queue (R161). -/
theorem foldl_readOnlyTag_tag (l : List TagNo) (s : State) (u : TagNo) :
    (l.foldl readOnlyTag s).tag u = if u ∈ l then (s.tag u).stopped (opTag s == some u) else s.tag u :=
  foldl_tag readOnlyTag opTag (fun o t x => x.stopped (o == some t)) (fun s t => by simp [opTag])
    (fun s t u => readOnlyTag_tag s t u) (fun _ _ x => stopped_stopped _ x) l s u

theorem foldl_readOnlyTag_slot (l : List TagNo) (s : State) (k : SlotNo) :
    (l.foldl readOnlyTag s).slot k =
      if ∃ t ∈ l, (s.slot k).owner = some t ∧
          (s.tag t).stoppedFrees (opTag s == some t) (s.slot k).state = true then Slot.free
      else s.slot k :=
  foldl_slot readOnlyTag opTag (fun o t x => x.stopped (o == some t)) (fun o t x st => x.stoppedFrees (o == some t) st)
    (fun s t => by simp [opTag]) (fun s t u => readOnlyTag_tag s t u) (fun s t k => readOnlyTag_slot s t k)
    (fun _ _ x st => stoppedFrees_stopped _ x st) l s k

/-- The record of every tag of the queue after the change to READ_ONLY; the others stay (R161). -/
theorem becomeReadOnly_tag (s : State) (u : TagNo) :
    (becomeReadOnly s).tag u =
      if u ∈ s.req.queue then (s.tag u).stopped (opTag s == some u) else s.tag u := by
  unfold becomeReadOnly
  simp only [failWaitingCommand_records, haltPatrol_records, foldl_readOnlyTag_tag, latch_keeps]
  rfl

theorem becomeReadOnly_slot (s : State) (k : SlotNo) :
    (becomeReadOnly s).slot k =
      if ∃ t ∈ s.req.queue, (s.slot k).owner = some t ∧
          (s.tag t).stoppedFrees (opTag s == some t) (s.slot k).state = true then Slot.free
      else s.slot k := by
  unfold becomeReadOnly
  simp only [failWaitingCommand_records, haltPatrol_records, foldl_readOnlyTag_slot, latch_keeps]
  rfl

@[simp] theorem becomeReadOnly_mode (s : State) : (becomeReadOnly s).jrnl.mode = .readOnly := by
  simp [becomeReadOnly]

/-! ## Spare exhaustion and the other resolutions of an owed reallocation -/

/-- The record of a tag whose block has met spare exhaustion; `waits` says that it still waits for a commit (R106). -/
def Tag.exhausted (l : Nat) (waits : Bool) (x : Tag) : Tag :=
  let y := { x with completed := x.completed + 1, prog := none, soFar := .writeFault,
                    firstFail := some (x.firstFail.getD l) }
  if waits then { y with state := .ending } else y.finished .writeFault

theorem exhaust_tag (t u : TagNo) (l : Nat) (s : State) :
    (exhaust t l s).tag u = if u = t then (s.tag t).exhausted l (owesCommit s (s.tag t)) else s.tag u := by
  by_cases h : u = t
  · subst h
    have hoc : ∀ y : Tag, y.needed = (s.tag u).needed →
        owesCommit (((freeSlotsOf u (fun _ => true) (offerPending l s)).modTag u fun x =>
          { x with completed := x.completed + 1, prog := none, soFar := .writeFault,
                   firstFail := some (x.firstFail.getD l) })) y = owesCommit s (s.tag u) := fun y hy => by
      simp [owesCommit, hy]
    unfold exhaust Tag.exhausted
    dsimp only
    rw [hoc _ (by simp [modTag_tag])]
    split <;> simp [becomeEnding, finish_tag_eq, modTag_tag]
  · rw [exhaust_tag_other t u l s h, if_neg h]

theorem exhaust_slot_eq (t : TagNo) (l : Nat) (s : State) (k : SlotNo) :
    (exhaust t l s).slot k = if (s.slot k).owner = some t then Slot.free else s.slot k := by
  simp [exhaust_slot]

/-- What decides how an owed reallocation is resolved: the store mode, the free spares, and last-done. -/
structure ResolveKey where
  readOnly : Bool
  spent : Bool
  lastDone : Nat

def resolveKey (s : State) : ResolveKey :=
  { readOnly := s.jrnl.mode == .readOnly, spent := (freeSpares s).isEmpty, lastDone := s.jrnl.lastDone }

/-- The commit that a tag still waits for, by last-done. -/
def Tag.waitsAbove (d : Nat) (x : Tag) : Bool :=
  match x.needed with
  | some q => decide (d < q)
  | none => false

theorem owesCommit_eq (s : State) (x : Tag) : owesCommit s x = x.waitsAbove s.jrnl.lastDone := rfl

theorem waitsAbove_iff (d : Nat) (x : Tag) : x.waitsAbove d = true ↔ ∃ q, x.needed = some q ∧ d < q := by
  unfold Tag.waitsAbove
  cases x.needed <;> simp

/-- What the resolution of an owed reallocation does to its tag's record (R106, R114, R115). -/
def Tag.resolved (c : ResolveKey) (x : Tag) : Tag :=
  match x.prog with
  | none => x
  | some b =>
    if !b.owed then x
    else if x.abortMark then x.counted.finished .aborted
    else if x.wpMark || c.readOnly then x.counted.finished .writeProtected
    else if c.spent then x.exhausted b.lbn (x.waitsAbove c.lastDone)
    else x

/-- Whether the resolution frees the slots of its tag. -/
def Tag.resolvedFrees (c : ResolveKey) (x : Tag) : Bool :=
  match x.prog with
  | none => false
  | some b => b.owed && (x.abortMark || x.wpMark || c.readOnly || c.spent)

theorem resolveOwedTag_tag (s : State) (t u : TagNo) :
    (resolveOwedTag s t).tag u = if u = t then (s.tag t).resolved (resolveKey s) else s.tag u := by
  unfold resolveOwedTag Tag.resolved resolveKey
  dsimp only
  cases (s.tag t).prog with
  | none => by_cases h : u = t <;> simp [h]
  | some b =>
    dsimp only
    by_cases h1 : b.owed = true
    · by_cases h2 : (s.tag t).abortMark = true
      · simp only [h1, h2, Bool.not_true, Bool.false_eq_true, if_false, if_true]
        exact endUnresolved_tag ..
      · by_cases h3 : ((s.tag t).wpMark || s.jrnl.mode == .readOnly) = true
        · simp only [h1, h2, h3, Bool.not_true, Bool.false_eq_true, if_false, if_true]
          exact endUnresolved_tag ..
        · by_cases h4 : (freeSpares s).isEmpty = true
          · simp only [h1, h2, h3, h4, Bool.not_true, Bool.false_eq_true, if_false, if_true]
            exact exhaust_tag ..
          · by_cases h : u = t <;> simp [h1, h2, h3, h4, h]
    · by_cases h : u = t <;> simp [h1, h]

theorem resolveOwedTag_slot (s : State) (t : TagNo) (k : SlotNo) :
    (resolveOwedTag s t).slot k =
      if (s.slot k).owner = some t ∧ (s.tag t).resolvedFrees (resolveKey s) = true then Slot.free else s.slot k := by
  unfold resolveOwedTag Tag.resolvedFrees resolveKey
  dsimp only
  cases (s.tag t).prog with
  | none => simp
  | some b =>
    dsimp only
    by_cases h1 : b.owed = true
    · by_cases h2 : (s.tag t).abortMark = true
      · simp [h1, h2, endUnresolved_slot]
      · by_cases h3 : ((s.tag t).wpMark || s.jrnl.mode == .readOnly) = true
        · simp [h1, h2, h3, endUnresolved_slot]
        · by_cases h4 : (freeSpares s).isEmpty = true
          · simp [h1, h2, h3, h4, exhaust_slot_eq]
          · simp [h1, h2, h3, h4]
    · simp [h1]

theorem exhausted_prog (l : Nat) (w : Bool) (x : Tag) : (x.exhausted l w).prog = none := by
  unfold Tag.exhausted
  cases w <;> rfl

theorem resolved_of_prog_none (c : ResolveKey) (x : Tag) (h : x.prog = none) : x.resolved c = x := by
  simp [Tag.resolved, h]

/-- A resolution ends the tag's block in program, or leaves the record as it was. -/
theorem resolved_cases (c : ResolveKey) (x : Tag) : x.resolved c = x ∨ (x.resolved c).prog = none := by
  unfold Tag.resolved
  split
  · exact .inl rfl
  · split
    · exact .inl rfl
    · split
      · exact .inr rfl
      · split
        · exact .inr rfl
        · split
          · exact .inr (exhausted_prog ..)
          · exact .inl rfl

theorem resolved_resolved (c : ResolveKey) (x : Tag) : (x.resolved c).resolved c = x.resolved c := by
  rcases resolved_cases c x with h | h
  · rw [h, h]
  · exact resolved_of_prog_none c _ h

theorem resolvedFrees_resolved (c : ResolveKey) (x : Tag) (h : (x.resolved c).resolvedFrees c = true) :
    x.resolvedFrees c = true := by
  rcases resolved_cases c x with e | e
  · rwa [e] at h
  · simp [Tag.resolvedFrees, e] at h

@[simp] theorem resolveOwedTag_resolveKey (s : State) (t : TagNo) : resolveKey (resolveOwedTag s t) = resolveKey s := by
  simp [resolveKey, freeSpares, isMapped]

theorem foldl_resolveOwedTag_tag (l : List TagNo) (s : State) (u : TagNo) :
    (l.foldl resolveOwedTag s).tag u = if u ∈ l then (s.tag u).resolved (resolveKey s) else s.tag u :=
  foldl_tag resolveOwedTag resolveKey (fun c _ x => x.resolved c) resolveOwedTag_resolveKey resolveOwedTag_tag
    (fun c _ x => resolved_resolved c x) l s u

theorem foldl_resolveOwedTag_slot (l : List TagNo) (s : State) (k : SlotNo) :
    (l.foldl resolveOwedTag s).slot k =
      if ∃ t ∈ l, (s.slot k).owner = some t ∧ (s.tag t).resolvedFrees (resolveKey s) = true then Slot.free
      else s.slot k :=
  foldl_slot resolveOwedTag resolveKey (fun c _ x => x.resolved c) (fun c _ x _ => x.resolvedFrees c)
    resolveOwedTag_resolveKey resolveOwedTag_tag resolveOwedTag_slot (fun c _ x _ => resolvedFrees_resolved c x) l s k

/-- The record of every tag after the owed reallocations are resolved (R107). -/
theorem resolveOwed_tag (s : State) (u : TagNo) :
    (resolveOwed s).tag u = if u ∈ s.req.queue then (s.tag u).resolved (resolveKey s) else s.tag u := by
  unfold resolveOwed
  simp only [resolveOwedRefresh_records, foldl_resolveOwedTag_tag]

theorem resolveOwed_slot (s : State) (k : SlotNo) :
    (resolveOwed s).slot k =
      if ∃ t ∈ s.req.queue, (s.slot k).owner = some t ∧ (s.tag t).resolvedFrees (resolveKey s) = true then Slot.free
      else s.slot k := by
  unfold resolveOwed
  simp only [resolveOwedRefresh_records, foldl_resolveOwedTag_slot]

/-! ## An abort -/

/-- The record of a tag that has taken the abort mark (R21). -/
def Tag.markAbort (x : Tag) : Tag := { x with abortMark := true }

theorem markAbort_tag (s : State) (t u : TagNo) (p : SlotState → Bool) :
    ((freeSlotsOf t p s).modTag t fun x => { x with abortMark := true }).tag u =
      if u = t then (s.tag t).markAbort else s.tag u := modTag_tag _ t u _

/-- What an abort does to a tag's record; `inOp` says that its operation is in flight (R20, R21, R93, R114). -/
def Tag.aborted (inOp : Bool) (level : Nat) (x : Tag) : Tag :=
  match x.state with
  | .free | .done => x
  | .held | .queued => x.finished .aborted
  | .active | .ending =>
    if inOp then if x.wpMark || x.abortMark then x else x.markAbort
    else match x.cur, x.prog with
      | some c, _ => (x.takeRead c.lbn level .uncorrectable).finished .aborted
      | none, some _ => x.counted.finished .aborted
      | none, none => x.finished .aborted

/-- The slots that a tag loses at an abort (R21, R45). -/
def Tag.abortedFrees (inOp : Bool) (x : Tag) (st : SlotState) : Bool :=
  match x.state with
  | .free | .done => false
  | .held | .queued => true
  | .active | .ending => if inOp then !(x.wpMark || x.abortMark) && st.resting else true

theorem abortTag_tag (s : State) (t u : TagNo) :
    (abortTag s t).tag u =
      if u = t then (s.tag t).aborted (opTag s == some t) s.cfg.refreshLevel else s.tag u := by
  unfold abortTag Tag.aborted
  dsimp only
  cases (s.tag t).state with
  | free | done => by_cases h : u = t <;> simp [h]
  | held | queued => exact finish_tag_eq ..
  | active | ending =>
    by_cases ho : opTag s = some t
    · by_cases ha : ((s.tag t).wpMark || (s.tag t).abortMark) = true
      · by_cases h : u = t <;> simp [ho, ha, h]
      · simp only [ho, ha, beq_self_eq_true, if_true, if_false, Bool.false_eq_true, markAbort_tag]
    · simp only [ho, if_false, beq_eq_false_iff_ne.2 ho, Bool.false_eq_true]
      cases (s.tag t).cur with
      | some c =>
        simp only [finish_tag_eq, modTag_tag]
        by_cases h : u = t <;> simp [h]
      | none =>
        cases (s.tag t).prog with
        | none => exact finish_tag_eq ..
        | some b => exact endUnresolved_tag ..

theorem abortTag_slot (s : State) (t : TagNo) (k : SlotNo) :
    (abortTag s t).slot k =
      if (s.slot k).owner = some t ∧ (s.tag t).abortedFrees (opTag s == some t) (s.slot k).state = true then Slot.free
      else s.slot k := by
  unfold abortTag Tag.abortedFrees
  dsimp only
  cases (s.tag t).state with
  | free | done => simp
  | held | queued => simp [finish_slot_eq]
  | active | ending =>
    by_cases ho : opTag s = some t
    · by_cases ha : ((s.tag t).wpMark || (s.tag t).abortMark) = true
      · simp [ho, ha]
      · simp [ho, ha, freeSlotsOf_slot_eq]
    · simp only [ho, if_false, beq_eq_false_iff_ne.2 ho, Bool.false_eq_true, and_true]
      cases (s.tag t).cur with
      | some c => simp [finish_slot_eq]
      | none =>
        cases (s.tag t).prog with
        | none => exact finish_slot_eq ..
        | some b => exact endUnresolved_slot ..

@[simp] theorem abortTag_keeps (s : State) (t : TagNo) :
    (abortTag s t).rstnLow = s.rstnLow ∧ (abortTag s t).lastRead = s.lastRead ∧ (abortTag s t).port = s.port ∧
    (abortTag s t).svc = s.svc ∧ (abortTag s t).array = s.array ∧ (abortTag s t).patrol = s.patrol ∧
    (abortTag s t).jrnl = s.jrnl ∧ (abortTag s t).cmd = s.cmd ∧ (abortTag s t).cfg = s.cfg ∧
    (abortTag s t).attn = s.attn ∧ (abortTag s t).freeDraws = s.freeDraws ∧ (abortTag s t).pending = s.pending ∧
    (abortTag s t).req.queue = s.req.queue ∧ (abortTag s t).req.arrival = s.req.arrival ∧
    (abortTag s t).req.qlbn = s.req.qlbn ∧ (abortTag s t).req.qcount = s.req.qcount ∧
    (abortTag s t).req.qctrl = s.req.qctrl ∧ (abortTag s t).req.qresult = s.req.qresult ∧
    (abortTag s t).req.qresultTag = s.req.qresultTag ∧ (abortTag s t).req.qabort = s.req.qabort ∧
    (abortTag s t).req.abortIgnored = s.req.abortIgnored ∧ (abortTag s t).map.remap = s.map.remap ∧
    (abortTag s t).map.retired = s.map.retired := by
  unfold abortTag
  dsimp only
  split
  · simp
  · simp
  · simp
  · simp
  all_goals
    split
    · split <;> simp
    · split <;> simp

theorem aborted_aborted (inOp : Bool) (level : Nat) (x : Tag) :
    (x.aborted inOp level).aborted inOp level = x.aborted inOp level := by
  cases hs : x.state with
  | free | done | held | queued => simp [Tag.aborted, Tag.finished, hs]
  | active | ending =>
    cases inOp with
    | true =>
      by_cases ha : (x.wpMark || x.abortMark) = true
      · simp [Tag.aborted, hs, ha]
      · simp [Tag.aborted, Tag.markAbort, hs, ha]
    | false =>
      cases hc : x.cur with
      | some c => simp [Tag.aborted, Tag.finished, hs, hc]
      | none => cases hp : x.prog <;> simp [Tag.aborted, Tag.finished, Tag.counted, hs, hc, hp]

theorem abortedFrees_aborted (inOp : Bool) (level : Nat) (x : Tag) (st : SlotState)
    (h : (x.aborted inOp level).abortedFrees inOp st = true) : x.abortedFrees inOp st = true := by
  cases hs : x.state with
  | held | queued => simp [Tag.abortedFrees, hs]
  | free | done => simp [Tag.aborted, Tag.abortedFrees, hs] at h
  | active | ending =>
    cases inOp with
    | false => simp [Tag.abortedFrees, hs]
    | true =>
      by_cases ha : (x.wpMark || x.abortMark) = true
      · simp [Tag.aborted, Tag.abortedFrees, hs, ha] at h
      · simp [Tag.aborted, Tag.markAbort, Tag.abortedFrees, hs, ha] at h

/-- What an abort of one tag reads of the state besides the tag. -/
def abortKey (s : State) : Option TagNo × Nat := (opTag s, s.cfg.refreshLevel)

theorem abortTag_abortKey (s : State) (t : TagNo) : abortKey (abortTag s t) = abortKey s := by
  simp [abortKey, opTag]

theorem foldl_abortTag_tag (l : List TagNo) (s : State) (u : TagNo) :
    (l.foldl abortTag s).tag u =
      if u ∈ l then (s.tag u).aborted (opTag s == some u) s.cfg.refreshLevel else s.tag u :=
  foldl_tag abortTag abortKey (fun c t x => x.aborted (c.1 == some t) c.2) abortTag_abortKey abortTag_tag
    (fun _ _ x => aborted_aborted _ _ x) l s u

theorem foldl_abortTag_slot (l : List TagNo) (s : State) (k : SlotNo) :
    (l.foldl abortTag s).slot k =
      if ∃ t ∈ l, (s.slot k).owner = some t ∧
          (s.tag t).abortedFrees (opTag s == some t) (s.slot k).state = true then Slot.free
      else s.slot k :=
  foldl_slot abortTag abortKey (fun c t x => x.aborted (c.1 == some t) c.2)
    (fun c t x st => x.abortedFrees (c.1 == some t) st) abortTag_abortKey abortTag_tag abortTag_slot
    (fun _ _ x st => abortedFrees_aborted _ _ x st) l s k

/-! ## The tags that a commit releases -/

/-- What a commit's PASS does to a tag's record (R7, R109). -/
def Tag.released (sequence : Nat) (x : Tag) : Tag := if releasedBy sequence x then x.finished x.soFar else x

theorem releaseWaiter_tag (q : Nat) (s : State) (t u : TagNo) :
    (releaseWaiter q s t).tag u = if u = t then (s.tag t).released q else s.tag u := by
  unfold releaseWaiter Tag.released
  split
  · exact finish_tag_eq ..
  · by_cases h : u = t <;> simp [h]

theorem releaseWaiter_slot (q : Nat) (s : State) (t : TagNo) (k : SlotNo) :
    (releaseWaiter q s t).slot k =
      if (s.slot k).owner = some t ∧ releasedBy q (s.tag t) = true then Slot.free else s.slot k := by
  unfold releaseWaiter
  split
  · rename_i h
    simp [finish_slot_eq, h]
  · rename_i h
    simp [h]

theorem released_released (q : Nat) (x : Tag) : (x.released q).released q = x.released q := by
  unfold Tag.released
  split
  · simp [releasedBy, Tag.finished]
  · rfl

theorem releasedBy_released (q : Nat) (x : Tag) (h : releasedBy q (x.released q) = true) : releasedBy q x = true := by
  unfold Tag.released at h
  split at h
  · assumption
  · exact h

theorem foldl_releaseWaiter_tag (q : Nat) (l : List TagNo) (s : State) (u : TagNo) :
    (l.foldl (releaseWaiter q) s).tag u = if u ∈ l then (s.tag u).released q else s.tag u :=
  foldl_tag (releaseWaiter q) (fun _ => ()) (fun _ _ x => x.released q) (fun _ _ => rfl) (releaseWaiter_tag q)
    (fun _ _ x => released_released q x) l s u

theorem foldl_releaseWaiter_slot (q : Nat) (l : List TagNo) (s : State) (k : SlotNo) :
    (l.foldl (releaseWaiter q) s).slot k =
      if ∃ t ∈ l, (s.slot k).owner = some t ∧ releasedBy q (s.tag t) = true then Slot.free else s.slot k :=
  foldl_slot (releaseWaiter q) (fun _ => ()) (fun _ _ x => x.released q) (fun _ _ x _ => releasedBy q x)
    (fun _ _ => rfl) (releaseWaiter_tag q) (releaseWaiter_slot q) (fun _ _ x _ => releasedBy_released q x) l s k

@[simp] theorem releaseWaiter_keeps (q : Nat) (s : State) (t : TagNo) :
    (releaseWaiter q s t).rstnLow = s.rstnLow ∧ (releaseWaiter q s t).lastRead = s.lastRead ∧
    (releaseWaiter q s t).port = s.port ∧ (releaseWaiter q s t).svc = s.svc ∧
    (releaseWaiter q s t).array = s.array ∧ (releaseWaiter q s t).map = s.map ∧
    (releaseWaiter q s t).patrol = s.patrol ∧ (releaseWaiter q s t).jrnl = s.jrnl ∧
    (releaseWaiter q s t).cond = s.cond ∧ (releaseWaiter q s t).cmd = s.cmd ∧
    (releaseWaiter q s t).cfg = s.cfg ∧ (releaseWaiter q s t).attn = s.attn ∧
    (releaseWaiter q s t).freeDraws = s.freeDraws ∧ (releaseWaiter q s t).pending = s.pending ∧
    (releaseWaiter q s t).req.queue = s.req.queue ∧ (releaseWaiter q s t).req.arrival = s.req.arrival ∧
    (releaseWaiter q s t).req.qlbn = s.req.qlbn ∧ (releaseWaiter q s t).req.qcount = s.req.qcount ∧
    (releaseWaiter q s t).req.qctrl = s.req.qctrl ∧ (releaseWaiter q s t).req.qresult = s.req.qresult ∧
    (releaseWaiter q s t).req.qresultTag = s.req.qresultTag ∧ (releaseWaiter q s t).req.qabort = s.req.qabort ∧
    (releaseWaiter q s t).req.abortIgnored = s.req.abortIgnored := by
  unfold releaseWaiter
  split <;> simp

end Sys2Proof.Machine
end

section
/-! PROOFS. The invariant of the dispatch queue, the service list and the owed blocks: what of it holds in the middle of an
event, and how the close of the event restores the rest. -/
namespace Sys2Proof.Machine

/-! ## SERVICE is never latched -/

theorem latch_service (c : Cause) (s : State) :
    (latch c s).attn.latched.getLsbD 0 = s.attn.latched.getLsbD 0 := by
  cases c <;> simp [latch_latched, Cause.mask, Cause.pos]

theorem completeCommand_service (code : BitVec 8) (r : CmdResult) (s : State) :
    (completeCommand code r s).attn.latched.getLsbD 0 = s.attn.latched.getLsbD 0 := by
  unfold completeCommand
  rw [latch_service]

theorem setPatrolStatus_service (st : PatrolStatus) (s : State) :
    (setPatrolStatus st s).attn.latched.getLsbD 0 = s.attn.latched.getLsbD 0 := by
  unfold setPatrolStatus
  dsimp only
  split
  · rfl
  · rw [latch_service]

theorem failWaitingCommand_service (s : State) :
    (failWaitingCommand s).attn.latched.getLsbD 0 = s.attn.latched.getLsbD 0 := by
  unfold failWaitingCommand
  split
  · rfl
  · split
    · exact completeCommand_service ..
    · rfl

theorem releaseCommand_service (q : Nat) (s : State) :
    (releaseCommand q s).attn.latched.getLsbD 0 = s.attn.latched.getLsbD 0 := by
  unfold releaseCommand
  split
  · rfl
  · split
    · rfl
    · split
      · exact completeCommand_service ..
      · rfl

/-- The halt's own part of the engine: a scan that ran stops (R147). -/
def haltScan (s : State) : State :=
  if s.patrol.state == .idle then s
  else setPatrolStatus .haltedReadOnly { s with patrol := { s.patrol with state := .idle, mode := none } }

/-- What the halt stops at once: the scan, the gap timer, the buffer and an owed refresh block (R147). -/
def haltWork (s : State) : State :=
  resolveOwedRefresh (discardBuffer { haltScan s with patrol := { (haltScan s).patrol with gapTimer := none } })

theorem haltPatrol_eq (s : State) :
    haltPatrol s = match (haltWork s).patrol.bgRead with
      | none => haltWork s
      | some r => if r.retryOwed then closeBgRead r .uncorrectable (haltWork s) else haltWork s := rfl

/-- The halt is its work, and then the end of a background read that waits for a retry. -/
theorem haltPatrol_cases (s : State) :
    haltPatrol s = haltWork s ∨ ∃ r, (haltWork s).patrol.bgRead = some r ∧ r.retryOwed = true ∧
      haltPatrol s = closeBgRead r .uncorrectable (haltWork s) := by
  rw [haltPatrol_eq]
  cases hr : (haltWork s).patrol.bgRead with
  | none => exact .inl rfl
  | some r =>
    by_cases ho : r.retryOwed = true
    · exact .inr ⟨r, rfl, ho, by simp only [ho, if_true]⟩
    · exact .inl (by simp only [ho, Bool.false_eq_true, if_false])

theorem haltScan_service (s : State) : (haltScan s).attn.latched.getLsbD 0 = s.attn.latched.getLsbD 0 := by
  unfold haltScan
  split
  · rfl
  · exact setPatrolStatus_service ..

theorem haltScan_refreshBlock (s : State) :
    (haltScan s).patrol.refreshBlock = s.patrol.refreshBlock ∧ (haltScan s).jrnl = s.jrnl := by
  unfold haltScan
  split <;> simp

theorem haltPatrol_service (s : State) :
    (haltPatrol s).attn.latched.getLsbD 0 = s.attn.latched.getLsbD 0 := by
  have hwork : (haltWork s).attn.latched.getLsbD 0 = s.attn.latched.getLsbD 0 := by
    simp only [haltWork, resolveOwedRefresh_keeps, discardBuffer_keeps]
    exact haltScan_service s
  rcases haltPatrol_cases s with e | ⟨r, -, -, e⟩
  · rw [e, hwork]
  · rw [e]
    simp only [closeBgRead_keeps, hwork]

theorem becomeReadOnly_service (s : State) :
    (becomeReadOnly s).attn.latched.getLsbD 0 = s.attn.latched.getLsbD 0 := by
  unfold becomeReadOnly
  rw [failWaitingCommand_service, haltPatrol_service, foldl_attn _ (fun s t => by simp)]
  exact latch_service ..

theorem portMiss_service (s : State) : (portMiss s).attn.latched.getLsbD 0 = s.attn.latched.getLsbD 0 := by
  unfold portMiss
  rw [latch_service]

theorem latchHealth_service (s₀ s : State) :
    (latchHealth s₀ s).attn.latched.getLsbD 0 = s.attn.latched.getLsbD 0 := by
  unfold latchHealth
  split
  · exact latch_service ..
  · rfl

/-! ## The invariant, and its part that holds within an event -/

/-- The invariant of `QueueAndServiceListKept`. -/
def QueueInv (s : State) : Prop := QueueOk s ∧ ArrivalOk s ∧ HeldOk s ∧ ServiceOk s ∧ OwedOk s

/-- What of it holds in the middle of an event, but for what blocks owe: DONE tags may still stand in the queue, HELD tags
may wait for them, and an emptied queue has not yet reset the arrival counter. -/
structure EventOk (s : State) : Prop where
  nodup : s.req.queue.Nodup
  live_mem : ∀ t, (s.tag t).state.live = true → t ∈ s.req.queue
  not_free : ∀ t ∈ s.req.queue, (s.tag t).state ≠ .free
  urgentFirst : s.req.queue.Pairwise fun a b => (s.tag b).urgent = true → (s.tag a).urgent = true
  opActive : ∀ t, opTag s = some t → (s.tag t).state = .active
  waiting : ∀ t, (s.tag t).state = .held ∨ (s.tag t).state = .queued → (s.tag t).cur = none ∧ (s.tag t).prog = none
  arrivals : s.req.queue.Pairwise fun a b =>
    (s.tag a).urgent = (s.tag b).urgent → (s.tag a).arrival < (s.tag b).arrival
  below : ∀ n ∈ s.req.queue, (s.tag n).arrival < s.req.arrival
  limit : s.req.arrival ≤ 4294967295
  service : ServiceOk s

theorem ne_free_of_live {st : TagState} (h : st.live = true) : st ≠ .free := by
  rintro rfl
  cases h

theorem QueueInv.eventOk {s : State} (h : QueueInv s) : EventOk s := by
  obtain ⟨⟨hnd, hmem, hurg, hop, hw⟩, ⟨harr, hbelow, -, hlim⟩, -, hsvc, -⟩ := h
  exact ⟨hnd, fun t => (hmem t).2, fun t ht => ne_free_of_live ((hmem t).1 ht), hurg, hop, hw, harr, hbelow, hlim, hsvc⟩

theorem QueueInv.owedOk {s : State} (h : QueueInv s) : OwedOk s := h.2.2.2.2

theorem QueueInv.queueLive {s : State} (h : QueueInv s) (u : TagNo) (hu : u ∈ s.req.queue) :
    (s.tag u).state.live = true := (h.1.2.1 u).1 hu

theorem QueueInv.arrival_zero {s : State} (h : QueueInv s) (hq : s.req.queue = []) : s.req.arrival = 0 := h.2.1.2.2.1 hq

/-- What an event may make of a tag's record; `inOp` says that its operation is in flight. -/
structure Tag.StepOk (inOp : Prop) (x y : Tag) : Prop where
  urgent : y.urgent = x.urgent
  arrival : y.arrival = x.arrival
  live : y.state.live = true → x.state.live = true
  notFree : x.state ≠ .free → y.state ≠ .free
  active : inOp → x.state = .active → y.state = .active
  waiting : y.state = .held ∨ y.state = .queued → y.state = x.state ∧ y.cur = x.cur ∧ y.prog = x.prog

theorem Tag.StepOk.refl (inOp : Prop) (x : Tag) : x.StepOk inOp x :=
  ⟨rfl, rfl, id, id, fun _ => id, fun _ => ⟨rfl, rfl, rfl⟩⟩

theorem Tag.StepOk.of_eq {inOp : Prop} {x y : Tag} (h : y = x) : x.StepOk inOp y := h ▸ .refl inOp x

theorem Tag.StepOk.trans {inOp : Prop} {x y z : Tag} (h : x.StepOk inOp y) (h' : y.StepOk inOp z) : x.StepOk inOp z := by
  refine ⟨h'.urgent.trans h.urgent, h'.arrival.trans h.arrival, fun hl => h.live (h'.live hl),
    fun hf => h'.notFree (h.notFree hf), fun hi ha => h'.active hi (h.active hi ha), fun hw => ?_⟩
  obtain ⟨es, ec, ep⟩ := h'.waiting hw
  obtain ⟨es', ec', ep'⟩ := h.waiting (es ▸ hw)
  exact ⟨es.trans es', ec.trans ec', ep.trans ep'⟩

/-- An event keeps its part of the invariant if it treats every record so, and leaves the queue and the service list. -/
theorem EventOk.step {s t : State} (h : EventOk s) (htags : ∀ u, (s.tag u).StepOk (opTag t = some u) (t.tag u))
    (hq : t.req.queue = s.req.queue) (ha : t.req.arrival = s.req.arrival) (hs : t.svc.list = s.svc.list)
    (hb : t.attn.latched.getLsbD 0 = s.attn.latched.getLsbD 0) (hop : opTag t = opTag s ∨ opTag t = none) : EventOk t where
  nodup := hq ▸ h.nodup
  live_mem u hl := hq ▸ h.live_mem u ((htags u).live hl)
  not_free u hu := (htags u).notFree (h.not_free u (hq ▸ hu))
  urgentFirst := by
    rw [hq]
    exact h.urgentFirst.imp fun {a b} hab => by rwa [(htags a).urgent, (htags b).urgent]
  opActive u hu := by
    refine (htags u).active hu (h.opActive u ?_)
    rcases hop with e | e
    · rw [← e, hu]
    · rw [hu] at e
      cases e
  waiting u hu := by
    obtain ⟨es, ec, ep⟩ := (htags u).waiting hu
    rw [ec, ep]
    exact h.waiting u (es ▸ hu)
  arrivals := by
    rw [hq]
    exact h.arrivals.imp fun {a b} hab => by
      rwa [(htags a).urgent, (htags b).urgent, (htags a).arrival, (htags b).arrival]
  below u hu := by
    rw [(htags u).arrival, ha]
    exact h.below u (hq ▸ hu)
  limit := ha ▸ h.limit
  service := by
    obtain ⟨hnd, hf, h0⟩ := h.service
    exact ⟨hs ▸ hnd, fun u hu => (htags u).notFree (hf u (hs ▸ hu)), hb ▸ h0⟩

/-- Operations that leave the tags, the queue and the service list alone keep it. -/
theorem EventOk.congr {s t : State} (h : EventOk s) (hreq : t.req = s.req) (hs : t.svc.list = s.svc.list)
    (hb : t.attn.latched.getLsbD 0 = s.attn.latched.getLsbD 0) (hop : opTag t = opTag s ∨ opTag t = none) : EventOk t :=
  h.step (fun u => .of_eq (tag_eq_of_req hreq u)) (by rw [hreq]) (by rw [hreq]) hs hb hop

/-- One record changes, as an event may change it. -/
theorem EventOk.setTag {s : State} (h : EventOk s) (n : TagNo) (x : Tag) (hx : (s.tag n).StepOk (opTag s = some n) x) :
    EventOk (s.setTag n x) := by
  refine h.step (fun u => ?_) (by simp) (by simp) (by simp) (by simp) (.inl rfl)
  rw [setTag_tag]
  split
  · rename_i e
    exact e ▸ hx
  · exact .refl ..

theorem EventOk.modTag {s : State} (h : EventOk s) (n : TagNo) (f : Tag → Tag)
    (hf : (s.tag n).StepOk (opTag s = some n) (f (s.tag n))) : EventOk (s.modTag n f) := h.setTag n _ hf

/-- A record whose state and outstanding blocks stay is treated as an event may treat it. -/
theorem Tag.StepOk.of_fields {inOp : Prop} {x y : Tag} (hu : y.urgent = x.urgent) (ha : y.arrival = x.arrival)
    (hs : y.state = x.state) (hc : y.cur = x.cur) (hp : y.prog = x.prog) : x.StepOk inOp y :=
  ⟨hu, ha, fun h => hs ▸ h, fun h => hs ▸ h, fun _ h => hs ▸ h, fun _ => ⟨hs, hc, hp⟩⟩

/-- So is one of a tag that is led from ACTIVE or ENDING to ACTIVE, ENDING or DONE, but for a tag in operation. -/
theorem Tag.StepOk.of_state {inOp : Prop} {x y : Tag} (hu : y.urgent = x.urgent) (ha : y.arrival = x.arrival)
    (hl : y.state.live = true → x.state.live = true) (hf : y.state ≠ .free) (hh : y.state ≠ .held)
    (hq : y.state ≠ .queued) (hi : inOp → x.state = .active → y.state = .active) : x.StepOk inOp y :=
  ⟨hu, ha, hl, fun _ => hf, hi, fun h => by rcases h with h | h; exacts [absurd h hh, absurd h hq]⟩

theorem finished_stepOk {inOp : Prop} (st : Status) (x : Tag) (h : inOp → x.state ≠ .active) :
    x.StepOk inOp (x.finished st) :=
  .of_state rfl rfl (fun h => by cases h) (by simp [Tag.finished]) (by simp [Tag.finished]) (by simp [Tag.finished])
    fun hi ha => absurd ha (h hi)

theorem EventOk.finish {s : State} (h : EventOk s) (n : TagNo) (st : Status) (hop : opTag s ≠ some n) :
    EventOk (finish n st s) := by
  refine h.step (fun u => ?_) (by simp) (by simp) (by simp) (by simp) (.inl rfl)
  rw [finish_tag_eq]
  split
  · rename_i e
    subst e
    exact finished_stepOk st _ fun hi => absurd hi hop
  · exact .refl ..

theorem stopped_stepOk (inOp : Bool) (x : Tag) : x.StepOk (inOp = true) (x.stopped inOp) := by
  have hfin : ∀ st, x.state = .held ∨ x.state = .queued ∨ x.state = .ending → x.StepOk (inOp = true) (x.finished st) :=
    fun st hs => finished_stepOk st x fun _ ha => by simp [ha] at hs
  by_cases hw : x.kind.writes = true
  · cases hs : x.state with
    | free | done => exact .of_eq (by simp [Tag.stopped, hw, hs])
    | held | queued | ending =>
      have e : x.stopped inOp = x.finished .writeProtected ∨ x.stopped inOp = x.finished .journalFault := by
        simp [Tag.stopped, hw, hs]
      rcases e with e | e <;> rw [e] <;> exact hfin _ (by simp [hs])
    | active =>
      cases inOp with
      | true =>
        by_cases ha : x.abortMark = true
        · exact .of_eq (by simp [Tag.stopped, hw, hs, ha])
        · have e : x.stopped true = x.markWp := by simp [Tag.stopped, hw, hs, ha]
          rw [e]
          exact .of_fields rfl rfl rfl rfl rfl
      | false =>
        have e : x.stopped false = x.finished .writeProtected ∨ x.stopped false = x.counted.finished .writeProtected := by
          cases hp : x.prog with
          | none => simp [Tag.stopped, hw, hs, hp]
          | some b => by_cases hb : b.owed = true <;> simp [Tag.stopped, hw, hs, hp, hb]
        rcases e with e | e <;> rw [e] <;> exact .of_state rfl rfl (fun h => by cases h) (by simp [Tag.finished])
          (by simp [Tag.finished]) (by simp [Tag.finished]) (fun h => by cases h)
  · exact .of_eq (by simp [Tag.stopped, hw])

theorem EventOk.becomeReadOnly {s : State} (h : EventOk s) : EventOk (Machine.becomeReadOnly s) := by
  have hop : opTag (Machine.becomeReadOnly s) = opTag s := opTag_eq_of_array (by simp)
  refine h.step (fun u => ?_) (by simp) (by simp) (by simp) (becomeReadOnly_service s) (.inl hop)
  rw [becomeReadOnly_tag, hop]
  split
  · have := stopped_stepOk (opTag s == some u) (s.tag u)
    simpa using this
  · exact .refl ..

theorem EventOk.checkSequence {s : State} (h : EventOk s) : EventOk (checkSequence s) := by
  unfold Machine.checkSequence
  split
  · exact h.becomeReadOnly
  · exact h

/-! ## What blocks owe -/

/-- What of `OwedOk` a block keeps even where its owed reallocation is still to be resolved. -/
def OwedWeak (s : State) : Prop :=
  (∀ n b, (s.tag n).prog = some b →
    (s.tag n).kind.writes = true ∧ (b.owed = true → b.inFlight = false ∧ (s.tag n).state = .active)) ∧
  ∀ b, s.patrol.refreshBlock = some b → b.owed = true → b.inFlight = false

theorem owedWeak_of_owedOk {s : State} (h : OwedOk s) : OwedWeak s := by
  refine ⟨fun n b hb => ⟨(h.1 n b hb).1, fun ho => ?_⟩, fun b hb ho => (h.2.1 b hb ho).1⟩
  obtain ⟨hi, ha, -⟩ := (h.1 n b hb).2 ho
  exact ⟨hi, ha⟩

/-- While the unit is idle the clauses on the operation in flight say nothing. -/
theorem owedOk_of_idle {s : State} (hop : s.array.op = none) (hw : OwedWeak s)
    (hm : ∀ n b, (s.tag n).prog = some b → b.owed = true →
      (s.tag n).abortMark = false ∧ (s.tag n).wpMark = false ∧ s.jrnl.mode ≠ .readOnly)
    (hr : ∀ b, s.patrol.refreshBlock = some b → b.owed = true → s.jrnl.mode ≠ .readOnly) : OwedOk s := by
  have hnone : ∀ {p : Prop} (o : ArrayOp), s.array.op = some o → p := fun o ho => by
    rw [hop] at ho
    cases ho
  refine ⟨fun n b hb => ⟨(hw.1 n b hb).1, fun ho => ?_⟩, fun b hb ho => ⟨hw.2 b hb ho, hr b hb ho⟩,
    fun o ho => hnone o ho, fun o ho => hnone o ho⟩
  obtain ⟨hi, ha⟩ := (hw.1 n b hb).2 ho
  obtain ⟨hab, hwp, hmode⟩ := hm n b hb ho
  refine ⟨hi, ha, hab, hwp, ?_, hmode⟩
  rw [opTag_of_idle hop]
  exact Option.some_ne_none n |>.symm

/-- A record that has kept its block in program, or lost it. -/
def Tag.OwedStep (x y : Tag) : Prop :=
  ∀ b, y.prog = some b → x.prog = some b ∧ y.kind = x.kind ∧
    (b.owed = true → y.state = x.state ∧ y.abortMark = x.abortMark ∧ y.wpMark = x.wpMark)

theorem Tag.OwedStep.of_eq {x y : Tag} (h : y = x) : x.OwedStep y := by
  subst h
  exact fun b hb => ⟨hb, rfl, fun _ => ⟨rfl, rfl, rfl⟩⟩

theorem Tag.OwedStep.of_none {x y : Tag} (h : y.prog = none) : x.OwedStep y := fun b hb => by
  rw [h] at hb
  cases hb

theorem Tag.OwedStep.of_fields {x y : Tag} (hp : y.prog = x.prog) (hk : y.kind = x.kind) (hs : y.state = x.state)
    (ha : y.abortMark = x.abortMark) (hw : y.wpMark = x.wpMark) : x.OwedStep y :=
  fun _ hb => ⟨hp ▸ hb, hk, fun _ => ⟨hs, ha, hw⟩⟩

theorem OwedOk.step {s t : State} (h : OwedOk s) (htags : ∀ u, (s.tag u).OwedStep (t.tag u))
    (hop : t.array.op = s.array.op ∨ t.array.op = none)
    (hr : t.patrol.refreshBlock = s.patrol.refreshBlock ∨ t.patrol.refreshBlock = none)
    (hmode : t.jrnl.mode = s.jrnl.mode ∨ t.jrnl.mode ≠ .readOnly) : OwedOk t := by
  have hm : s.jrnl.mode ≠ .readOnly → t.jrnl.mode ≠ .readOnly := fun hs => by
    rcases hmode with e | e
    · rwa [e]
    · exact e
  have ho : ∀ o, t.array.op = some o → s.array.op = some o := fun o e => by
    rcases hop with e' | e'
    · rw [← e', e]
    · rw [e'] at e
      cases e
  have hrb : ∀ b, t.patrol.refreshBlock = some b → s.patrol.refreshBlock = some b := fun b e => by
    rcases hr with e' | e'
    · rw [← e', e]
    · rw [e'] at e
      cases e
  refine ⟨fun n b hb => ?_, fun b hb hbo => ?_, fun o hoo hq n b hb => ?_, fun o hoo hq => ?_⟩
  · obtain ⟨hb', hk, hst⟩ := htags n b hb
    refine ⟨hk ▸ (h.1 n b hb').1, fun hbo => ?_⟩
    obtain ⟨hi, hact, ha, hw, hop', hmode'⟩ := (h.1 n b hb').2 hbo
    obtain ⟨e1, e2, e3⟩ := hst hbo
    refine ⟨hi, e1 ▸ hact, e2 ▸ ha, e3 ▸ hw, fun e => hop' ?_, hm hmode'⟩
    obtain ⟨o, hoo, hq⟩ := op_of_opTag e
    exact opTag_of_op (ho o hoo) hq
  · obtain ⟨hi, hmode'⟩ := h.2.1 b (hrb b hb) hbo
    exact ⟨hi, hm hmode'⟩
  · exact h.2.2.1 o (ho o hoo) hq n b (htags n b hb).1
  · rcases hr with e | e
    · rw [e]
      exact h.2.2.2 o (ho o hoo) hq
    · exact e

theorem OwedOk.congr {s t : State} (h : OwedOk s) (htags : ∀ u, t.tag u = s.tag u)
    (hop : t.array.op = s.array.op ∨ t.array.op = none)
    (hr : t.patrol.refreshBlock = s.patrol.refreshBlock ∨ t.patrol.refreshBlock = none)
    (hmode : t.jrnl.mode = s.jrnl.mode ∨ t.jrnl.mode ≠ .readOnly) : OwedOk t :=
  h.step (fun u => .of_eq (htags u)) hop hr hmode

theorem OwedOk.setTag {s : State} (h : OwedOk s) (n : TagNo) (x : Tag) (hx : (s.tag n).OwedStep x) :
    OwedOk (s.setTag n x) := by
  refine h.step (fun u => ?_) (.inl (by simp)) (.inl (by simp)) (.inl (by simp))
  rw [setTag_tag]
  split
  · rename_i e
    exact e ▸ hx
  · exact .of_eq rfl

theorem OwedOk.modTag {s : State} (h : OwedOk s) (n : TagNo) (f : Tag → Tag) (hf : (s.tag n).OwedStep (f (s.tag n))) :
    OwedOk (s.modTag n f) := h.setTag n _ hf

theorem OwedOk.finish {s : State} (h : OwedOk s) (n : TagNo) (st : Status) : OwedOk (finish n st s) := by
  refine h.step (fun u => ?_) (.inl (by simp)) (.inl (by simp)) (.inl (by simp))
  rw [finish_tag_eq]
  split
  · exact .of_none rfl
  · exact .of_eq rfl

/-! ## The resolution of owed reallocations keeps the queue, and settles what is owed -/

theorem exhausted_stepOk (l : Nat) (w : Bool) (x : Tag) (hs : x.state = .active) : x.StepOk False (x.exhausted l w) := by
  unfold Tag.exhausted
  cases w with
  | true =>
    exact .of_state rfl rfl (fun _ => by rw [hs]; rfl) (by simp) (by simp) (by simp) (by simp)
  | false =>
    exact .of_state rfl rfl (fun h => by cases h) (by simp [Tag.finished]) (by simp [Tag.finished])
      (by simp [Tag.finished]) (by simp)

theorem resolved_stepOk (c : ResolveKey) (x : Tag) (h : ∀ b, x.prog = some b → b.owed = true → x.state = .active) :
    x.StepOk False (x.resolved c) := by
  have hcount : ∀ st, x.StepOk False (x.counted.finished st) := fun st =>
    .of_state rfl rfl (fun h => by cases h) (by simp [Tag.finished]) (by simp [Tag.finished]) (by simp [Tag.finished])
      (by simp)
  unfold Tag.resolved
  split
  · exact .refl ..
  · rename_i b hb
    split
    · exact .refl ..
    · rename_i ho
      split
      · exact hcount _
      · split
        · exact hcount _
        · split
          · exact exhausted_stepOk _ _ x (h b hb (by simpa using ho))
          · exact .refl ..

/-- A block that still owes its reallocation after the resolution may be served (R103, R114, R115). -/
theorem resolved_prog {c : ResolveKey} {x : Tag} {b : BlockInProgram} (h : (x.resolved c).prog = some b)
    (ho : b.owed = true) : x.resolved c = x ∧ x.abortMark = false ∧ x.wpMark = false ∧ c.readOnly = false := by
  rcases resolved_cases c x with e | e
  · refine ⟨e, ?_⟩
    rw [e] at h
    unfold Tag.resolved at e
    simp only [h, ho, Bool.not_true, Bool.false_eq_true, if_false] at e
    have hne : ∀ y : Tag, y.prog = none → y ≠ x := fun y hy hyx => by
      rw [hyx, h] at hy
      cases hy
    by_cases ha : x.abortMark = true
    · rw [if_pos ha] at e
      exact absurd e (hne _ rfl)
    · rw [if_neg ha] at e
      by_cases hw : (x.wpMark || c.readOnly) = true
      · rw [if_pos hw] at e
        exact absurd e (hne _ rfl)
      · simpa [ha] using hw
  · rw [e] at h
    cases h

theorem resolveOwedRefresh_refreshBlock (s : State) :
    (resolveOwedRefresh s).patrol.refreshBlock = none ∨
      ((resolveOwedRefresh s).patrol.refreshBlock = s.patrol.refreshBlock ∧
        ∀ b, s.patrol.refreshBlock = some b → b.owed = true → s.jrnl.mode ≠ .readOnly ∧ freeSpares s ≠ []) := by
  unfold resolveOwedRefresh
  cases hb : s.patrol.refreshBlock with
  | none => exact .inl hb
  | some b =>
    dsimp only
    split
    · exact .inl (by simp)
    · rename_i hc
      refine .inr ⟨hb, fun b' hb' ho => ?_⟩
      cases hb'
      rw [ho] at hc
      simpa using hc

theorem EventOk.resolveOwed {s : State} (h : EventOk s) (hop : s.array.op = none) (hw : OwedWeak s) :
    EventOk (resolveOwed s) := by
  have hopt : opTag (Machine.resolveOwed s) = none := opTag_of_idle (by simp [hop])
  refine h.step (fun u => ?_) (by simp) (by simp) (by simp) (by simp) (.inr hopt)
  rw [resolveOwed_tag, hopt]
  split
  · have := resolved_stepOk (resolveKey s) (s.tag u) fun b hb ho => ((hw.1 u b hb).2 ho).2
    simpa using this
  · exact .refl ..

theorem resolveOwed_owedOk {s : State} (h : EventOk s) (hop : s.array.op = none) (hw : OwedWeak s) :
    OwedOk (resolveOwed s) := by
  have hkeep : ∀ u b, ((resolveOwed s).tag u).prog = some b → b.owed = true →
      (resolveOwed s).tag u = s.tag u ∧ (s.tag u).abortMark = false ∧ (s.tag u).wpMark = false ∧
        s.jrnl.mode ≠ .readOnly := fun u b hb ho => by
    rw [resolveOwed_tag] at hb ⊢
    split at hb
    · rename_i hu
      obtain ⟨e, ha, hwp, hro⟩ := resolved_prog hb ho
      rw [if_pos hu]
      exact ⟨e, ha, hwp, by simpa [resolveKey] using hro⟩
    · rename_i hu
      have hact := ((hw.1 u b hb).2 ho).2
      exact absurd (h.live_mem u (by rw [hact]; rfl)) hu
  have hprog : ∀ u b, ((resolveOwed s).tag u).prog = some b → (s.tag u).prog = some b ∧
      ((resolveOwed s).tag u).kind = (s.tag u).kind := fun u b hb => by
    rw [resolveOwed_tag] at hb ⊢
    split at hb
    · rename_i hu
      rcases resolved_cases (resolveKey s) (s.tag u) with e | e
      · rw [if_pos hu, e]
        exact ⟨e ▸ hb, rfl⟩
      · rw [e] at hb
        cases hb
    · rename_i hu
      rw [if_neg hu]
      exact ⟨hb, rfl⟩
  have hrefresh : ∀ b, (resolveOwed s).patrol.refreshBlock = some b → b.owed = true →
      s.patrol.refreshBlock = some b ∧ s.jrnl.mode ≠ .readOnly := fun b hb ho => by
    unfold resolveOwed at hb
    rcases resolveOwedRefresh_refreshBlock (s.req.queue.foldl resolveOwedTag s) with e | ⟨e, hc⟩
    · rw [e] at hb
      cases hb
    · rw [e] at hb
      refine ⟨by simpa using hb, ?_⟩
      simpa using (hc b hb ho).1
  refine owedOk_of_idle (by simp [hop]) ⟨fun n b hb => ?_, fun b hb ho => hw.2 b (hrefresh b hb ho).1 ho⟩
    (fun n b hb ho => ?_) (fun b hb ho => by simpa using (hrefresh b hb ho).2)
  · obtain ⟨hb', hk⟩ := hprog n b hb
    refine ⟨hk ▸ (hw.1 n b hb').1, fun ho => ?_⟩
    rw [(hkeep n b hb ho).1]
    exact (hw.1 n b hb').2 ho
  · obtain ⟨e, ha, hwp, hm⟩ := hkeep n b hb ho
    rw [e]
    exact ⟨ha, hwp, by simpa using hm⟩

/-! ## The change to READ_ONLY leaves nothing owed -/

/-- A block that a stopped tag keeps in program owes no reallocation, unless the tag is one that the change passes over. -/
theorem stopped_prog {inOp : Bool} {x : Tag} {b : BlockInProgram} (h : (x.stopped inOp).prog = some b) :
    x.prog = some b ∧ (x.stopped inOp).kind = x.kind ∧
      (x.kind.writes = true → x.state = .active → inOp = true) := by
  by_cases hw : x.kind.writes = true
  · cases hs : x.state with
    | free | done =>
      have e : x.stopped inOp = x := by simp [Tag.stopped, hw, hs]
      rw [e] at h ⊢
      exact ⟨h, rfl, fun _ h => by cases h⟩
    | held | queued | ending => simp [Tag.stopped, Tag.finished, hw, hs] at h
    | active =>
      cases inOp with
      | true =>
        by_cases ha : x.abortMark = true
        · have e : x.stopped true = x := by simp [Tag.stopped, hw, hs, ha]
          rw [e] at h ⊢
          exact ⟨h, rfl, fun _ _ => rfl⟩
        · have e : x.stopped true = x.markWp := by simp [Tag.stopped, hw, hs, ha]
          rw [e] at h ⊢
          exact ⟨h, rfl, fun _ _ => rfl⟩
      | false =>
        exfalso
        cases hp : x.prog with
        | none => simp [Tag.stopped, Tag.finished, hw, hs, hp] at h
        | some b' =>
          by_cases hb : b'.owed = true <;> simp [Tag.stopped, Tag.finished, Tag.counted, hw, hs, hp, hb] at h
  · have e : x.stopped inOp = x := by simp [Tag.stopped, hw]
    rw [e] at h ⊢
    exact ⟨h, rfl, fun h => absurd h hw⟩

theorem haltPatrol_refreshBlock (s : State) (hm : s.jrnl.mode = .readOnly) :
    (haltPatrol s).patrol.refreshBlock = none ∨
      ((haltPatrol s).patrol.refreshBlock = s.patrol.refreshBlock ∧
        ∀ b, s.patrol.refreshBlock = some b → b.owed = false) := by
  obtain ⟨hblock, hj⟩ := haltScan_refreshBlock s
  have hlast : (haltPatrol s).patrol.refreshBlock = (haltWork s).patrol.refreshBlock := by
    rcases haltPatrol_cases s with e | ⟨r, -, -, e⟩ <;> rw [e]
    simp
  rw [hlast, haltWork]
  rcases resolveOwedRefresh_refreshBlock
    (discardBuffer { haltScan s with patrol := { (haltScan s).patrol with gapTimer := none } }) with e | ⟨e, hc⟩
  · exact .inl e
  · refine .inr ⟨e.trans hblock, fun b hb => ?_⟩
    by_contra ho
    exact (hc b (hblock.trans hb) (by simpa using ho)).1 (by simpa [hj] using hm)

theorem becomeReadOnly_refreshBlock (s : State) :
    (becomeReadOnly s).patrol.refreshBlock = none ∨
      ((becomeReadOnly s).patrol.refreshBlock = s.patrol.refreshBlock ∧
        ∀ b, s.patrol.refreshBlock = some b → b.owed = false) := by
  unfold becomeReadOnly
  simp only [failWaitingCommand_keeps]
  have := haltPatrol_refreshBlock
    (s.req.queue.foldl readOnlyTag (latch .fault { s with jrnl := { s.jrnl with mode := .readOnly } })) (by simp)
  simpa using this

theorem OwedOk.becomeReadOnly {s : State} (ho : OwedOk s) (h : EventOk s) : OwedOk (becomeReadOnly s) := by
  have hop : (Machine.becomeReadOnly s).array = s.array := by simp
  have hprog : ∀ u b, ((Machine.becomeReadOnly s).tag u).prog = some b → (s.tag u).prog = some b ∧
      ((Machine.becomeReadOnly s).tag u).kind = (s.tag u).kind ∧ b.owed = false := fun u b hb => by
    rw [becomeReadOnly_tag] at hb ⊢
    split at hb
    · rename_i hu
      obtain ⟨hb', hk, hin⟩ := stopped_prog hb
      rw [if_pos hu]
      refine ⟨hb', hk, ?_⟩
      by_contra hbo
      obtain ⟨hwr, hrest⟩ := ho.1 u b hb'
      obtain ⟨-, hact, -, -, hopn, -⟩ := hrest (by simpa using hbo)
      exact hopn (by simpa using hin hwr hact)
    · rename_i hu
      rw [if_neg hu]
      refine ⟨hb, rfl, ?_⟩
      by_contra hbo
      obtain ⟨-, hact, -⟩ := (ho.1 u b hb).2 (by simpa using hbo)
      exact hu (h.live_mem u (by rw [hact]; rfl))
  have hrb : ∀ b, (Machine.becomeReadOnly s).patrol.refreshBlock = some b → b.owed = false := fun b hb => by
    rcases becomeReadOnly_refreshBlock s with e | ⟨e, hc⟩
    · rw [e] at hb
      cases hb
    · exact hc b (e ▸ hb)
  refine ⟨fun n b hb => ?_, fun b hb hbo => ?_, fun o hoo hq n b hb => (hprog n b hb).2.2, fun o hoo hq => ?_⟩
  · obtain ⟨hb', hk, hbo⟩ := hprog n b hb
    refine ⟨hk ▸ (ho.1 n b hb').1, fun h => ?_⟩
    rw [hbo] at h
    cases h
  · rw [hrb b hb] at hbo
    cases hbo
  · rcases becomeReadOnly_refreshBlock s with e | ⟨e, -⟩
    · exact e
    · rw [e]
      exact ho.2.2.2 o (hop ▸ hoo) hq

theorem OwedOk.checkSequence {s : State} (ho : OwedOk s) (h : EventOk s) : OwedOk (checkSequence s) := by
  unfold Machine.checkSequence
  split
  · exact ho.becomeReadOnly h
  · exact ho

/-! ## The close of an event -/

theorem closedEvent_opTag (s₀ s : State) : opTag (closedEvent s₀ s) = opTag s := opTag_eq_of_array (by simp)

theorem closedEvent_service (s₀ s : State) (h : EventOk s) : ServiceOk (closedEvent s₀ s) := by
  obtain ⟨hnd, hf, h0⟩ := h.service
  have hlist : (closedEvent s₀ s).svc.list = (grantSlots 8 (closeQueue s₀ s)).svc.list := by simp [closedEvent]
  refine ⟨?_, fun u hu => ?_, ?_⟩
  · rw [hlist]
    exact grantSlots_svc_nodup 8 _ (closeQueue_svc_nodup s₀ s hnd)
  · rw [hlist] at hu
    rw [closedEvent_tag]
    have hstate : (s.tag u).state ≠ .free → (releaseTag s (s.tag u)).state ≠ .free := fun hne => by
      rcases releaseTag_state s (s.tag u) with e | ⟨-, e⟩
      · rwa [e]
      · rw [e]
        exact fun h => by cases h
    rcases mem_grantSlots_svc 8 _ u hu with hu | ⟨-, hm, -⟩
    · refine hstate ?_
      rcases (mem_closeQueue_svc s₀ s u).1 hu with ⟨-, hd⟩ | hu
      · rw [hd]
        exact fun h => by cases h
      · exact hf u hu
    · rw [closeQueue_tag] at hm
      rcases hm with e | e | e <;> rw [e] <;> exact fun h => by cases h
  · unfold closedEvent
    rw [latchHealth_service]
    simpa only [grantSlots_keeps, closeQueue_keeps] using h0

/-- The close of an event restores the invariant, before the arbiter's choice. -/
theorem closedEvent_inv (s₀ s : State) (h : EventOk s) (ho : OwedOk s)
    (h0 : s₀.req.queue = [] → liveQueue s = [] → s.req.arrival = 0) : QueueInv (closedEvent s₀ s) := by
  have hq : (closedEvent s₀ s).req.queue = liveQueue s := by simp [closeQueue_queue, liveQueue]
  have hsub : (liveQueue s).Sublist s.req.queue := List.filter_sublist
  have hmem : ∀ t, t ∈ liveQueue s → t ∈ s.req.queue := fun t ht => hsub.subset ht
  refine ⟨⟨?_, fun t => ?_, ?_, fun t ht => ?_, fun t ht => ?_⟩, ⟨?_, fun n hn => ?_, fun he => ?_, ?_⟩, fun n hn => ?_,
    closedEvent_service s₀ s h, ?_⟩
  · rw [hq]
    exact h.nodup.sublist hsub
  · rw [hq, closedEvent_tag, releaseTag_live]
    unfold liveQueue
    rw [List.mem_filter]
    exact ⟨fun ht => ht.2, fun ht => ⟨h.live_mem t ht, ht⟩⟩
  · rw [hq]
    refine (h.urgentFirst.sublist hsub).imp fun {a b} hab => ?_
    simpa [closedEvent_tag] using hab
  · rw [closedEvent_opTag] at ht
    have ha := h.opActive t ht
    rw [closedEvent_tag, releaseTag_of_ne_held s _ (by simp [ha]), ha]
  · rw [closedEvent_tag] at ht ⊢
    simp only [releaseTag_keeps]
    refine h.waiting t ?_
    rcases releaseTag_state s (s.tag t) with e | ⟨e, -⟩
    · rwa [e] at ht
    · exact .inl e
  · rw [hq]
    refine (h.arrivals.sublist hsub).imp fun {a b} hab => ?_
    simpa [closedEvent_tag] using hab
  · rw [closedEvent_tag]
    simp only [releaseTag_keeps, closedEvent_keeps]
    rw [hq] at hn
    rcases closeQueue_arrival s₀ s with ⟨e, -, -⟩ | ⟨-, e⟩
    · rw [show (closeQueue s₀ s).req.queue = liveQueue s from closeQueue_queue s₀ s] at e
      rw [e] at hn
      cases hn
    · rw [e]
      exact h.below n (hmem n hn)
  · rw [hq] at he
    simp only [closedEvent_keeps]
    rcases closeQueue_arrival s₀ s with ⟨-, -, e⟩ | ⟨hne, e⟩
    · exact e
    · rw [e]
      exact h0 (hne ((closeQueue_queue s₀ s).trans he)) he
  · simp only [closedEvent_keeps]
    rcases closeQueue_arrival s₀ s with ⟨-, -, e⟩ | ⟨-, e⟩ <;> rw [e]
    · exact Nat.zero_le _
    · exact h.limit
  · rw [closedEvent_tag] at hn ⊢
    obtain ⟨hne, hl⟩ := releaseTag_held s (s.tag n) hn
    refine ⟨hne, fun u hu => ?_⟩
    rw [closedEvent_tag, releaseTag_live]
    exact (hl u hu).2
  · refine ho.step (fun u => ?_) (.inl (by simp)) (.inl (by simp)) (.inl (by simp))
    rw [closedEvent_tag]
    refine fun b hb => ⟨by simpa using hb, by simp, fun hbo => ?_⟩
    obtain ⟨-, ha, -⟩ := (ho.1 u b (by simpa using hb)).2 hbo
    rw [releaseTag_of_ne_held s _ (by simp [ha])]
    exact ⟨rfl, rfl, rfl⟩

end Sys2Proof.Machine
end

section
/-! PROOFS. The arbiter's choice and the close of an event keep the invariant of the dispatch queue. -/
namespace Sys2Proof.Machine

/-! ## What the arbiter grants is a tag's, the patrol's or the journal's -/

/-- A background grant begins an operation of the patrol (R140, R143, R144, R146). -/
theorem BackgroundGrant.requester {s : State} {g : Grant} (h : BackgroundGrant s g) :
    ∃ o, (applyGrant g s).array.op = some o ∧ o.requester = .patrol := by
  cases h with
  | retry r hr ho =>
    simp only [applyGrant, grantPatrolRetry, hr]
    exact ⟨_, rfl, rfl⟩
  | reallocate b p ps hr hb ho hf =>
    simp only [applyGrant, grantRefreshReallocate, hb, hf]
    exact ⟨_, rfl, rfl⟩
  | program => exact ⟨_, rfl, rfl⟩
  | refreshRead l rest hr hb hv hl =>
    simp only [applyGrant, grantRefreshRead, hl]
    exact ⟨_, rfl, rfl⟩
  | patrolRead => exact ⟨_, rfl, rfl⟩

/-- The operation that a choice begins is no orphan's, and the patrol's only beside an empty queue (R68, R72). -/
theorem Choice.requester {s : State} {g : Grant} (h : Choice s g) :
    ∃ o, (applyGrant g s).array.op = some o ∧ o.requester ≠ .none ∧ (o.requester = .patrol → s.req.queue = []) := by
  cases h with
  | ringRead p hp hm => exact ⟨_, rfl, by simp [ringOp], by simp [ringOp]⟩
  | commitFirst => exact ⟨_, rfl, by simp [ringOp], by simp [ringOp]⟩
  | commitNext c => exact ⟨_, rfl, by simp [ringOp], by simp [ringOp]⟩
  | tag n g pre post hj hq hpre hr hg =>
    obtain ⟨o, ho, hreq⟩ := op_of_opTag (hg.effect hr).1
    exact ⟨o, ho, by simp [hreq], by simp [hreq]⟩
  | background g hj hq he hm hg =>
    obtain ⟨o, ho, hreq⟩ := hg.requester
    exact ⟨o, ho, by simp [hreq], fun _ => hq⟩

/-! ## The arbiter keeps the invariant -/

/-- A tag that is granted an operation is ACTIVE from then on (R5). -/
theorem TagEffect.active {s : State} {n : TagNo} {y : Tag} (h : TagEffect s n y) (hr : Runnable (s.tag n))
    (hw : (s.tag n).state = .queued → (s.tag n).cur = none ∧ (s.tag n).prog = none) : y.state = .active := by
  have hact : ∀ {p : Prop}, ((s.tag n).state = .queued → p) → ¬ p → (s.tag n).state = .active := fun hq hp =>
    hr.1.resolve_left fun e => hp (hq e)
  cases h with
  | reading => exact activate_state _ hr
  | retrying c hk hc ho => exact hact (fun e => (hw e).1) (by rw [hc]; exact nofun)
  | programming => exact activate_state _ hr
  | onSpare b p ps hk hm hb => exact hact (fun e => (hw e).2) (by rw [hb]; exact nofun)

/-- The block in program that a grant leaves owes nothing, and is a WRITE or ZERO tag's. -/
theorem TagEffect.prog {s : State} {n : TagNo} {y : Tag} (h : TagEffect s n y)
    (hk : ∀ b, (s.tag n).prog = some b → (s.tag n).kind.writes = true) {b : BlockInProgram} (hb : y.prog = some b) :
    y.kind.writes = true ∧ b.owed = false := by
  cases h with
  | reading hw hc =>
    have := hk b (by simpa [Tag.reading] using hb)
    rw [hw] at this
    cases this
  | retrying c hw hc ho =>
    have := hk b hb
    rw [hw] at this
    cases this
  | programming l src p hw hm hn =>
    cases hb
    exact ⟨by simpa [Tag.programming] using hw, rfl⟩
  | onSpare b' p ps hw hm hb' ho hf =>
    cases hb
    exact ⟨hw, rfl⟩

/-- A tag record after the arbiter's choice: as before, or newly in operation and ACTIVE. -/
theorem arbitrate_tag_cases {s : State} (h : QueueOk s) (u : TagNo) :
    (arbitrate s).tag u = s.tag u ∨
      (opTag (arbitrate s) = some u ∧ s.array.op = none ∧ ((arbitrate s).tag u).state = .active ∧
        TagEffect s u ((arbitrate s).tag u)) := by
  rcases arbitrate_tag s u with e | ⟨hr, hq, hi, ho, he⟩
  · exact .inl e
  · exact .inr ⟨ho, hi, he.active hr fun e => h.2.2.2.2 u (.inr e), he⟩

theorem arbitrate_live {s : State} (u : TagNo) : ((arbitrate s).tag u).state.live = (s.tag u).state.live := by
  rcases arbitrate_tag_state s u with e | ⟨e, e', -⟩
  · rw [e]
  · rw [e, e']
    rfl

/-- The tag whose operation the arbiter leaves in flight is the one it chose, or the one in flight before. -/
theorem arbitrate_opTag {s : State} (h : QueueOk s) {u : TagNo} (hu : opTag (arbitrate s) = some u) :
    ((arbitrate s).tag u).state = .active := by
  rcases arbitrate_cases s with e | ⟨g, hi, hg, e⟩
  · rw [e] at hu ⊢
    exact h.2.2.2.1 u hu
  · rcases (choose_cases hg).records with ⟨n, hr, -, hg'⟩ | ⟨hn, -, -⟩
    · obtain ⟨ho, -, he, -⟩ := hg'.effect hr
      rw [e] at hu ⊢
      have hnu : n = u := Option.some.inj (ho.symm.trans hu)
      subst hnu
      exact he.active hr fun e => h.2.2.2.2 n (.inr e)
    · rw [e, hn] at hu
      cases hu

theorem arbitrate_queueOk {s : State} (h : QueueOk s) : QueueOk (arbitrate s) := by
  obtain ⟨hnd, hmem, hurg, hop, hw⟩ := h
  refine ⟨by simpa using hnd, fun u => by rw [arbitrate_live]; simpa using hmem u, by simpa using hurg,
    fun u hu => arbitrate_opTag ⟨hnd, hmem, hurg, hop, hw⟩ hu, fun u hu => ?_⟩
  rcases arbitrate_tag_cases ⟨hnd, hmem, hurg, hop, hw⟩ u with e | ⟨-, -, ha, -⟩
  · rw [e] at hu ⊢
    exact hw u hu
  · rw [ha] at hu
    rcases hu with hu | hu <;> cases hu

theorem arbitrate_heldOk {s : State} (h : HeldOk s) (hq : QueueOk s) : HeldOk (arbitrate s) := by
  intro u hu
  rcases arbitrate_tag_cases hq u with e | ⟨-, -, ha, -⟩
  · rw [e] at hu ⊢
    obtain ⟨hne, hl⟩ := h u hu
    exact ⟨hne, fun v hv => by rw [arbitrate_live]; exact hl v hv⟩
  · rw [ha] at hu
    cases hu

theorem arbitrate_serviceOk {s : State} (h : ServiceOk s) : ServiceOk (arbitrate s) := by
  obtain ⟨hnd, hf, h0⟩ := h
  refine ⟨by simpa using hnd, fun u hu => ?_, by simpa only [arbitrate_keeps] using h0⟩
  have hne := hf u (by simpa using hu)
  rcases arbitrate_tag_state s u with e | ⟨-, e, -⟩ <;> rw [e]
  · exact hne
  · exact nofun

theorem arbitrate_owedOk {s : State} (h : OwedOk s) (hq : QueueOk s) : OwedOk (arbitrate s) := by
  have hkind : ∀ n b, (s.tag n).prog = some b → (s.tag n).kind.writes = true := fun n b hb => (h.1 n b hb).1
  rcases arbitrate_cases s with e | ⟨g, hi, hg, e⟩
  · rwa [e]
  obtain ⟨o, ho, hnone, hpatrol⟩ := (choose_cases hg).requester
  rw [← e] at ho
  refine ⟨fun n b hb => ?_, fun b hb hbo => ?_, fun o' ho' hr n b hb => ?_, fun o' ho' hr => ?_⟩
  · rcases arbitrate_tag s n with e' | ⟨hr, -, -, -, he⟩
    · rw [e'] at hb ⊢
      refine ⟨hkind n b hb, fun hbo => ?_⟩
      obtain ⟨hfl, ha, hab, hwp, -, hm⟩ := (h.1 n b hb).2 hbo
      refine ⟨hfl, ha, hab, hwp, fun hn => ?_, by simpa using hm⟩
      rcases (choose_cases hg).records with ⟨m, hr, -, hg'⟩ | ⟨hnt, -, -⟩
      · obtain ⟨hm', -, he, -⟩ := hg'.effect hr
        rw [e] at hn e'
        cases hm'.symm.trans hn
        rw [e'] at he
        rw [(he.prog (hkind _) hb).2] at hbo
        cases hbo
      · rw [e, hnt] at hn
        cases hn
    · obtain ⟨hk, hbo⟩ := he.prog (hkind n) hb
      exact ⟨hk, fun hbo' => absurd hbo' (by simp [hbo])⟩
  · rcases arbitrate_refreshBlock s with e' | ⟨b', p, ps, -, -, -, e'⟩ | ⟨-, -, b', e', hb'⟩
    · rw [e'] at hb
      obtain ⟨hfl, hm⟩ := h.2.1 b hb hbo
      exact ⟨hfl, by simpa using hm⟩
    · rw [e'] at hb
      cases hb
      cases hbo
    · rw [e'] at hb
      cases hb
      rw [hb'] at hbo
      cases hbo
  · cases ho.symm.trans ho'
    have hnil := hpatrol (hr.resolve_left hnone)
    have hidle : ∀ u, u ∉ s.req.queue := fun u => by simp [hnil]
    rcases arbitrate_tag s n with e' | ⟨-, hin, -⟩
    · rw [e'] at hb
      by_contra hbo
      obtain ⟨-, ha, -⟩ := (h.1 n b hb).2 (by simpa using hbo)
      exact hidle n ((hq.2.1 n).2 (by rw [ha]; rfl))
    · exact absurd hin (hidle n)
  · cases ho.symm.trans ho'
    exact absurd hr hnone

/-- The arbiter's choice keeps the invariant. -/
theorem arbitrate_inv {s : State} (h : QueueInv s) : QueueInv (arbitrate s) := by
  obtain ⟨hq, ⟨harr, hbelow, hzero, hlim⟩, hh, hs, ho⟩ := h
  exact ⟨arbitrate_queueOk hq, ⟨by simpa using harr, by simpa using hbelow, by simpa using hzero, by simpa using hlim⟩,
    arbitrate_heldOk hh hq, arbitrate_serviceOk hs, arbitrate_owedOk ho hq⟩

/-! ## The close of an event keeps it -/

/-- What an event's own effects keep of the invariant. -/
structure MidOk (s : State) : Prop where
  event : EventOk s
  owed : OwedOk s

theorem QueueInv.midOk {s : State} (h : QueueInv s) : MidOk s := ⟨h.eventOk, h.owedOk⟩

/-- Operations that leave the tags, the queue and the service list alone keep it, and may end the operation in flight or the
refresh block. -/
theorem MidOk.congr {s t : State} (h : MidOk s) (hreq : t.req = s.req) (hs : t.svc.list = s.svc.list)
    (hb : t.attn.latched.getLsbD 0 = s.attn.latched.getLsbD 0)
    (hop : t.array.op = s.array.op ∨ t.array.op = none)
    (hr : t.patrol.refreshBlock = s.patrol.refreshBlock ∨ t.patrol.refreshBlock = none)
    (hm : t.jrnl.mode = s.jrnl.mode ∨ t.jrnl.mode ≠ .readOnly) : MidOk t :=
  ⟨h.event.congr hreq hs hb (hop.imp (fun e => by simp only [opTag, e]) opTag_of_idle),
    h.owed.congr (tag_eq_of_req hreq) hop hr hm⟩

theorem MidOk.modTag {s : State} (h : MidOk s) (n : TagNo) (f : Tag → Tag)
    (hf : (s.tag n).StepOk (opTag s = some n) (f (s.tag n))) (ho : (s.tag n).OwedStep (f (s.tag n))) :
    MidOk (s.modTag n f) := ⟨h.event.modTag n f hf, h.owed.modTag n f ho⟩

theorem MidOk.finish {s : State} (h : MidOk s) (n : TagNo) (st : Status) (hop : opTag s ≠ some n) :
    MidOk (finish n st s) := ⟨h.event.finish n st hop, h.owed.finish n st⟩

theorem MidOk.becomeReadOnly {s : State} (h : MidOk s) : MidOk (becomeReadOnly s) :=
  ⟨h.event.becomeReadOnly, h.owed.becomeReadOnly h.event⟩

theorem MidOk.checkSequence {s : State} (h : MidOk s) : MidOk (checkSequence s) :=
  ⟨h.event.checkSequence, h.owed.checkSequence h.event⟩

theorem MidOk.resolveOwed {s : State} (h : MidOk s) (hop : s.array.op = none) : MidOk (resolveOwed s) :=
  ⟨h.event.resolveOwed hop (owedWeak_of_owedOk h.owed), resolveOwed_owedOk h.event hop (owedWeak_of_owedOk h.owed)⟩

/-- A tag that stands in the service list is not FREE. -/
theorem MidOk.serviceAppend {s : State} (h : MidOk s) (n : TagNo) (hn : (s.tag n).state ≠ .free) :
    MidOk (serviceAppend n s) := by
  obtain ⟨hnd, hf, h0⟩ := h.event.service
  refine ⟨⟨by simpa using h.event.nodup, by simpa using h.event.live_mem, by simpa using h.event.not_free,
    by simpa using h.event.urgentFirst, by simpa using h.event.opActive, by simpa using h.event.waiting,
    by simpa using h.event.arrivals, by simpa using h.event.below, by simpa using h.event.limit,
    serviceAppend_nodup n s hnd, fun u hu => ?_, by simpa only [serviceAppend_keeps] using h0⟩,
    h.owed.congr (by simp) (.inl (by simp)) (.inl (by simp)) (.inl (by simp))⟩
  rw [(serviceAppend_records n s).1]
  rcases (mem_serviceAppend n u s).1 hu with rfl | hu
  · exact hn
  · exact hf u hu

/-- An event keeps the invariant if its own effects keep its part for the middle of an event, and the arrival counter. -/
theorem settle_inv {s₀ s : State} (h : QueueInv s₀) (hs : MidOk s)
    (ha : s.req.arrival = s₀.req.arrival) : QueueInv (settle s₀ s) := by
  rw [settle_eq]
  refine arbitrate_inv (closedEvent_inv s₀ s hs.event hs.owed fun hn _ => ?_)
  rw [ha]
  exact h.arrival_zero hn

/-- Operations that leave tags, queue, service list, operation and owed blocks alone keep the invariant. -/
theorem QueueInv.congr {s t : State} (h : QueueInv s) (htag : ∀ u, t.tag u = s.tag u)
    (hq : t.req.queue = s.req.queue) (ha : t.req.arrival = s.req.arrival) (hs : t.svc.list = s.svc.list)
    (hb : t.attn.latched.getLsbD 0 = s.attn.latched.getLsbD 0) (hop : t.array.op = s.array.op)
    (hr : t.patrol.refreshBlock = s.patrol.refreshBlock)
    (hm : t.jrnl.mode = s.jrnl.mode ∨ t.jrnl.mode ≠ .readOnly) : QueueInv t := by
  have hopt : opTag t = opTag s := by simp only [opTag, hop]
  obtain ⟨hqueue, harrival, hheld, hsvc, howed⟩ := h
  refine ⟨?_, ?_, ?_, ?_, howed.congr htag (.inl hop) (.inl hr) hm⟩
  · simpa only [QueueOk, htag, hq, hopt] using hqueue
  · simpa only [ArrivalOk, htag, hq, ha] using harrival
  · simpa only [HeldOk, htag] using hheld
  · simpa only [ServiceOk, htag, hs, hb] using hsvc

end Sys2Proof.Machine
end

section
/-! PROOFS. SUBMISSION: the check of R11, the renumbering of R13, the acceptance of R12 and the new tag's place in the
queue (R14). -/
namespace Sys2Proof.Machine

/-! ## The check -/

theorem field_kind (v : Word) : field v 4 3 = v.toNat / 16 % 8 := by
  simp [field, Nat.shiftRight_eq_div_pow]

theorem kindField_of_code {v : Word} {k : Kind} (h : v.toNat / 16 % 8 = k.code) : kindField v = some k := by
  unfold kindField
  rw [field_kind, h]
  cases k <;> rfl

theorem code_of_kindField {v : Word} {k : Kind} (h : kindField v = some k) : v.toNat / 16 % 8 = k.code := by
  unfold kindField at h
  rw [field_kind] at h
  split at h <;> cases h <;> assumption

theorem kindField_none {v : Word} (h : ¬ (1 ≤ v.toNat / 16 % 8 ∧ v.toNat / 16 % 8 ≤ 4)) : kindField v = none := by
  cases hk : kindField v with
  | none => rfl
  | some k =>
    refine absurd ?_ h
    rw [code_of_kindField hk]
    cases k <;> decide

theorem kindField_some {v : Word} (h : 1 ≤ v.toNat / 16 % 8 ∧ v.toNat / 16 % 8 ≤ 4) : ∃ k, kindField v = some k := by
  rw [← field_kind] at h
  unfold kindField
  generalize field v 4 3 = c at h
  obtain ⟨h₁, h₄⟩ := h
  interval_cases c <;> exact ⟨_, rfl⟩

/-- An accepted submission names a FREE tag. -/
theorem free_of_checkSubmission {v : Word} {s : State} {k : Kind} (h : checkSubmission v s = .ok k) :
    (s.tag (tagField v)).state = .free := by
  unfold checkSubmission at h
  dsimp only at h
  split at h
  · cases h
  · split at h
    · cases h
    · rename_i hf
      simpa using hf

/-! ## Renumbering (R13) -/

/-- How many tags of the queue have an arrival number below `a`. -/
def arrivalRank (s : State) (a : Nat) : Nat := (s.req.queue.filter fun u => decide ((s.tag u).arrival < a)).length

/-- A record with its new arrival number. -/
def Tag.renumbered (s : State) (x : Tag) : Tag := { x with arrival := arrivalRank s x.arrival }

theorem renumber_tag (s : State) (u : TagNo) :
    (renumber s).tag u = if u ∈ s.req.queue then (s.tag u).renumbered s else s.tag u := by
  unfold renumber State.tag
  simp only [Fin.getElem_fin, Vector.getElem_ofFn, Fin.eta, List.contains_iff_mem]
  rfl

@[simp] theorem renumber_queue (s : State) : (renumber s).req.queue = s.req.queue := rfl

@[simp] theorem renumber_arrival (s : State) : (renumber s).req.arrival = s.req.queue.length := rfl

theorem arrivalRank_mono (s : State) {a b : Nat} (h : a ≤ b) : arrivalRank s a ≤ arrivalRank s b :=
  (List.monotone_filter_right s.req.queue fun u hu => by
    simp only [decide_eq_true_eq] at hu ⊢
    omega).length_le

/-- The new numbers rise as the old ones did. -/
theorem arrivalRank_lt_iff (s : State) {u : TagNo} (hu : u ∈ s.req.queue) (b : Nat) :
    arrivalRank s (s.tag u).arrival < arrivalRank s b ↔ (s.tag u).arrival < b := by
  constructor
  · intro h
    by_contra hb
    have := arrivalRank_mono s (Nat.le_of_not_lt hb)
    omega
  · intro h
    have hsub : (s.req.queue.filter fun v => decide ((s.tag v).arrival < (s.tag u).arrival)).Sublist
        (s.req.queue.filter fun v => decide ((s.tag v).arrival < b)) :=
      List.monotone_filter_right s.req.queue fun v hv => by
        simp only [decide_eq_true_eq] at hv ⊢
        omega
    refine lt_of_le_of_ne hsub.length_le fun e => ?_
    have hmem : u ∈ s.req.queue.filter fun v => decide ((s.tag v).arrival < b) :=
      List.mem_filter.2 ⟨hu, by simpa using h⟩
    rw [← hsub.eq_of_length e, List.mem_filter] at hmem
    simp at hmem

theorem arrivalRank_lt_length (s : State) {u : TagNo} (hu : u ∈ s.req.queue) :
    arrivalRank s (s.tag u).arrival < s.req.queue.length :=
  List.length_filter_lt_length_iff_exists.2 ⟨u, hu, by simp⟩

theorem queue_length_le {l : List TagNo} (h : l.Nodup) : l.length ≤ 16 := by
  simpa using h.length_le_card

theorem renumber_eventOk {s : State} (h : EventOk s) : EventOk (renumber s) := by
  have hin : ∀ {u}, u ∈ s.req.queue → (renumber s).tag u = (s.tag u).renumbered s := fun {u} hu => by
    rw [renumber_tag, if_pos hu]
  have hfields : ∀ u, ((renumber s).tag u).state = (s.tag u).state ∧ ((renumber s).tag u).urgent = (s.tag u).urgent ∧
      ((renumber s).tag u).cur = (s.tag u).cur ∧ ((renumber s).tag u).prog = (s.tag u).prog := fun u => by
    rw [renumber_tag]
    split <;> exact ⟨rfl, rfl, rfl, rfl⟩
  refine ⟨?_, fun u hu => ?_, fun u hu => ?_, ?_, fun u hu => ?_, fun u hu => ?_, ?_, fun u hu => ?_, ?_, ?_⟩
  · rw [renumber_queue]
    exact h.nodup
  · rw [(hfields u).1] at hu
    rw [renumber_queue]
    exact h.live_mem u hu
  · rw [(hfields u).1]
    rw [renumber_queue] at hu
    exact h.not_free u hu
  · rw [renumber_queue]
    refine h.urgentFirst.imp fun {a b} hab => ?_
    rwa [(hfields a).2.1, (hfields b).2.1]
  · rw [(hfields u).1]
    exact h.opActive u hu
  · obtain ⟨es, -, ec, ep⟩ := hfields u
    rw [ec, ep]
    exact h.waiting u (es ▸ hu)
  · rw [renumber_queue]
    refine h.arrivals.imp_of_mem fun {a b} ha hb hab => ?_
    rw [hin ha, hin hb]
    exact fun e => (arrivalRank_lt_iff s ha _).2 (hab e)
  · rw [renumber_queue] at hu
    rw [hin hu, renumber_arrival]
    exact arrivalRank_lt_length s hu
  · have := queue_length_le h.nodup
    rw [renumber_arrival]
    omega
  · obtain ⟨hnd, hf, h0⟩ := h.service
    refine ⟨hnd, fun u hu => ?_, h0⟩
    rw [(hfields u).1]
    exact hf u hu

theorem renumber_owedOk {s : State} (h : OwedOk s) : OwedOk (renumber s) := by
  refine h.step (fun u => ?_) (.inl rfl) (.inl rfl) (.inl rfl)
  rw [renumber_tag]
  split <;> exact .of_fields rfl rfl rfl rfl rfl

/-! ## Acceptance (R12) -/

/-- The state in which an acceptance takes the arrival number (R13). -/
def numbered (s : State) : State := if max32 ≤ s.req.arrival ∧ s.req.queue ≠ [] then renumber s else s

/-- The record of the new request, with its blockers (R16). -/
def arriving (v : Word) (k : Kind) (s : State) : Tag :=
  { newTag v k s with
    blockers := blockerSet s (newTag v k s)
    state := if (blockerSet s (newTag v k s)).isEmpty then .queued else .held }

/-- A new tag takes its place in the queue, and an arrival number. -/
def enqueued (n : TagNo) (x : Tag) (s : State) : State :=
  endQuiet { s.setTag n x with
    req := { (s.setTag n x).req with queue := enqueue s n x.urgent, arrival := s.req.arrival + 1 } }

theorem accept_eq (v : Word) (k : Kind) (s : State) :
    accept v k s = enqueued (tagField v) (arriving v k (numbered s)) (numbered s) := by
  unfold accept numbered
  split <;> rfl

theorem enqueued_tag (n u : TagNo) (x : Tag) (s : State) : (enqueued n x s).tag u = if u = n then x else s.tag u :=
  setTag_tag s n u x

@[simp] theorem enqueued_queue (n : TagNo) (x : Tag) (s : State) :
    (enqueued n x s).req.queue = enqueue s n x.urgent := rfl

@[simp] theorem enqueued_arrival (n : TagNo) (x : Tag) (s : State) :
    (enqueued n x s).req.arrival = s.req.arrival + 1 := rfl

@[simp] theorem enqueued_keeps (n : TagNo) (x : Tag) (s : State) :
    (enqueued n x s).rstnLow = s.rstnLow ∧ (enqueued n x s).pool = s.pool ∧ (enqueued n x s).port = s.port ∧
    (enqueued n x s).svc = s.svc ∧ (enqueued n x s).array = s.array ∧ (enqueued n x s).map = s.map ∧
    (enqueued n x s).jrnl = s.jrnl ∧ (enqueued n x s).cond = s.cond ∧ (enqueued n x s).cmd = s.cmd ∧
    (enqueued n x s).cfg = s.cfg ∧ (enqueued n x s).attn = s.attn ∧
    (enqueued n x s).patrol.refreshBlock = s.patrol.refreshBlock ∧
    (enqueued n x s).patrol.mode = s.patrol.mode ∧ (enqueued n x s).patrol.status = s.patrol.status ∧
    (enqueued n x s).patrol.resume = s.patrol.resume :=
  ⟨rfl, rfl, rfl, rfl, rfl, rfl, rfl, rfl, rfl, rfl, rfl, rfl, rfl, rfl, rfl⟩

@[simp] theorem arriving_keeps (v : Word) (k : Kind) (s : State) :
    (arriving v k s).urgent = urgentField v ∧ (arriving v k s).arrival = s.req.arrival ∧
    (arriving v k s).cur = none ∧ (arriving v k s).prog = none ∧ (arriving v k s).kind = k :=
  ⟨rfl, rfl, rfl, rfl, rfl⟩

theorem arriving_state (v : Word) (k : Kind) (s : State) :
    (arriving v k s).state = .queued ∨ (arriving v k s).state = .held := by
  unfold arriving
  dsimp only
  split
  · exact .inl rfl
  · exact .inr rfl

theorem arriving_live (v : Word) (k : Kind) (s : State) : (arriving v k s).state.live = true := by
  rcases arriving_state v k s with e | e <;> rw [e] <;> rfl

/-! ## The place in the queue (R14) -/

/-- The new tag stands behind the urgent tags if it is urgent, and else behind every tag. -/
theorem enqueue_split (s : State) (n : TagNo) (urgent : Bool)
    (h : s.req.queue.Pairwise fun a b => (s.tag b).urgent = true → (s.tag a).urgent = true) :
    ∃ l₁ l₂, s.req.queue = l₁ ++ l₂ ∧ enqueue s n urgent = l₁ ++ n :: l₂ ∧
      (urgent = true → ∀ u ∈ l₁, (s.tag u).urgent = true) ∧ (∀ u ∈ l₂, urgent = true ∧ (s.tag u).urgent = false) := by
  cases urgent with
  | false => exact ⟨s.req.queue, [], (List.append_nil _).symm, rfl, nofun, nofun⟩
  | true =>
    refine ⟨_, _, List.takeWhile_append_dropWhile.symm, rfl, fun _ u hu => by simpa using List.mem_takeWhile_imp hu,
      fun u hu => ⟨rfl, ?_⟩⟩
    have hp := h.sublist (List.dropWhile_sublist fun u => (s.tag u).urgent)
    cases hd : s.req.queue.dropWhile fun u => (s.tag u).urgent with
    | nil =>
      rw [hd] at hu
      cases hu
    | cons a l =>
      have ha : (s.tag a).urgent = false := by
        have := List.head_dropWhile_not (fun u => (s.tag u).urgent) (l := s.req.queue) (by simp [hd])
        simpa [hd] using this
      rw [hd] at hu hp
      rcases List.mem_cons.1 hu with e | e
      · rw [e, ha]
      · by_contra hne
        have := (List.pairwise_cons.1 hp).1 u e (by simpa using hne)
        rw [ha] at this
        cases this

theorem mem_enqueue (s : State) (n u : TagNo) (urgent : Bool) : u ∈ enqueue s n urgent ↔ u = n ∨ u ∈ s.req.queue := by
  cases urgent with
  | false => simp [enqueue, or_comm]
  | true =>
    have : u ∈ s.req.queue ↔ u ∈ s.req.queue.takeWhile (fun u => (s.tag u).urgent) ∨
        u ∈ s.req.queue.dropWhile (fun u => (s.tag u).urgent) := by
      rw [← List.mem_append, List.takeWhile_append_dropWhile]
    simp only [enqueue, if_true, List.mem_append, List.mem_cons, this]
    tauto

/-- A relation between the places of the queue holds of the queue with a new tag, if it holds between the new tag and the
ones before and behind it. -/
theorem pairwise_insert {α : Type} {R : α → α → Prop} {n : α} {l₁ l₂ : List α} (h : (l₁ ++ l₂).Pairwise R)
    (h₁ : ∀ u ∈ l₁, R u n) (h₂ : ∀ u ∈ l₂, R n u) : (l₁ ++ n :: l₂).Pairwise R := by
  obtain ⟨hp₁, hp₂, h₁₂⟩ := List.pairwise_append.1 h
  refine List.pairwise_append.2 ⟨hp₁, List.pairwise_cons.2 ⟨h₂, hp₂⟩, fun a ha b hb => ?_⟩
  rcases List.mem_cons.1 hb with e | e
  · exact e ▸ h₁ a ha
  · exact h₁₂ a ha b e

/-- A FREE tag that takes its place in the queue keeps the invariant's part for the middle of an event. -/
theorem enqueued_eventOk {s : State} (h : EventOk s) {n : TagNo} {x : Tag} (hfree : (s.tag n).state = .free)
    (hstate : x.state = .queued ∨ x.state = .held) (harr : x.arrival = s.req.arrival) (hcur : x.cur = none)
    (hprog : x.prog = none) (hlim : s.req.arrival < max32) : EventOk (enqueued n x s) := by
  have hn : n ∉ s.req.queue := fun hn => h.not_free n hn hfree
  have hself : (enqueued n x s).tag n = x := by rw [enqueued_tag, if_pos rfl]
  have hother : ∀ {u}, u ∈ s.req.queue → (enqueued n x s).tag u = s.tag u := fun {u} hu => by
    rw [enqueued_tag, if_neg]
    rintro rfl
    exact hn hu
  have hlive : x.state.live = true := by rcases hstate with e | e <;> rw [e] <;> rfl
  obtain ⟨l₁, l₂, hq, he, h₁, h₂⟩ := enqueue_split s n x.urgent h.urgentFirst
  have hin₁ : ∀ u ∈ l₁, u ∈ s.req.queue := fun u hu => hq ▸ List.mem_append_left _ hu
  have hin₂ : ∀ u ∈ l₂, u ∈ s.req.queue := fun u hu => hq ▸ List.mem_append_right _ hu
  have hqueue : (enqueued n x s).req.queue = l₁ ++ n :: l₂ := he
  refine ⟨?_, fun u hu => ?_, fun u hu => ?_, ?_, fun u hu => ?_, fun u hu => ?_, ?_, fun u hu => ?_, ?_, ?_⟩
  · rw [hqueue]
    refine pairwise_insert (hq ▸ h.nodup) (fun u hu e => hn (e ▸ hin₁ u hu)) (fun u hu e => hn (e ▸ hin₂ u hu))
  · rw [enqueued_queue, mem_enqueue]
    by_cases e : u = n
    · exact .inl e
    · rw [enqueued_tag, if_neg e] at hu
      exact .inr (h.live_mem u hu)
  · rw [enqueued_queue, mem_enqueue] at hu
    rcases hu with rfl | hu
    · rw [hself]
      exact ne_free_of_live hlive
    · rw [hother hu]
      exact h.not_free u hu
  · rw [hqueue]
    refine pairwise_insert ?_ (fun u hu => ?_) fun u hu => ?_
    · rw [← hq]
      exact h.urgentFirst.imp_of_mem fun {a b} ha hb hab => by rwa [hother ha, hother hb]
    · rw [hself, hother (hin₁ u hu)]
      exact fun hx => h₁ hx u hu
    · rw [hother (hin₂ u hu), (h₂ u hu).2]
      exact nofun
  · have ha := h.opActive u hu
    rw [enqueued_tag, if_neg]
    · exact ha
    · rintro rfl
      rw [hfree] at ha
      cases ha
  · by_cases e : u = n
    · rw [e, hself]
      exact ⟨hcur, hprog⟩
    · rw [enqueued_tag, if_neg e] at hu ⊢
      exact h.waiting u hu
  · rw [hqueue]
    refine pairwise_insert ?_ (fun u hu => ?_) fun u hu => ?_
    · rw [← hq]
      exact h.arrivals.imp_of_mem fun {a b} ha hb hab => by rwa [hother ha, hother hb]
    · rw [hself, hother (hin₁ u hu), harr]
      exact fun _ => h.below u (hin₁ u hu)
    · rw [hself, hother (hin₂ u hu), (h₂ u hu).1, (h₂ u hu).2]
      exact nofun
  · rw [enqueued_queue, mem_enqueue] at hu
    rw [enqueued_arrival]
    rcases hu with rfl | hu
    · rw [hself, harr]
      omega
    · rw [hother hu]
      have := h.below u hu
      omega
  · rw [enqueued_arrival]
    unfold max32 at hlim
    omega
  · obtain ⟨hnd, hf, h0⟩ := h.service
    refine ⟨hnd, fun u hu => ?_, h0⟩
    rw [enqueued_tag]
    split
    · exact ne_free_of_live hlive
    · exact hf u hu

theorem enqueued_owedOk {s : State} (h : OwedOk s) (n : TagNo) (x : Tag) (hprog : x.prog = none) :
    OwedOk (enqueued n x s) := by
  refine h.step (fun u => ?_) (.inl rfl) (.inl rfl) (.inl rfl)
  rw [enqueued_tag]
  split
  · exact .of_none hprog
  · exact .of_eq rfl

end Sys2Proof.Machine
end

section
/-! PROOFS. The commands of the host keep the invariant of the dispatch queue: requests, port, service list, Command Unit
and registers. -/
namespace Sys2Proof.Machine

theorem busAccess_inv {s t : State} {f : State → State} (h : QueueInv s) (hf : QueueInv (f s))
    (ht : busAccess s f = .next t) : QueueInv t := by
  unfold busAccess at ht
  have e := next_inj ht
  split at e
  · rwa [← e]
  · rwa [← e]

/-! ## SUBMISSION -/

theorem numbered_arrival_lt {s : State} (h : QueueInv s) : (numbered s).req.arrival < max32 := by
  unfold numbered
  split
  · have := queue_length_le h.eventOk.nodup
    rw [renumber_arrival]
    unfold max32
    omega
  · rename_i hn
    by_cases hq : s.req.queue = []
    · rw [h.arrival_zero hq]
      decide
    · exact Nat.lt_of_not_le fun hle => hn ⟨hle, hq⟩

theorem numbered_midOk {s : State} (h : QueueInv s) : MidOk (numbered s) := by
  unfold numbered
  split
  · exact ⟨renumber_eventOk h.eventOk, renumber_owedOk h.owedOk⟩
  · exact h.midOk

/-- Renumbering changes the arrival numbers alone. -/
theorem numbered_tag (s : State) (u : TagNo) : ∃ a, (numbered s).tag u = { s.tag u with arrival := a } := by
  unfold numbered
  split
  · rw [renumber_tag]
    split
    · exact ⟨_, rfl⟩
    · exact ⟨_, rfl⟩
  · exact ⟨_, rfl⟩

theorem accept_midOk {s : State} (h : QueueInv s) (v : Word) (k : Kind) (hf : (s.tag (tagField v)).state = .free) :
    MidOk (accept v k s) := by
  rw [accept_eq]
  obtain ⟨a, ha⟩ := numbered_tag s (tagField v)
  have hm := numbered_midOk h
  exact ⟨enqueued_eventOk hm.event (by rw [ha]; exact hf) (arriving_state ..) (arriving_keeps ..).2.1
    (arriving_keeps ..).2.2.1 (arriving_keeps ..).2.2.2.1 (numbered_arrival_lt h),
    enqueued_owedOk hm.owed _ _ (arriving_keeps ..).2.2.2.1⟩

/-- The registers of a submission are no part of the invariant. -/
theorem MidOk.setQResult {s : State} (h : MidOk s) (v : Word) (r : QResult) : MidOk (setQResult v r s) :=
  ⟨h.event.step (fun _ => .of_eq rfl) rfl rfl rfl rfl (.inl rfl), h.owed.congr (fun _ => rfl) (.inl rfl) (.inl rfl) (.inl rfl)⟩

theorem accept_tag_self (v : Word) (k : Kind) (s : State) :
    (accept v k s).tag (tagField v) = arriving v k (numbered s) := by
  rw [accept_eq, enqueued_tag, if_pos rfl]

theorem mem_accept_queue (v : Word) (k : Kind) (s : State) : tagField v ∈ (accept v k s).req.queue := by
  rw [accept_eq, enqueued_queue, mem_enqueue]
  exact .inl rfl

theorem submit_inv {s : State} (h : QueueInv s) (v : Word) : QueueInv (submit v s) := by
  unfold submit
  split
  · exact h.congr (fun _ => rfl) rfl rfl rfl rfl rfl rfl (.inl rfl)
  · rename_i k hk
    have hm := (accept_midOk h v k (free_of_checkSubmission hk)).setQResult v .accepted
    rw [settle_eq]
    refine arbitrate_inv (closedEvent_inv s _ hm.event hm.owed fun _ hl => ?_)
    have := (liveQueue_eq_nil _).1 hl (tagField v) (mem_accept_queue v k s)
    rw [show (setQResult v .accepted (accept v k s)).tag (tagField v) = (accept v k s).tag (tagField v) from rfl,
      accept_tag_self, arriving_live] at this
    cases this

/-! ## ABORT_REQUEST -/

theorem aborted_stepOk (inOp : Bool) (level : Nat) (x : Tag) : x.StepOk (inOp = true) (x.aborted inOp level) := by
  have hfin : ∀ y : Tag, y.urgent = x.urgent → y.arrival = x.arrival → (inOp = true → x.state ≠ .active) →
      x.StepOk (inOp = true) (y.finished .aborted) := fun y hu ha hi =>
    .of_state hu ha (fun h => by cases h) (by simp [Tag.finished]) (by simp [Tag.finished]) (by simp [Tag.finished])
      fun hi' ha' => absurd ha' (hi hi')
  unfold Tag.aborted
  cases hs : x.state with
  | free | done => exact .refl ..
  | held | queued => exact hfin x rfl rfl fun _ => by simp [hs]
  | active | ending =>
    dsimp only
    cases inOp with
    | true =>
      simp only [if_true]
      split
      · exact .refl ..
      · exact .of_fields rfl rfl rfl rfl rfl
    | false =>
      rw [if_neg Bool.false_ne_true]
      split
      · exact hfin _ (by rfl) (by rfl) nofun
      · exact hfin _ (by rfl) (by rfl) nofun
      · exact hfin _ (by rfl) (by rfl) nofun

theorem aborted_owedStep (inOp : Bool) (level : Nat) (x : Tag)
    (h : inOp = true → ∀ b, x.prog = some b → b.owed = false) : x.OwedStep (x.aborted inOp level) := by
  unfold Tag.aborted
  cases x.state with
  | free | done => exact .of_eq rfl
  | held | queued => exact .of_none rfl
  | active | ending =>
    dsimp only
    cases inOp with
    | true =>
      simp only [if_true]
      split
      · exact .of_eq rfl
      · exact fun b hb => ⟨hb, rfl, fun ho => absurd ho (by simp [h rfl b hb])⟩
    | false =>
      simp only [Bool.false_eq_true, if_false]
      split <;> exact .of_none rfl

/-- Aborts of any tags keep the invariant's part for the middle of an event. -/
theorem MidOk.abortTags {s : State} (h : MidOk s) (l : List TagNo) : MidOk (l.foldl abortTag s) := by
  have harray : (l.foldl abortTag s).array = s.array := by simp
  have hop : opTag (l.foldl abortTag s) = opTag s := opTag_eq_of_array harray
  refine ⟨h.event.step (fun u => ?_) (by simp) (by simp) (by simp) (by simp) (.inl hop),
    h.owed.step (fun u => ?_) (.inl (by simp)) (.inl (by simp)) (.inl (by simp))⟩
  · rw [foldl_abortTag_tag, hop]
    split
    · have := aborted_stepOk (opTag s == some u) s.cfg.refreshLevel (s.tag u)
      simpa using this
    · exact .refl ..
  · rw [foldl_abortTag_tag]
    split
    · refine aborted_owedStep _ _ _ fun hin b hb => ?_
      by_contra ho
      obtain ⟨-, -, -, -, hne, -⟩ := (h.owed.1 u b hb).2 (by simpa using ho)
      exact hne (by simpa using hin)
    · exact .of_eq rfl

theorem MidOk.setAbortIgnored {s : State} (h : MidOk s) (b : Bool) : MidOk (setAbortIgnored b s) :=
  ⟨h.event.step (fun _ => .of_eq rfl) rfl rfl rfl rfl (.inl rfl), h.owed.congr (fun _ => rfl) (.inl rfl) (.inl rfl) (.inl rfl)⟩

theorem MidOk.abortOne {s : State} (h : MidOk s) (n : TagNo) : MidOk (abortOne n s) := by
  unfold Machine.abortOne
  dsimp only
  split
  · exact h.setAbortIgnored true
  · exact h
  all_goals
    split
    · exact h
    · exact (h.abortTags [n]).setAbortIgnored false

theorem MidOk.abortEvery {s : State} (h : MidOk s) : MidOk (abortEvery s) := by
  unfold Machine.abortEvery
  split
  · exact h.setAbortIgnored true
  · dsimp only
    split
    · exact (h.abortTags _).setAbortIgnored false
    · exact h.abortTags _

/-- What an abort changes of the request registers. -/
theorem abortOne_arrival (n : TagNo) (s : State) : (abortOne n s).req.arrival = s.req.arrival := by
  unfold abortOne setAbortIgnored
  dsimp only
  split
  · rfl
  · rfl
  all_goals split <;> simp

theorem abortEvery_arrival (s : State) : (abortEvery s).req.arrival = s.req.arrival := by
  unfold abortEvery setAbortIgnored
  split
  · rfl
  · dsimp only
    split <;> simp

theorem requestAbort_inv {s : State} (h : QueueInv s) (v : Word) : QueueInv (requestAbort v s) := by
  have h₁ : MidOk { s with req := { s.req with qabort := v } } :=
    ⟨h.midOk.event.step (fun _ => .of_eq rfl) rfl rfl rfl rfl (.inl rfl),
      h.midOk.owed.congr (fun _ => rfl) (.inl rfl) (.inl rfl) (.inl rfl)⟩
  unfold requestAbort
  dsimp only
  split
  · exact settle_inv h h₁.abortEvery (abortEvery_arrival _)
  · split
    · exact settle_inv h (h₁.abortOne _) (abortOne_arrival ..)
    · exact settle_inv h (h₁.setAbortIgnored true) rfl

/-! ## The Data Port -/

@[simp] theorem portMiss_records (s : State) :
    (∀ u, (portMiss s).tag u = s.tag u) ∧ (∀ k, (portMiss s).slot k = s.slot k) ∧ opTag (portMiss s) = opTag s :=
  ⟨fun _ => rfl, fun _ => rfl, rfl⟩

theorem MidOk.deliver {s : State} (h : MidOk s) (n : TagNo) (k : SlotNo) : MidOk (deliver n k s) := by
  have h₁ : MidOk ((freeSlot k s).modTag n fun x => { x with moved := x.moved + 1 }) :=
    (h.congr (by simp) (by simp) (by simp) (.inl (by simp)) (.inl (by simp)) (.inl (by simp))).modTag n _
      (.of_fields rfl rfl rfl rfl rfl) (.of_fields rfl rfl rfl rfl rfl)
  unfold Machine.deliver
  dsimp only
  split
  · rename_i he
    refine h₁.finish n _ fun hop => ?_
    rw [h₁.event.opActive n hop] at he
    simp at he
  · exact h₁

theorem deliver_arrival (n : TagNo) (k : SlotNo) (s : State) : (deliver n k s).req.arrival = s.req.arrival := by
  unfold deliver
  dsimp only
  split <;> simp

theorem readPort_inv {s : State} (h : QueueInv s) : QueueInv (readPort s) := by
  unfold readPort
  split
  · exact h.congr (fun _ => by simp) (by simp) (by simp) (by simp)
      (by simp only [drive_keeps]; exact portMiss_service s) (by simp) (by simp) (.inl (by simp))
  · dsimp only
    split
    · exact h.congr (fun _ => by simp) (by simp) (by simp) (by simp) (by simp) (by simp) (by simp) (.inl (by simp))
    · have hd : ∀ w, MidOk (drive w s) := fun w => h.midOk.congr rfl rfl rfl (.inl rfl) (.inl rfl) (.inl rfl)
      exact settle_inv h ((hd _).deliver _ _) (deliver_arrival ..)

theorem MidOk.receive {s : State} (h : MidOk s) (n : TagNo) (k : SlotNo) (x : Slot) : MidOk (receive n k x s) := by
  unfold Machine.receive
  refine MidOk.modTag ?_ n _ (.of_fields rfl rfl rfl rfl rfl) (.of_fields rfl rfl rfl rfl rfl)
  exact h.congr rfl rfl rfl (.inl rfl) (.inl rfl) (.inl rfl)

theorem writePort_inv {s : State} (h : QueueInv s) (v : Word) : QueueInv (writePort v s) := by
  unfold writePort
  split
  · exact h.congr (fun _ => by simp) (by simp) (by simp) (by simp) (portMiss_service s) (by simp) (by simp)
      (.inl (by simp))
  · dsimp only
    split
    · exact h.congr (fun _ => by simp) (by simp) (by simp) (by simp) (by simp) (by simp) (by simp) (.inl (by simp))
    · exact settle_inv h (h.midOk.receive _ _ _) rfl

/-! ## The service list -/

/-- A pop takes the entries up to the first that is not stale. -/
theorem popEntries_split (s : State) (l : List TagNo) :
    ∃ stale, (∀ u ∈ stale, popKind s u = none) ∧
      ((popEntries s l = (none, []) ∧ l = stale) ∨
        ∃ n k rest, popEntries s l = (some (n, k), rest) ∧ popKind s n = some k ∧ l = stale ++ n :: rest) := by
  induction l with
  | nil => exact ⟨[], nofun, .inl ⟨rfl, rfl⟩⟩
  | cons n l ih =>
    cases hk : popKind s n with
    | some k => exact ⟨[], nofun, .inr ⟨n, k, l, by simp [popEntries, hk], hk, rfl⟩⟩
    | none =>
      obtain ⟨stale, hs, h⟩ := ih
      have e : popEntries s (n :: l) = popEntries s l := by simp [popEntries, hk]
      refine ⟨n :: stale, fun u hu => ?_, ?_⟩
      · rcases List.mem_cons.1 hu with rfl | hu
        · exact hk
        · exact hs u hu
      · rw [e]
        rcases h with ⟨h, rfl⟩ | ⟨m, k, rest, h, hm, rfl⟩
        · exact .inl ⟨h, rfl⟩
        · exact .inr ⟨m, k, rest, h, hm, rfl⟩

theorem popKind_complete {s : State} {n : TagNo} (h : popKind s n = some .complete) : (s.tag n).state = .done := by
  unfold popKind at h
  split at h
  · rename_i hd
    simpa using hd
  · split at h
    · cases h
    · split at h <;> cases h

/-- A service list that has lost entries keeps the invariant. -/
theorem QueueInv.popped {s t : State} (h : QueueInv s) (hl : t.svc.list.Sublist s.svc.list)
    (hreq : t.req = s.req) (ha : t.attn = s.attn) (hop : t.array = s.array) (hp : t.patrol = s.patrol)
    (hj : t.jrnl = s.jrnl) : QueueInv t := by
  have htag := tag_eq_of_req hreq
  have hopt : opTag t = opTag s := opTag_eq_of_array hop
  obtain ⟨hq, harr, hheld, ⟨hnd, hf, h0⟩, howed⟩ := h
  refine ⟨?_, ?_, ?_, ⟨hnd.sublist hl, fun u hu => ?_, ha ▸ h0⟩,
    howed.congr htag (.inl (by rw [hop])) (.inl (by rw [hp])) (.inl (by rw [hj]))⟩
  · simpa only [QueueOk, htag, hopt, hreq] using hq
  · simpa only [ArrivalOk, htag, hreq] using harr
  · simpa only [HeldOk, htag] using hheld
  · rw [htag]
    exact hf u (hl.subset hu)

/-- A DONE tag that the service list no longer names becomes FREE (R54). -/
theorem QueueInv.freed {s : State} (h : QueueInv s) {n : TagNo} (hd : (s.tag n).state = .done)
    (hn : n ∉ s.svc.list) : QueueInv (s.setTag n Tag.free) := by
  obtain ⟨⟨hnd, hmem, hurg, hop, hw⟩, ⟨harr, hbelow, hzero, hlim⟩, hheld, ⟨hsnd, hf, h0⟩, howed⟩ := h
  have hnq : n ∉ s.req.queue := fun hq => by
    rw [hmem, hd] at hq
    cases hq
  have hother : ∀ {u}, u ≠ n → (s.setTag n Tag.free).tag u = s.tag u := fun {u} hu => setTag_tag_other s n u _ hu
  have hin : ∀ {u}, u ∈ s.req.queue → (s.setTag n Tag.free).tag u = s.tag u := fun {u} hu =>
    hother fun e => hnq (e ▸ hu)
  have hlive : ∀ u, ((s.setTag n Tag.free).tag u).state.live = (s.tag u).state.live := fun u => by
    rw [setTag_tag]
    split
    · rename_i e
      rw [e, hd]
      rfl
    · rfl
  refine ⟨⟨hnd, fun u => ?_, ?_, fun u hu => ?_, fun u hu => ?_⟩, ⟨?_, fun u hu => ?_, hzero, hlim⟩, fun u hu => ?_,
    ⟨hsnd, fun u hu => ?_, h0⟩, ?_⟩
  · rw [hlive]
    exact hmem u
  · exact hurg.imp_of_mem fun {a b} ha hb hab => by rwa [hin ha, hin hb]
  · have ha := hop u hu
    rwa [hother]
    rintro rfl
    rw [hd] at ha
    cases ha
  · by_cases e : u = n
    · rw [e, setTag_tag_same] at hu
      rcases hu with hu | hu <;> cases hu
    · rw [hother e] at hu ⊢
      exact hw u hu
  · exact harr.imp_of_mem fun {a b} ha hb hab => by rwa [hin ha, hin hb]
  · rw [hin hu]
    exact hbelow u hu
  · by_cases e : u = n
    · rw [e, setTag_tag_same] at hu
      cases hu
    · rw [hother e] at hu ⊢
      obtain ⟨hne, hl⟩ := hheld u hu
      exact ⟨hne, fun v hv => by rw [hlive]; exact hl v hv⟩
  · rw [hother fun e => hn (e ▸ hu)]
    exact hf u hu
  · exact howed.setTag n _ (.of_none rfl)

theorem QueueInv.collect {s : State} (h : QueueInv s) {n : TagNo} (hd : (s.tag n).state = .done)
    (hn : n ∉ s.svc.list) : QueueInv (collect n s) := by
  unfold Machine.collect
  refine QueueInv.freed ?_ hd hn
  exact h.popped (List.Sublist.refl _) rfl rfl rfl rfl rfl

theorem pop_inv {s : State} (h : QueueInv s) : QueueInv (pop s) := by
  have hpop : ∀ (rest : List TagNo) (w : Word), rest.Sublist s.svc.list →
      QueueInv (drive w { s with svc := { s.svc with list := rest } }) := fun rest w hr =>
    h.popped hr rfl rfl rfl rfl rfl
  obtain ⟨stale, -, ⟨e, hl⟩ | ⟨n, k, rest, e, hk, hl⟩⟩ := popEntries_split s s.svc.list
  · simp only [pop, e]
    exact hpop [] _ (List.nil_sublist _)
  · have hsub : rest.Sublist s.svc.list := by
      rw [hl]
      exact (List.sublist_cons_self n rest).trans (List.sublist_append_right stale _)
    simp only [pop, e]
    cases k with
    | complete =>
      have hn : n ∉ rest := by
        obtain ⟨-, -, -, ⟨hnd, -, -⟩, -⟩ := h
        rw [hl] at hnd
        exact (List.nodup_cons.1 (List.nodup_append.1 hnd).2.1).1
      have hd := popKind_complete hk
      exact (hpop rest _ hsub).collect hd hn
    | dataIn | dataOut => exact hpop rest _ hsub

end Sys2Proof.Machine
end

section
/-! PROOFS. The Command Unit, the registers, the timers and the resets keep the invariant of the dispatch queue. -/
namespace Sys2Proof.Machine

/-- Operations outside requests, service list and array keep the invariant. -/
theorem QueueInv.kept {s t : State} (h : QueueInv s) (hreq : t.req = s.req) (hs : t.svc = s.svc)
    (hb : t.attn.latched.getLsbD 0 = s.attn.latched.getLsbD 0) (ha : t.array = s.array)
    (hr : t.patrol.refreshBlock = s.patrol.refreshBlock)
    (hm : t.jrnl.mode = s.jrnl.mode ∨ t.jrnl.mode ≠ .readOnly) : QueueInv t :=
  h.congr (tag_eq_of_req hreq) (by rw [hreq]) (by rw [hreq]) (by rw [hs]) hb (by rw [ha]) hr hm

theorem QueueInv.completeCommand {s : State} (h : QueueInv s) (code : BitVec 8) (r : CmdResult) :
    QueueInv (completeCommand code r s) :=
  h.kept (by simp) (by simp) (completeCommand_service ..) (by simp) (by simp) (.inl (by simp))

theorem QueueInv.latch {s : State} (h : QueueInv s) (c : Cause) : QueueInv (latch c s) :=
  h.kept rfl rfl (latch_service ..) rfl rfl (.inl rfl)

theorem requestCommand_inv {s : State} (h : QueueInv s) (c : Command) (take : State → State) (ht : QueueInv (take s)) :
    QueueInv (requestCommand c take s) := by
  unfold requestCommand
  split
  · exact h.latch _
  · split
    · exact h.completeCommand _ _
    · split
      · exact h.completeCommand _ _
      · exact ht

/-! ## Patrol commands -/

theorem startPatrol_inv {s : State} (h : QueueInv s) (m : PatrolMode) : QueueInv (startPatrol m s) :=
  h.kept (by simp) (by simp) (by simp) (by simp) (by simp) (.inl (by simp))

theorem stopPatrol_service (s : State) : (stopPatrol s).attn.latched.getLsbD 0 = s.attn.latched.getLsbD 0 := by
  unfold stopPatrol
  split
  · rfl
  all_goals exact setPatrolStatus_service ..

theorem stopPatrol_inv {s : State} (h : QueueInv s) : QueueInv (stopPatrol s) :=
  h.kept (by simp) (by simp) (stopPatrol_service s) (by simp) (by simp) (.inl (by simp))

theorem takeStart_inv {s : State} (h : QueueInv s) (c : Command) (m : PatrolMode) : QueueInv (takeStart c m s) :=
  arbitrate_inv ((startPatrol_inv h m).completeCommand _ _)

/-! ## Report, thresholds and save -/

theorem takeReport_inv {s : State} (h : QueueInv s) : QueueInv (takeReport s) :=
  h.kept rfl rfl rfl rfl rfl (.inl rfl)

theorem finishReport_inv {s : State} (h : QueueInv s) (r : Vector Word 256) : QueueInv (finishReport r s) := by
  unfold finishReport
  refine QueueInv.completeCommand ?_ _ _
  exact h.kept rfl rfl rfl rfl rfl (.inl rfl)

theorem waitForCommit_midOk {s : State} (h : MidOk s) (r : Nat → Running) : MidOk (waitForCommit r s) :=
  MidOk.checkSequence (h.congr rfl rfl rfl (.inl rfl) (.inl rfl) (.inl rfl))

theorem waitForCommit_arrival (s : State) (r : Nat → Running) : (waitForCommit r s).req.arrival = s.req.arrival := by
  simp [waitForCommit]

theorem takeThresholds_inv {s : State} (h : QueueInv s) : QueueInv (takeThresholds s) := by
  unfold takeThresholds
  split
  · refine settle_inv h (waitForCommit_midOk ?_ _) (waitForCommit_arrival ..)
    exact h.midOk.congr rfl rfl rfl (.inl rfl) (.inl rfl) (.inl rfl)
  · exact h.completeCommand _ _

theorem takeSave_inv {s : State} (h : QueueInv s) : QueueInv (takeSave s) :=
  settle_inv h (waitForCommit_midOk h.midOk _) (waitForCommit_arrival ..)

theorem requestStop_inv {s : State} (h : QueueInv s) : QueueInv (requestStop s) :=
  requestCommand_inv h _ _ ((stopPatrol_inv h).completeCommand _ _)

theorem refuseCode_inv {s : State} (h : QueueInv s) (code : BitVec 8) : QueueInv (refuseCode code s) := by
  unfold refuseCode
  split
  · exact h.latch _
  · exact h.completeCommand _ _

theorem writeCmd_inv {s : State} (h : QueueInv s) (v : Word) : QueueInv (writeCmd v s) := by
  unfold writeCmd
  cases commandOf (lowByte v) with
  | none => exact refuseCode_inv h _
  | some c =>
    cases c with
    | patrolSegment | patrolPass | patrolAuto => exact requestCommand_inv h _ _ (takeStart_inv h _ _)
    | patrolStop => exact requestStop_inv h
    | reportBuild => exact requestCommand_inv h _ _ (takeReport_inv h)
    | thresholdLoad => exact requestCommand_inv h _ _ (takeThresholds_inv h)
    | conditionSave => exact requestCommand_inv h _ _ (takeSave_inv h)

theorem readReport_inv {s : State} (h : QueueInv s) : QueueInv (readReport s) := by
  unfold readReport
  split <;> exact h.kept rfl rfl rfl rfl rfl (.inl rfl)

theorem writeReport_inv {s : State} (h : QueueInv s) (v : Word) : QueueInv (writeReport v s) := by
  unfold writeReport
  split
  · exact h
  · exact h.kept rfl rfl rfl rfl rfl (.inl rfl)

/-! ## Registers -/

theorem clearCauses_inv {s : State} (h : QueueInv s) (v : Word) : QueueInv (clearCauses v s) := by
  refine h.kept rfl rfl ?_ rfl rfl (.inl rfl)
  obtain ⟨-, -, -, ⟨-, -, h0⟩, -⟩ := h
  rw [h0, clearCauses]
  simp only [BitVec.getLsbD_and, h0, Bool.false_and]

theorem grantSlots_inv {s : State} (h : QueueInv s) (k : Nat) : QueueInv (grantSlots k s) := by
  have htag : ∀ u, (grantSlots k s).tag u = s.tag u := (grantSlots_records k s).1
  have hopt : opTag (grantSlots k s) = opTag s := (grantSlots_records k s).2
  obtain ⟨hq, harr, hheld, ⟨hnd, hf, h0⟩, howed⟩ := h
  refine ⟨?_, ?_, ?_, ⟨grantSlots_svc_nodup k s hnd, fun u hu => ?_, by simpa only [grantSlots_keeps] using h0⟩,
    howed.congr htag (.inl (by simp)) (.inl (by simp)) (.inl (by simp))⟩
  · simpa only [QueueOk, htag, hopt, grantSlots_keeps] using hq
  · simpa only [ArrivalOk, htag, grantSlots_keeps] using harr
  · simpa only [HeldOk, htag] using hheld
  · rw [htag]
    rcases mem_grantSlots_svc k s u hu with hu | ⟨-, hm, -⟩
    · exact hf u hu
    · rcases hm with e | e | e <;> rw [e] <;> exact nofun

theorem writeCfga_inv {s : State} (h : QueueInv s) (v : Word) : QueueInv (writeCfga v s) := by
  have h' : QueueInv { s with cfg := setCfga v s.cfg } := h.kept rfl rfl rfl rfl rfl (.inl rfl)
  unfold writeCfga
  dsimp only
  split
  · exact h'
  · exact arbitrate_inv (grantSlots_inv h' 8)

/-! ## Resets -/

/-- With every tag FREE and nothing listed or owed the invariant holds. -/
theorem queueInv_of_free {s : State} (htag : ∀ u, s.tag u = Tag.free) (hq : s.req.queue = []) (ha : s.req.arrival = 0)
    (hs : s.svc.list = []) (hb : s.attn.latched = 0) (hr : s.patrol.refreshBlock = none) (hop : opTag s = none) :
    QueueInv s := by
  have hstate : ∀ u, (s.tag u).state = .free := fun u => by rw [htag]; rfl
  have hprog : ∀ {u b} {p : Prop}, (s.tag u).prog = some b → p := fun {u b p} h => by
    rw [htag] at h
    cases h
  refine ⟨⟨by simp [hq], fun u => ?_, by simp [hq], fun u hu => ?_, fun u hu => ?_⟩,
    ⟨by simp [hq], by simp [hq], fun _ => ha, by simp [ha]⟩, fun u hu => ?_, ⟨by simp [hs], by simp [hs], by simp [hb]⟩,
    fun u b h => hprog h, fun b h => ?_, fun o _ _ u b h => hprog h, fun _ _ _ => hr⟩
  · rw [hstate, hq]
    exact ⟨nofun, nofun⟩
  · rw [hop] at hu
    cases hu
  · rw [hstate] at hu
    rcases hu with hu | hu <;> cases hu
  · rw [hstate] at hu
    cases hu
  · rw [hr] at h
    cases h

theorem reset_tag (u : TagNo) : State.reset.tag u = Tag.free := by
  simp [State.tag, State.reset]

/-- No operation is a tag's after a soft reset (R75). -/
theorem resetBlocks_opTag (s : State) : opTag (resetBlocks s) = none := by
  unfold opTag resetBlocks
  cases ho : s.array.op with
  | none => simp
  | some o =>
    cases hr : o.requester <;> simp [ArrayOp.orphan, hr]

theorem startQuiet_inv {s : State} (h : QueueInv s) : QueueInv (startQuiet s) :=
  h.kept (by simp) (by simp) (by simp) (by simp) (by simp) (.inl (by simp))

theorem softReset_inv {s : State} (h : QueueInv s) : QueueInv (softReset s) := by
  unfold softReset
  split
  · exact h
  · refine arbitrate_inv (startQuiet_inv (queueInv_of_free (fun u => ?_) rfl rfl rfl rfl rfl (resetBlocks_opTag s)))
    exact reset_tag u

theorem writeRegister_inv {s : State} (h : QueueInv s) (a : RegAddr) (v : Word) : QueueInv (writeRegister a v s) := by
  unfold writeRegister
  split
  · exact clearCauses_inv h v
  · exact h.kept rfl rfl rfl rfl rfl (.inl rfl)
  · exact h.congr (fun _ => rfl) rfl rfl rfl rfl rfl rfl (.inl rfl)
  · exact h.congr (fun _ => rfl) rfl rfl rfl rfl rfl rfl (.inl rfl)
  · exact submit_inv h v
  · exact h.kept rfl rfl rfl rfl rfl (.inl rfl)
  · exact writePort_inv h v
  · exact requestAbort_inv h v
  · exact writeCmd_inv h v
  · exact h.kept rfl rfl rfl rfl rfl (.inl rfl)
  · exact writeReport_inv h v
  · exact writeCfga_inv h v
  · exact h.kept rfl rfl rfl rfl rfl (.inl rfl)
  · exact h.kept rfl rfl rfl rfl rfl (.inl rfl)
  · split
    · exact softReset_inv h
    · exact h
  · exact h

theorem losePower_op (a : ArrayUnit) : (losePower a).op = none := by
  unfold losePower
  split
  · assumption
  · dsimp only
    split <;> rfl

theorem startScan_inv {s : State} (h : QueueInv s) : QueueInv (startScan s) := by
  unfold startScan
  refine arbitrate_inv ?_
  exact h.kept rfl rfl rfl rfl rfl (.inr nofun)

/-! ## Timers -/

theorem quietOver_inv {s : State} (h : QueueInv s) : QueueInv (quietOver s) :=
  h.kept (by simp) (by simp) (by simp) (by simp) (by simp) (.inl (by simp))

theorem gapOver_inv {s : State} (h : QueueInv s) : QueueInv (gapOver s) :=
  h.kept (by simp) (by simp) (by simp) (by simp) (by simp) (.inl (by simp))

end Sys2Proof.Machine
end

section
/-! PROOFS. The completions of the Array Unit keep the invariant of the dispatch queue, and with them every step does. -/
namespace Sys2Proof.Machine

/-! ## Records of the tag in operation -/

/-- An event may treat an ACTIVE tag's blocks in any way while it stays ACTIVE. -/
theorem Tag.StepOk.of_active {inOp : Prop} {x y : Tag} (hu : y.urgent = x.urgent) (ha : y.arrival = x.arrival)
    (hx : x.state = .active) (hy : y.state = .active) : x.StepOk inOp y :=
  .of_state hu ha (fun _ => by rw [hx]; rfl) (by simp [hy]) (by simp [hy]) (by simp [hy]) fun _ _ => hy

theorem becomeEnding_tag (n u : TagNo) (s : State) :
    (becomeEnding n s).tag u = if u = n then { s.tag n with state := .ending } else s.tag u := modTag_tag s n u _

/-- An ACTIVE tag without an operation in flight becomes ENDING, its blocks resolved (R6). -/
theorem MidOk.becomeEnding {s : State} (h : MidOk s) (n : TagNo) (ha : (s.tag n).state = .active)
    (hop : s.array.op = none) (hp : ∀ b, (s.tag n).prog = some b → b.owed = false) : MidOk (becomeEnding n s) := by
  refine h.modTag n _ (.of_state rfl rfl (fun _ => by rw [ha]; rfl) nofun nofun nofun fun hi => ?_)
    fun b hb => ⟨hb, rfl, fun ho => ?_⟩
  · rw [opTag_of_idle hop] at hi
    cases hi
  · rw [hp b hb] at ho
    cases ho

theorem MidOk.finish_idle {s : State} (h : MidOk s) (n : TagNo) (st : Status) (hop : s.array.op = none) :
    MidOk (Machine.finish n st s) := h.finish n st (by rw [opTag_of_idle hop]; exact nofun)

/-! ## Reads of a tag -/

/-- Tags that read have no block in program. -/
theorem MidOk.no_prog {s : State} (h : MidOk s) {n : TagNo} (hk : (s.tag n).kind.writes = false) (b : BlockInProgram) :
    (s.tag n).prog ≠ some b := fun hb => by
  have := (h.owed.1 n b hb).1
  rw [hk] at this
  cases this

theorem MidOk.endRead {s : State} (h : MidOk s) (n : TagNo) (ha : (s.tag n).state = .active)
    (hk : (s.tag n).kind.writes = false) (hop : s.array.op = none) : MidOk (endRead n s) := by
  unfold Machine.endRead
  split
  · exact h.finish_idle n _ hop
  · exact h.becomeEnding n ha hop fun b hb => absurd hb (h.no_prog hk b)

/-- Reading the words of a block changes nothing but the count of draws. -/
@[simp] theorem blockWords_keeps (s : State) (pbn : Nat) :
    (blockWords s pbn).2.rstnLow = s.rstnLow ∧ (blockWords s pbn).2.lastRead = s.lastRead ∧
    (blockWords s pbn).2.req = s.req ∧ (blockWords s pbn).2.pool = s.pool ∧ (blockWords s pbn).2.port = s.port ∧
    (blockWords s pbn).2.svc = s.svc ∧ (blockWords s pbn).2.array = s.array ∧ (blockWords s pbn).2.map = s.map ∧
    (blockWords s pbn).2.patrol = s.patrol ∧ (blockWords s pbn).2.jrnl = s.jrnl ∧
    (blockWords s pbn).2.cond = s.cond ∧ (blockWords s pbn).2.cmd = s.cmd ∧ (blockWords s pbn).2.cfg = s.cfg ∧
    (blockWords s pbn).2.attn = s.attn ∧ (blockWords s pbn).2.pending = s.pending := by
  unfold blockWords
  split <;> exact ⟨rfl, rfl, rfl, rfl, rfl, rfl, rfl, rfl, rfl, rfl, rfl, rfl, rfl, rfl, rfl⟩

/-- The slot of a READ tag with the words of the block (R86). -/
def filledSlot (s : State) (pbn : Nat) (k : SlotNo) : State :=
  (blockWords s pbn).2.setSlot k
    { (blockWords s pbn).2.slot k with state := .full, pos := 0, data := (blockWords s pbn).1 }

theorem fillSlot_eq (n : TagNo) (pbn : Nat) (k : SlotNo) (s : State) :
    fillSlot n pbn (.slot k) s = serviceAppend n (filledSlot s pbn k) := rfl

@[simp] theorem filledSlot_keeps (s : State) (pbn : Nat) (k : SlotNo) :
    (filledSlot s pbn k).rstnLow = s.rstnLow ∧ (filledSlot s pbn k).lastRead = s.lastRead ∧
    (filledSlot s pbn k).req = s.req ∧ (filledSlot s pbn k).port = s.port ∧ (filledSlot s pbn k).svc = s.svc ∧
    (filledSlot s pbn k).array = s.array ∧ (filledSlot s pbn k).map = s.map ∧
    (filledSlot s pbn k).patrol = s.patrol ∧ (filledSlot s pbn k).jrnl = s.jrnl ∧
    (filledSlot s pbn k).cond = s.cond ∧ (filledSlot s pbn k).cmd = s.cmd ∧ (filledSlot s pbn k).cfg = s.cfg ∧
    (filledSlot s pbn k).attn = s.attn ∧ (filledSlot s pbn k).pending = s.pending := by
  simp [filledSlot]

@[simp] theorem fillSlot_keeps (n : TagNo) (pbn : Nat) (d : DataPlace) (s : State) :
    (fillSlot n pbn d s).rstnLow = s.rstnLow ∧ (fillSlot n pbn d s).lastRead = s.lastRead ∧
    (fillSlot n pbn d s).req = s.req ∧ (fillSlot n pbn d s).port = s.port ∧
    (fillSlot n pbn d s).array = s.array ∧ (fillSlot n pbn d s).map = s.map ∧
    (fillSlot n pbn d s).patrol = s.patrol ∧ (fillSlot n pbn d s).jrnl = s.jrnl ∧
    (fillSlot n pbn d s).cond = s.cond ∧ (fillSlot n pbn d s).cmd = s.cmd ∧ (fillSlot n pbn d s).cfg = s.cfg ∧
    (fillSlot n pbn d s).attn = s.attn ∧ (fillSlot n pbn d s).pending = s.pending ∧
    (fillSlot n pbn d s).svc.readout = s.svc.readout := by
  cases d with
  | slot k =>
    rw [fillSlot_eq]
    simp
  | patrolBuffer | imageBuffer | zeroSource | none =>
    exact ⟨rfl, rfl, rfl, rfl, rfl, rfl, rfl, rfl, rfl, rfl, rfl, rfl, rfl, rfl⟩

@[simp] theorem fillSlot_tag (n u : TagNo) (pbn : Nat) (d : DataPlace) (s : State) :
    (fillSlot n pbn d s).tag u = s.tag u := tag_eq_of_req (by simp) u

theorem MidOk.fillSlot {s : State} (h : MidOk s) (n : TagNo) (pbn : Nat) (d : DataPlace)
    (hn : (s.tag n).state ≠ .free) : MidOk (fillSlot n pbn d s) := by
  cases d with
  | slot k =>
    rw [fillSlot_eq]
    refine MidOk.serviceAppend ?_ n ?_
    · exact h.congr (by simp) (by simp) (by simp) (.inl (by simp)) (.inl (by simp)) (.inl (by simp))
    · rwa [tag_eq_of_req (filledSlot_keeps s pbn k).2.2.1]
  | patrolBuffer | imageBuffer | zeroSource | none => exact h

theorem MidOk.readTagFinal {s : State} (h : MidOk s) (n : TagNo) (o : ArrayOp) (c : ReadClass)
    (ha : (s.tag n).state = .active) (hk : (s.tag n).kind.writes = false) (hop : s.array.op = none) :
    MidOk (readTagFinal n o c s) := by
  unfold Machine.readTagFinal
  dsimp only
  split
  · have h' := h.fillSlot n o.pbn o.data (by rw [ha]; exact nofun)
    split
    · exact h'.endRead n (by rw [fillSlot_tag]; exact ha) (by rw [fillSlot_tag]; exact hk)
        (by simpa using hop)
    · exact h'
  · have h' : MidOk (freeSlotsOf n (· == .reserved) (freeDataSlot o.data s)) :=
      h.congr (by simp) (by simp) (by simp) (.inl (by simp)) (.inl (by simp)) (.inl (by simp))
    exact h'.endRead n (by simpa using ha) (by simpa using hk) (by simpa using hop)

theorem MidOk.handOff {s : State} (h : MidOk s) (l : Nat) (c : ReadClass) : MidOk (handOff l c s) :=
  h.congr (by simp) (by simp) (by simp) (.inl (by simp)) (.inl (by simp)) (.inl (by simp))

theorem takeRead_keeps (l level : Nat) (c : ReadClass) (x : Tag) :
    (x.takeRead l level c).state = x.state ∧ (x.takeRead l level c).kind = x.kind ∧
    (x.takeRead l level c).prog = x.prog ∧ (x.takeRead l level c).urgent = x.urgent ∧
    (x.takeRead l level c).arrival = x.arrival ∧ (x.takeRead l level c).abortMark = x.abortMark ∧
    (x.takeRead l level c).wpMark = x.wpMark :=
  ⟨rfl, rfl, rfl, rfl, rfl, rfl, rfl⟩

theorem MidOk.tagReadFinal {s : State} (h : MidOk s) (n : TagNo) (o : ArrayOp) (l : Nat) (c : ReadClass)
    (ha : (s.tag n).state = .active) (hop : s.array.op = none) : MidOk (tagReadFinal n o l c s) := by
  have h' : MidOk ((Machine.handOff l c s).modTag n (Tag.takeRead l s.cfg.refreshLevel c)) :=
    (h.handOff l c).modTag n _ (.of_active rfl rfl (by simpa using ha) (by rw [(takeRead_keeps ..).1]; simpa using ha))
      (.of_fields rfl rfl rfl rfl rfl)
  have hop' : ((Machine.handOff l c s).modTag n (Tag.takeRead l s.cfg.refreshLevel c)).array.op = none := by
    simpa using hop
  have ha' : (((Machine.handOff l c s).modTag n (Tag.takeRead l s.cfg.refreshLevel c)).tag n).state = .active := by
    rw [modTag_tag, if_pos rfl, (takeRead_keeps ..).1]
    simpa using ha
  unfold Machine.tagReadFinal
  dsimp only
  split
  · exact h'.finish_idle n _ hop'
  · split
    · rename_i hk
      exact h'.readTagFinal n o c ha' (by rw [hk]; rfl) hop'
    · split
      · exact h'.finish_idle n _ hop'
      · exact h'
    · exact h'
    · exact h'

theorem MidOk.tagReadDone {s : State} (h : MidOk s) (n : TagNo) (o : ArrayOp) (out : ReadOutcome)
    (ha : (s.tag n).state = .active) (hop : s.array.op = none) : MidOk (tagReadDone n o out s) := by
  unfold Machine.tagReadDone
  dsimp only
  split
  · exact h
  · split
    · exact ⟨h.event.setTag n _ (.of_active rfl rfl ha ha), h.owed.setTag n _ (.of_fields rfl rfl rfl rfl rfl)⟩
    · exact h.tagReadFinal n o _ _ ha hop

/-! ## Reads of the patrol, the journal and orphans -/

theorem MidOk.setPatrolStatus {s : State} (h : MidOk s) (st : PatrolStatus) : MidOk (setPatrolStatus st s) :=
  h.congr (by simp) (by simp) (setPatrolStatus_service ..) (.inl (by simp)) (.inl (by simp)) (.inl (by simp))

theorem MidOk.passEnd {s : State} (h : MidOk s) : MidOk (passEnd s) := by
  unfold Machine.passEnd
  refine MidOk.setPatrolStatus ?_ _
  exact h.congr rfl rfl rfl (.inl rfl) (.inl rfl) (.inl rfl)

theorem MidOk.patrolIdle {s : State} (h : MidOk s) : MidOk (patrolIdle s) :=
  h.congr rfl rfl rfl (.inl rfl) (.inl rfl) (.inl rfl)

theorem MidOk.testEnds {s : State} (h : MidOk s) (l : Nat) : MidOk (testEnds l s) := by
  unfold Machine.testEnds
  split
  · split
    · exact h
    · split
      · exact h.patrolIdle.setPatrolStatus _
      · exact h
    · split
      · exact h.passEnd.patrolIdle.checkSequence
      · exact h
    · split
      · exact (h.passEnd.congr (t := startGap (Machine.passEnd s)) (by simp) (by simp) (by simp) (.inl (by simp))
          (.inl (by simp)) (.inl (by simp))).checkSequence
      · exact h
  · exact h

theorem MidOk.closeBgRead {s : State} (h : MidOk s) (r : BackgroundRead) (c : ReadClass) : MidOk (closeBgRead r c s) :=
  h.congr (by simp) (by simp) (by simp) (.inl (by simp)) (.inl (by simp)) (.inl (by simp))

theorem fillBuffer_eq (l pbn : Nat) (s : State) :
    fillBuffer l pbn s = { (blockWords s pbn).2 with
      patrol := { (blockWords s pbn).2.patrol with
        buf := { lbn := some l, valid := true, words := (blockWords s pbn).1 } } } := rfl

theorem MidOk.fillBuffer {s : State} (h : MidOk s) (l pbn : Nat) : MidOk (fillBuffer l pbn s) := by
  rw [fillBuffer_eq]
  exact h.congr (by simp) (by simp) (by simp) (.inl (by simp)) (.inl (by simp)) (.inl (by simp))

theorem MidOk.patrolReadDone {s : State} (h : MidOk s) (o : ArrayOp) (out : ReadOutcome) :
    MidOk (patrolReadDone o out s) := by
  unfold Machine.patrolReadDone
  split
  · exact h
  · split
    · exact h.congr rfl rfl rfl (.inl rfl) (.inl rfl) (.inl rfl)
    · rename_i r _ _
      have hclosed := h.closeBgRead r (classify (decide (0 < r.retries)) out)
      dsimp only
      split
      · split
        · exact (hclosed.fillBuffer _ _).testEnds _
        · exact hclosed.testEnds _
      · split
        · exact hclosed.fillBuffer _ _
        · exact hclosed

theorem MidOk.endStartUp {s : State} (h : MidOk s) : MidOk (endStartUp s) := by
  have hl : MidOk (latch .start s) := h.congr rfl rfl (latch_service ..) (.inl rfl) (.inl rfl) (.inl rfl)
  unfold Machine.endStartUp
  exact hl.congr (by simp) (by simp) (by simp) (.inl (by simp)) (.inl (by simp)) (.inl (by simp))

theorem MidOk.endScan {s : State} (h : MidOk s) : MidOk (endScan s) := by
  unfold Machine.endScan
  split
  · unfold loadImage
    refine MidOk.endStartUp ?_
    exact h.congr rfl rfl rfl (.inl rfl) (.inl rfl) (.inr nofun)
  · exact h.congr rfl rfl rfl (.inl rfl) (.inl rfl) (.inl rfl)

/-- A ring image becomes the candidate or is passed over (R164). -/
theorem considerImage_cases (p : Nat) (i : StateImage) (s : State) :
    considerImage p i s = s ∨
      considerImage p i s = { s with jrnl := { s.jrnl with candidate := some { position := p, image := i } } } := by
  unfold considerImage
  split
  all_goals
    dsimp only
    split
    · exact .inr rfl
    · exact .inl rfl

theorem MidOk.considerImage {s : State} (h : MidOk s) (p : Nat) (i : StateImage) : MidOk (considerImage p i s) := by
  rcases considerImage_cases p i s with e | e <;> rw [e]
  · exact h
  · exact h.congr rfl rfl rfl (.inl rfl) (.inl rfl) (.inl rfl)

/-- What a ring read leaves in the journal, before the scan goes on (R164). -/
def ringTaken (o : ArrayOp) (out : ReadOutcome) (s : State) : State :=
  if out = .uncorrectable then s
  else match ringContent s o.pbn with
    | .image i => considerImage (o.pbn - 4064) i { s with jrnl := { s.jrnl with imageBuffer := ringContent s o.pbn } }
    | .nothing | .undefined => { s with jrnl := { s.jrnl with imageBuffer := ringContent s o.pbn } }

theorem ringReadDone_eq (o : ArrayOp) (out : ReadOutcome) (s : State) :
    ringReadDone o out s =
      if o.pbn - 4064 < 31 then
        { ringTaken o out s with jrnl := { (ringTaken o out s).jrnl with scanNext := some (o.pbn - 4064 + 1) } }
      else endScan (ringTaken o out s) := rfl

theorem MidOk.ringReadDone {s : State} (h : MidOk s) (o : ArrayOp) (out : ReadOutcome) :
    MidOk (ringReadDone o out s) := by
  have hbuf : ∀ b, MidOk { s with jrnl := { s.jrnl with imageBuffer := b } } := fun b =>
    h.congr rfl rfl rfl (.inl rfl) (.inl rfl) (.inl rfl)
  have htaken : MidOk (ringTaken o out s) := by
    unfold ringTaken
    split
    · exact h
    · split
      · exact (hbuf _).considerImage _ _
      · exact hbuf _
      · exact hbuf _
  rw [ringReadDone_eq]
  split
  · exact htaken.congr rfl rfl rfl (.inl rfl) (.inl rfl) (.inl rfl)
  · exact htaken.endScan

theorem MidOk.freeDataSlot {s : State} (h : MidOk s) (d : DataPlace) : MidOk (freeDataSlot d s) :=
  h.congr (by simp) (by simp) (by simp) (.inl (by simp)) (.inl (by simp)) (.inl (by simp))

theorem MidOk.orphanReadDone {s : State} (h : MidOk s) (o : ArrayOp) (out : ReadOutcome) :
    MidOk (orphanReadDone o out s) := by
  unfold Machine.orphanReadDone
  split
  · exact h
  · exact (h.handOff _ _).freeDataSlot _

theorem MidOk.readDone {s : State} (h : MidOk s) (o : ArrayOp) (out : ReadOutcome)
    (ha : ∀ n, o.requester = .tag n → (s.tag n).state = .active) (hop : s.array.op = none) : MidOk (readDone o out s) := by
  unfold Machine.readDone
  split
  · rename_i n hr
    exact h.tagReadDone n o out (ha n hr) hop
  · exact h.patrolReadDone o out
  · exact h.ringReadDone o out
  · exact h.orphanReadDone o out

/-! ## Programs of a tag -/

/-- A block of tag `n` has failed: it owes its reallocation from now on (R99, R105). -/
def Tag.owing (x : Tag) : Tag := { x with prog := x.prog.map fun b => { b with inFlight := false, owed := true } }

theorem tagOwes_eq (n : TagNo) (s : State) : tagOwes n s = resolveOwed (s.modTag n Tag.owing) := rfl

theorem MidOk.tagOwes {s : State} (h : MidOk s) (n : TagNo) (ha : (s.tag n).state = .active) (hop : s.array.op = none) :
    MidOk (tagOwes n s) := by
  have he : EventOk (s.modTag n Tag.owing) := h.event.modTag n _ (.of_active rfl rfl ha ha)
  have hw : OwedWeak (s.modTag n Tag.owing) := by
    refine ⟨fun u b hb => ?_, fun b hb ho => (h.owed.2.1 b hb ho).1⟩
    rw [modTag_tag] at hb ⊢
    by_cases hu : u = n
    · subst hu
      rw [if_pos rfl] at hb ⊢
      obtain ⟨b', hb', rfl⟩ := Option.map_eq_some_iff.1 hb
      exact ⟨(h.owed.1 u b' hb').1, fun _ => ⟨rfl, ha⟩⟩
    · rw [if_neg hu] at hb ⊢
      refine ⟨(h.owed.1 u b hb).1, fun ho => ?_⟩
      obtain ⟨hi, ha', -⟩ := (h.owed.1 u b hb).2 ho
      exact ⟨hi, ha'⟩
  rw [tagOwes_eq]
  exact ⟨he.resolveOwed (by simpa using hop) hw, resolveOwed_owedOk he (by simpa using hop) hw⟩

theorem MidOk.afterPass {s : State} (h : MidOk s) (n : TagNo) (ha : (s.tag n).state = .active)
    (hp : (s.tag n).prog = none) (hop : s.array.op = none) : MidOk (afterPass n s) := by
  unfold Machine.afterPass
  dsimp only
  split
  · exact h.finish_idle n _ hop
  · split
    · split
      · split
        · exact h.finish_idle n _ hop
        · exact h.becomeEnding n ha hop fun b hb => by rw [hp] at hb; cases hb
      · exact h.finish_idle n _ hop
    · split
      · exact h.finish_idle n _ hop
      · exact h

theorem MidOk.tagBlockPasses {s : State} (h : MidOk s) (n : TagNo) (r : Bool) (ha : (s.tag n).state = .active)
    (hop : s.array.op = none) : MidOk (tagBlockPasses n r s) := by
  unfold Machine.tagBlockPasses
  split
  · exact h
  · rename_i b hb
    have h₁ : MidOk (freeSource b.source s) :=
      h.congr (by simp) (by simp) (by simp) (.inl (by simp)) (.inl (by simp)) (.inl (by simp))
    refine MidOk.afterPass ?_ n ?_ ?_ (by simpa using hop)
    · exact h₁.modTag n _ (.of_active rfl rfl (by simpa using ha) (by simpa [Tag.passBlock] using ha)) (.of_none rfl)
    · rw [modTag_tag, if_pos rfl]
      simpa [Tag.passBlock] using ha
    · rw [modTag_tag, if_pos rfl]
      rfl

theorem MidOk.commitReasonFor {s : State} (h : MidOk s) (n : TagNo) : MidOk (commitReasonFor n s) := by
  have hc : MidOk (Machine.commitReason s) := h.congr rfl rfl rfl (.inl rfl) (.inl rfl) (.inl rfl)
  unfold Machine.commitReasonFor
  refine hc.modTag n _ ?_ ?_
  · split
    · exact .refl ..
    · exact .of_fields rfl rfl rfl rfl rfl
  · split
    · exact .of_eq rfl
    · exact .of_fields rfl rfl rfl rfl rfl

theorem commitReasonFor_state (n u : TagNo) (s : State) :
    ((commitReasonFor n s).tag u).state = (s.tag u).state := by
  unfold commitReasonFor
  dsimp only
  rw [modTag_tag]
  split
  · rename_i e
    rw [e]
    split <;> rfl
  · rfl

/-- The refresh block and the buffer after the cancellation for an LBN (R145). -/
def PatrolEngine.cancelBlock (l : Nat) (p : PatrolEngine) : PatrolEngine :=
  match p.refreshBlock with
  | some b => if b.lbn == l && b.owed then { p with refreshBlock := none, buf := PatrolBuffer.discarded } else p
  | none => if p.buf.valid && p.buf.lbn == some l then { p with buf := PatrolBuffer.discarded } else p

/-- The background read after it. -/
def BackgroundRead.cancelFor (l : Nat) (r : BackgroundRead) : BackgroundRead :=
  if r.lbn == l then { r with cancelled := true } else r

theorem cancelPatrol_eq (l : Nat) (s : State) :
    cancelPatrol l s = { s with patrol := { s.patrol.cancelBlock l with
      bgRead := (s.patrol.cancelBlock l).bgRead.map (BackgroundRead.cancelFor l) } } := rfl

/-- An owed refresh block of the LBN is gone with its words, or a valid buffer of the LBN is discarded, or all stays. -/
theorem cancelBlock_cases (l : Nat) (p : PatrolEngine) :
    (∃ b, p.refreshBlock = some b ∧ b.lbn = l ∧ b.owed = true ∧
      p.cancelBlock l = { p with refreshBlock := none, buf := PatrolBuffer.discarded }) ∨
    (p.refreshBlock = none ∧ p.buf.valid = true ∧ p.buf.lbn = some l ∧
      p.cancelBlock l = { p with buf := PatrolBuffer.discarded }) ∨
    ((∀ b, p.refreshBlock = some b → ¬ (b.lbn = l ∧ b.owed = true)) ∧
      (p.refreshBlock = none → ¬ (p.buf.valid = true ∧ p.buf.lbn = some l)) ∧ p.cancelBlock l = p) := by
  unfold PatrolEngine.cancelBlock
  cases hb : p.refreshBlock with
  | none =>
    by_cases hc : (p.buf.valid && p.buf.lbn == some l) = true
    · refine .inr (.inl ⟨rfl, ?_⟩)
      simp only [hc, if_true, and_true]
      simpa using hc
    · refine .inr (.inr ⟨nofun, fun _ => by simpa using hc, ?_⟩)
      simp only [hc, Bool.false_eq_true, if_false]
  | some b =>
    by_cases hc : (b.lbn == l && b.owed) = true
    · have hc' : b.lbn = l ∧ b.owed = true := by simpa using hc
      refine .inl ⟨b, rfl, hc'.1, hc'.2, ?_⟩
      simp only [hc, if_true]
    · refine .inr (.inr ⟨fun b' hb' => ?_, nofun, ?_⟩)
      · cases hb'
        simpa using hc
      · simp only [hc, Bool.false_eq_true, if_false]

theorem cancelPatrol_refreshBlock (l : Nat) (s : State) :
    (cancelPatrol l s).patrol.refreshBlock = s.patrol.refreshBlock ∨ (cancelPatrol l s).patrol.refreshBlock = none := by
  rw [cancelPatrol_eq]
  rcases cancelBlock_cases l s.patrol with ⟨b, -, -, -, e⟩ | ⟨-, -, -, e⟩ | ⟨-, -, e⟩
  · exact .inr (by rw [e])
  · exact .inl (by rw [e])
  · exact .inl (by rw [e])

theorem MidOk.cancelPatrol {s : State} (h : MidOk s) (l : Nat) : MidOk (cancelPatrol l s) :=
  h.congr (by simp) (by simp) (by simp) (.inl (by simp)) (cancelPatrol_refreshBlock l s) (.inl (by simp))

theorem MidOk.clearLists {s : State} (h : MidOk s) (l : Nat) : MidOk (clearLists l s) :=
  h.congr (by simp) (by simp) (by simp) (.inl (by simp)) (.inl (by simp)) (.inl (by simp))

theorem MidOk.bump {s : State} (h : MidOk s) (i : CondId) : MidOk (s.bump i) :=
  h.congr rfl rfl rfl (.inl rfl) (.inl rfl) (.inl rfl)

theorem MidOk.reportSpares {s : State} (h : MidOk s) : MidOk (reportSpares s) :=
  h.congr rfl rfl rfl (.inl rfl) (.inl rfl) (.inl rfl)

theorem MidOk.retire {s : State} (h : MidOk s) (p : Nat) : MidOk (retire p s) :=
  h.congr rfl rfl rfl (.inl rfl) (.inl rfl) (.inl rfl)

theorem MidOk.remapTo {s : State} (h : MidOk s) (l p : Nat) : MidOk (remapTo l p s) :=
  h.congr (by simp) (by simp) (by simp) (.inl (by simp)) (.inl (by simp)) (.inl (by simp))

theorem MidOk.commitReason {s : State} (h : MidOk s) : MidOk (commitReason s) :=
  h.congr rfl rfl rfl (.inl rfl) (.inl rfl) (.inl rfl)

theorem MidOk.offerPending {s : State} (h : MidOk s) (l : Nat) : MidOk (offerPending l s) :=
  h.congr (by simp) (by simp) (by simp) (.inl (by simp)) (.inl (by simp)) (.inl (by simp))

@[simp] theorem afterPass_array (n : TagNo) (s : State) : (afterPass n s).array = s.array := by
  unfold afterPass
  dsimp only
  (repeat' split) <;> simp

@[simp] theorem tagBlockPasses_array (n : TagNo) (r : Bool) (s : State) : (tagBlockPasses n r s).array = s.array := by
  unfold tagBlockPasses
  split <;> simp

theorem MidOk.tagProgramDone {s : State} (h : MidOk s) (n : TagNo) (l pbn : Nat) (r : Bool) (out : ProgramOutcome)
    (ha : (s.tag n).state = .active) (hop : s.array.op = none) : MidOk (tagProgramDone n l pbn r out s) := by
  cases out <;> cases r
  case pass.false =>
    exact ((h.clearLists l).cancelPatrol l).tagBlockPasses n false (by simpa using ha) (by simpa using hop)
  case fail.false => exact ((h.bump _).cancelPatrol l).tagOwes n (by simpa using ha) (by simpa using hop)
  case pass.true =>
    have hpass := (((((h.remapTo l pbn).commitReasonFor n).bump CondId.reallocations).reportSpares.clearLists
      l).cancelPatrol l).tagBlockPasses n true (by simpa [commitReasonFor_state] using ha) (by simpa using hop)
    exact (hpass.resolveOwed (by simpa using hop)).checkSequence
  case fail.true =>
    exact (((((h.bump CondId.programFailures).retire pbn).reportSpares.commitReasonFor n).cancelPatrol l).tagOwes n
      (by simpa [commitReasonFor_state] using ha) (by simpa using hop)).checkSequence

end Sys2Proof.Machine
end

section
/-! PROOFS. Programs of the patrol, of orphans and of the journal; and O56: every step keeps the dispatch queue, the service
list and what blocks owe. -/
namespace Sys2Proof.Machine

/-! ## Programs of the patrol and of orphans -/

theorem MidOk.endRefresh {s : State} (h : MidOk s) : MidOk (endRefresh s) :=
  h.congr rfl rfl rfl (.inl rfl) (.inr rfl) (.inl rfl)

/-- The refresh block has failed: its buffer is no longer valid, and it owes its reallocation (R144). -/
def PatrolEngine.owing (p : PatrolEngine) : PatrolEngine :=
  { p with
    buf := { p.buf with valid := false }
    refreshBlock := p.refreshBlock.map fun b => { b with inFlight := false, owed := true } }

theorem refreshOwes_eq (s : State) : refreshOwes s = resolveOwed { s with patrol := s.patrol.owing } := rfl

theorem MidOk.refreshOwes {s : State} (h : MidOk s) (hop : s.array.op = none) : MidOk (refreshOwes s) := by
  have he : EventOk { s with patrol := s.patrol.owing } := h.event.congr rfl rfl rfl (.inl rfl)
  have hw : OwedWeak { s with patrol := s.patrol.owing } := by
    refine ⟨(owedWeak_of_owedOk h.owed).1, fun b hb ho => ?_⟩
    obtain ⟨b', -, rfl⟩ := Option.map_eq_some_iff.1 hb
    rfl
  rw [refreshOwes_eq]
  exact ⟨he.resolveOwed hop hw, resolveOwed_owedOk he hop hw⟩

theorem MidOk.refreshDone {s : State} (h : MidOk s) (l pbn : Nat) (r : Bool) (out : ProgramOutcome)
    (hop : s.array.op = none) : MidOk (refreshDone l pbn r out s) := by
  cases out <;> cases r
  case pass.false => exact ((h.clearLists l).bump _).endRefresh
  case fail.false => exact (h.bump _).refreshOwes hop
  case pass.true =>
    refine MidOk.checkSequence (MidOk.resolveOwed (((((h.remapTo l pbn).commitReason).bump
      CondId.reallocations).reportSpares.clearLists l).endRefresh) ?_)
    simpa [Machine.endRefresh] using hop
  case fail.true =>
    exact (MidOk.refreshOwes (((h.bump CondId.programFailures).retire pbn).reportSpares.commitReason)
      (by simpa using hop)).checkSequence

theorem MidOk.orphanProgramDone {s : State} (h : MidOk s) (l pbn : Nat) (r : Bool) (d : DataPlace)
    (out : ProgramOutcome) (hop : s.array.op = none) : MidOk (orphanProgramDone l pbn r d out s) := by
  cases out <;> cases r
  case pass.false => exact ((h.clearLists l).cancelPatrol l).freeDataSlot d
  case fail.false => exact (((h.bump _).cancelPatrol l).offerPending l).freeDataSlot d
  case pass.true =>
    refine MidOk.checkSequence (MidOk.resolveOwed (((((h.remapTo l pbn).commitReason).bump
      CondId.reallocations).reportSpares.clearLists l).cancelPatrol l |>.freeDataSlot d) ?_)
    simpa using hop
  case fail.true =>
    refine MidOk.checkSequence (MidOk.resolveOwed ((((h.bump
      CondId.programFailures).retire pbn).reportSpares.commitReason.cancelPatrol l).offerPending l |>.freeDataSlot d) ?_)
    simpa using hop

theorem MidOk.patrolProgramDone {s : State} (h : MidOk s) (l pbn : Nat) (r : Bool) (out : ProgramOutcome)
    (hop : s.array.op = none) : MidOk (patrolProgramDone l pbn r out s) := by
  unfold Machine.patrolProgramDone
  split
  · exact h.refreshDone l pbn r out hop
  · dsimp only
    split
    · exact (h.orphanProgramDone l pbn r .none out hop).bump _
    · exact h.orphanProgramDone l pbn r .none out hop

/-! ## Commit attempts -/

theorem releasedBy_iff (q : Nat) (x : Tag) :
    releasedBy q x = true ↔ x.state = .ending ∧ x.kind.writes = true ∧ ∃ m, x.needed = some m ∧ m ≤ q := by
  unfold releasedBy
  cases hn : x.needed <;> simp [and_assoc]

theorem released_stepOk (inOp : Prop) (q : Nat) (x : Tag) : x.StepOk inOp (x.released q) := by
  unfold Tag.released
  split
  · rename_i h
    refine finished_stepOk _ x fun _ => ?_
    rw [((releasedBy_iff q x).1 h).1]
    exact nofun
  · exact .refl ..

theorem released_owedStep (q : Nat) (x : Tag) : x.OwedStep (x.released q) := by
  unfold Tag.released
  split
  · exact .of_none rfl
  · exact .of_eq rfl

theorem MidOk.releaseWaiters {s : State} (h : MidOk s) (q : Nat) (l : List TagNo) :
    MidOk (l.foldl (releaseWaiter q) s) := by
  refine ⟨h.event.step (fun u => ?_) (by simp) (by simp) (by simp) (by simp)
      (.inl (opTag_eq_of_array (by simp))),
    h.owed.step (fun u => ?_) (.inl (by simp)) (.inl (by simp)) (.inl (by simp))⟩
  · rw [foldl_releaseWaiter_tag]
    split
    · exact released_stepOk ..
    · exact .refl ..
  · rw [foldl_releaseWaiter_tag]
    split
    · exact released_owedStep q _
    · exact .of_eq rfl

/-- The journal after a passed commit (R155, R166). -/
def Journal.passed (j : Journal) (c : Commit) : Journal :=
  { j with lastDone := c.sequence, nextPos := nextRing j.nextPos, commit := none,
           mode := if j.mode == .starting then .ready else j.mode }

/-- The tags and the command that a passed commit releases (R7, R109, R155). -/
def commitReleased (c : Commit) (s : State) : State :=
  releaseCommand c.sequence (s.req.queue.foldl (releaseWaiter c.sequence)
    (({ s with jrnl := s.jrnl.passed c } : State).bump CondId.journalCommits))

theorem commitPass_eq {s : State} {c : Commit} (h : s.jrnl.commit = some c) :
    commitPass s = if s.jrnl.mode == .starting then endStartUp (commitReleased c s) else commitReleased c s := by
  unfold commitPass
  simp only [h]
  rfl

theorem passed_mode (j : Journal) (c : Commit) : (j.passed c).mode = j.mode ∨ (j.passed c).mode ≠ .readOnly := by
  unfold Journal.passed
  dsimp only
  split
  · exact .inr nofun
  · exact .inl rfl

theorem MidOk.commitReleased {s : State} (h : MidOk s) (c : Commit) : MidOk (commitReleased c s) := by
  have h₁ : MidOk (({ s with jrnl := s.jrnl.passed c } : State).bump CondId.journalCommits) :=
    h.congr rfl rfl rfl (.inl rfl) (.inl rfl) (passed_mode ..)
  have h₂ := h₁.releaseWaiters c.sequence s.req.queue
  unfold Machine.commitReleased
  exact h₂.congr (by simp) (by simp) (releaseCommand_service ..) (.inl (by simp)) (.inl (by simp)) (.inl (by simp))

theorem MidOk.commitPass {s : State} (h : MidOk s) : MidOk (commitPass s) := by
  cases hc : s.jrnl.commit with
  | none =>
    unfold Machine.commitPass
    simpa only [hc] using h
  | some c =>
    rw [commitPass_eq hc]
    split
    · exact (h.commitReleased c).endStartUp
    · exact h.commitReleased c

/-- The state after the skip of a failed attempt (R156). -/
def commitSkipped (s : State) : State :=
  ({ s with jrnl := { s.jrnl with nextPos := nextRing s.jrnl.nextPos } } : State).bump CondId.journalSkips

/-- The commit is given up. -/
def commitDropped (s : State) : State :=
  { commitSkipped s with jrnl := { (commitSkipped s).jrnl with commit := none } }

theorem commitFail_eq {s : State} {c : Commit} (h : s.jrnl.commit = some c) :
    commitFail s =
      if s.jrnl.mode == .readOnly then commitDropped s
      else if c.attempts < 4 then commitSkipped s
      else if s.jrnl.mode == .starting then endStartUp (becomeReadOnly (commitDropped s))
      else becomeReadOnly (commitDropped s) := by
  unfold commitFail
  split
  · rename_i h'
    rw [h] at h'
    cases h'
  · rename_i c' h'
    cases h.symm.trans h'
    rfl

theorem MidOk.commitFail {s : State} (h : MidOk s) : MidOk (commitFail s) := by
  have hskip : MidOk (commitSkipped s) := h.congr rfl rfl rfl (.inl rfl) (.inl rfl) (.inl rfl)
  have hdrop : MidOk (commitDropped s) := h.congr rfl rfl rfl (.inl rfl) (.inl rfl) (.inl rfl)
  cases hc : s.jrnl.commit with
  | none =>
    unfold Machine.commitFail
    simpa only [hc] using h
  | some c =>
    rw [commitFail_eq hc]
    split
    · exact hdrop
    · split
      · exact hskip
      · split
        · exact hdrop.becomeReadOnly.endStartUp
        · exact hdrop.becomeReadOnly

theorem MidOk.programDone {s : State} (h : MidOk s) (o : ArrayOp) (out : ProgramOutcome)
    (ha : ∀ n, o.requester = .tag n → (s.tag n).state = .active) (hop : s.array.op = none) :
    MidOk (programDone o out s) := by
  unfold Machine.programDone
  dsimp only
  split
  · rename_i n hr
    exact h.tagProgramDone n _ _ _ _ (ha n hr) hop
  · exact h.patrolProgramDone _ _ _ _ hop
  · split
    · exact h.commitPass
    · exact h.commitFail
  · exact h.orphanProgramDone _ _ _ _ _ hop

/-! ## The arrival counter in a completion -/

theorem tagReadDone_arrival (n : TagNo) (o : ArrayOp) (out : ReadOutcome) (s : State) :
    (tagReadDone n o out s).req.arrival = s.req.arrival := by
  unfold tagReadDone tagReadFinal readTagFinal endRead
  dsimp only
  (repeat' split) <;> simp

theorem patrolReadDone_arrival (o : ArrayOp) (out : ReadOutcome) (s : State) :
    (patrolReadDone o out s).req.arrival = s.req.arrival := by
  unfold patrolReadDone
  dsimp only
  (repeat' split) <;> simp [fillBuffer_eq]

theorem endScan_req (s : State) : (endScan s).req = s.req := by
  unfold endScan
  split
  · simp [loadImage, endStartUp]
  · simp [freshState]

theorem ringTaken_req (o : ArrayOp) (out : ReadOutcome) (s : State) : (ringTaken o out s).req = s.req := by
  unfold ringTaken
  split
  · rfl
  · split
    · rcases considerImage_cases (o.pbn - 4064) _
        { s with jrnl := { s.jrnl with imageBuffer := ringContent s o.pbn } } with e | e <;> rw [e]
    · rfl
    · rfl

theorem ringReadDone_req (o : ArrayOp) (out : ReadOutcome) (s : State) : (ringReadDone o out s).req = s.req := by
  rw [ringReadDone_eq]
  split
  · exact ringTaken_req ..
  · rw [endScan_req, ringTaken_req]

theorem readDone_arrival (o : ArrayOp) (out : ReadOutcome) (s : State) :
    (readDone o out s).req.arrival = s.req.arrival := by
  unfold readDone
  split
  · exact tagReadDone_arrival ..
  · exact patrolReadDone_arrival ..
  · rw [ringReadDone_req]
  · unfold orphanReadDone
    split <;> simp

theorem tagBlockPasses_arrival (n : TagNo) (r : Bool) (s : State) :
    (tagBlockPasses n r s).req.arrival = s.req.arrival := by
  unfold tagBlockPasses afterPass
  dsimp only
  (repeat' split) <;> simp

theorem tagProgramDone_arrival (n : TagNo) (l pbn : Nat) (r : Bool) (out : ProgramOutcome) (s : State) :
    (tagProgramDone n l pbn r out s).req.arrival = s.req.arrival := by
  cases out <;> cases r <;> simp [tagProgramDone, tagOwes, tagBlockPasses_arrival]

theorem orphanProgramDone_arrival (l pbn : Nat) (r : Bool) (d : DataPlace) (out : ProgramOutcome) (s : State) :
    (orphanProgramDone l pbn r d out s).req.arrival = s.req.arrival := by
  cases out <;> cases r <;> simp [orphanProgramDone]

theorem patrolProgramDone_arrival (l pbn : Nat) (r : Bool) (out : ProgramOutcome) (s : State) :
    (patrolProgramDone l pbn r out s).req.arrival = s.req.arrival := by
  unfold patrolProgramDone
  split
  · cases out <;> cases r <;> simp [refreshDone, refreshOwes, endRefresh]
  · dsimp only
    split <;> simp [orphanProgramDone_arrival]

theorem commitPass_arrival (s : State) : (commitPass s).req.arrival = s.req.arrival := by
  cases hc : s.jrnl.commit with
  | none => simp [commitPass, hc]
  | some c =>
    rw [commitPass_eq hc]
    split <;> simp [endStartUp, commitReleased]

theorem commitFail_arrival (s : State) : (commitFail s).req.arrival = s.req.arrival := by
  cases hc : s.jrnl.commit with
  | none => simp [commitFail, hc]
  | some c =>
    rw [commitFail_eq hc]
    (repeat' split) <;> simp [endStartUp, commitSkipped, commitDropped]

theorem programDone_arrival (o : ArrayOp) (out : ProgramOutcome) (s : State) :
    (programDone o out s).req.arrival = s.req.arrival := by
  unfold programDone
  dsimp only
  split
  · exact tagProgramDone_arrival ..
  · exact patrolProgramDone_arrival ..
  · split
    · exact commitPass_arrival s
    · exact commitFail_arrival s
  · exact orphanProgramDone_arrival ..

/-! ## Every command -/

/-- The tag whose operation completes is ACTIVE. -/
theorem QueueInv.requester_active {s : State} (h : QueueInv s) {o : ArrayOp} (ho : s.array.op = some o) (n : TagNo)
    (hr : o.requester = .tag n) : (s.tag n).state = .active := h.eventOk.opActive n (opTag_of_op ho hr)

theorem readBlockCompletion_inv {s t : State} (h : QueueInv s) (out : ReadOutcome)
    (ht : execReadBlockCompletion out s = .next t) : QueueInv t := by
  unfold execReadBlockCompletion at ht
  have e := next_inj ht
  subst e
  split
  · rename_i o ho
    split
    · have hm : MidOk (idleUnit s) :=
        h.midOk.congr rfl rfl rfl (.inr rfl) (.inl rfl) (.inl rfl)
      exact settle_inv h (hm.readDone o out (fun n hr => by simpa using h.requester_active ho n hr) rfl)
        (readDone_arrival ..)
    · exact h
  · exact h

theorem programBlockCompletion_inv {s t : State} (h : QueueInv s) (out : ProgramOutcome)
    (ht : execProgramBlockCompletion out s = .next t) : QueueInv t := by
  unfold execProgramBlockCompletion at ht
  have e := next_inj ht
  subst e
  split
  · rename_i o ho
    split
    · have hm : MidOk { s with array := { storeProgram o out s.array with op := none } } :=
        h.midOk.congr rfl rfl rfl (.inr rfl) (.inl rfl) (.inl rfl)
      exact settle_inv h (hm.programDone o out (fun n hr => h.requester_active ho n hr) rfl) (programDone_arrival ..)
    · exact h
  · exact h

theorem powerOnReset_inv {s t : State} (ht : execPowerOnReset s = .next t) : QueueInv t := by
  have e := next_inj ht
  subst e
  exact queueInv_of_free (fun u => reset_tag u) rfl rfl rfl rfl rfl (opTag_of_idle (losePower_op s.array))

theorem exec_inv {s t : State} (c : Instr) (h : QueueInv s) (ht : exec c s = .next t) : QueueInv t := by
  cases c with
  | submission v => exact busAccess_inv h (submit_inv h v) ht
  | abortRequest v => exact busAccess_inv h (requestAbort_inv h v) ht
  | ptagWrite v => exact busAccess_inv h (h.kept rfl rfl rfl rfl rfl (.inl rfl)) ht
  | pdataRead => exact busAccess_inv h (readPort_inv h) ht
  | pdataWrite v => exact busAccess_inv h (writePort_inv h v) ht
  | svcnextPop => exact busAccess_inv h (pop_inv h) ht
  | patrolSegment | patrolPass | patrolAuto =>
    exact busAccess_inv h (requestCommand_inv h _ _ (takeStart_inv h _ _)) ht
  | patrolStop => exact busAccess_inv h (requestStop_inv h) ht
  | reportBuild => exact busAccess_inv h (requestCommand_inv h _ _ (takeReport_inv h)) ht
  | reportBuildCompletion =>
    have e := next_inj ht
    subst e
    split
    · exact finishReport_inv h _
    all_goals exact h
  | thresholdLoad => exact busAccess_inv h (requestCommand_inv h _ _ (takeThresholds_inv h)) ht
  | conditionSave => exact busAccess_inv h (requestCommand_inv h _ _ (takeSave_inv h)) ht
  | badCommand v => exact busAccess_inv h (writeCmd_inv h v) ht
  | rdataRead => exact busAccess_inv h (readReport_inv h) ht
  | rdataWrite v => exact busAccess_inv h (writeReport_inv h v) ht
  | acauseWrite v => exact busAccess_inv h (clearCauses_inv h v) ht
  | aenableWrite v => exact busAccess_inv h (h.kept rfl rfl rfl rfl rfl (.inl rfl)) ht
  | cfgaWrite v => exact busAccess_inv h (writeCfga_inv h v) ht
  | cfgbWrite v => exact busAccess_inv h (h.kept rfl rfl rfl rfl rfl (.inl rfl)) ht
  | registerWrite a v => exact busAccess_inv h (writeRegister_inv h a v) ht
  | softReset => exact busAccess_inv h (softReset_inv h) ht
  | powerOnReset => exact powerOnReset_inv ht
  | startUp =>
    have e := next_inj ht
    subst e
    split
    · exact startScan_inv h
    · exact h
  | readBlockCompletion out => exact readBlockCompletion_inv h out ht
  | programBlockCompletion out => exact programBlockCompletion_inv h out ht
  | quietTimerExpiry =>
    have e := next_inj ht
    subst e
    split
    · exact arbitrate_inv (quietOver_inv h)
    · exact h
  | gapTimerExpiry =>
    have e := next_inj ht
    subst e
    split
    · exact arbitrate_inv (gapOver_inv h)
    · exact h

/-- Settles O56: what holds of the tags in the middle of an event (`MidOk`) is kept by the effects of every command, and
the close of the event and the arbiter's choice restore the rest. -/
theorem queueAndServiceListKept : Obligations.QueueAndServiceListKept := by
  intro s h t ht
  have hinv : QueueInv s := h
  unfold step at ht
  split at ht
  · cases next_inj ht
    exact h
  · rename_i c cs _
    refine exec_inv c ?_ ht
    exact hinv.kept rfl rfl rfl rfl rfl (.inl rfl)

end Sys2Proof.Machine
end

section
/-! PROOFS. O3: the registers that change by their own commands and the resets alone. -/
namespace Sys2Proof.Machine

/-- The registers of O3, in the groups that change together. -/
inductive RegGroup
  | enable | qlbn | qcount | submission | abort | attached | miss | readout | rptr | buffer | config | resume | result
  deriving DecidableEq

/-- The registers of a group are as before. -/
def RegGroup.kept (s t : State) : RegGroup → Prop
  | .enable => t.attn.enable = s.attn.enable
  | .qlbn => t.req.qlbn = s.req.qlbn
  | .qcount => t.req.qcount = s.req.qcount
  | .submission => t.req.qctrl = s.req.qctrl ∧ t.req.qresult = s.req.qresult ∧ t.req.qresultTag = s.req.qresultTag
  | .abort => t.req.qabort = s.req.qabort ∧ t.req.abortIgnored = s.req.abortIgnored
  | .attached => t.port.attached = s.port.attached
  | .miss => t.port.miss = s.port.miss
  | .readout => t.svc.readout = s.svc.readout
  | .rptr => t.cmd.rptr = s.cmd.rptr
  | .buffer => t.cmd.buffer = s.cmd.buffer
  | .config => t.cfg = s.cfg
  | .resume => t.patrol.resume = s.patrol.resume
  | .result => t.cmd.result = s.cmd.result ∧ t.cmd.resultCode = s.cmd.resultCode

/-- The registers outside the groups `own` are as before. -/
structure RegsKept (own : List RegGroup) (s t : State) : Prop where
  kept : ∀ g, g ∉ own → g.kept s t

theorem RegsKept.refl (own : List RegGroup) (s : State) : RegsKept own s s := by
  refine ⟨fun g _ => ?_⟩
  cases g <;> simp [RegGroup.kept]

theorem RegGroup.kept_trans {g : RegGroup} {s t u : State} (h : g.kept s t) (h' : g.kept t u) : g.kept s u := by
  cases g <;> simp only [RegGroup.kept] at h h' ⊢ <;> simp [h, h']

theorem RegsKept.trans {own : List RegGroup} {s t u : State} (h : RegsKept own s t) (h' : RegsKept own t u) :
    RegsKept own s u := ⟨fun g hg => RegGroup.kept_trans (h.kept g hg) (h'.kept g hg)⟩

theorem RegsKept.mono {own own' : List RegGroup} {s t : State} (h : RegsKept own s t) (ho : own ⊆ own') :
    RegsKept own' s t := ⟨fun g hg => h.kept g fun hm => hg (ho hm)⟩

/-! ## The shared operations -/

theorem arbitrate_regs (s : State) : RegsKept [] s (arbitrate s) := by
  refine ⟨fun g _ => ?_⟩
  cases g <;> simp [RegGroup.kept]

theorem settle_regs (s₀ s : State) : RegsKept [] s (settle s₀ s) := by
  refine ⟨fun g _ => ?_⟩
  cases g <;> simp [RegGroup.kept]

/-- The close of an event keeps what the event's own effects keep. -/
theorem RegsKept.settle {own : List RegGroup} {s t : State} (h : RegsKept own s t) (s₀ : State) :
    RegsKept own s (settle s₀ t) := h.trans ((settle_regs s₀ t).mono (List.nil_subset _))

theorem RegsKept.arbitrate {own : List RegGroup} {s t : State} (h : RegsKept own s t) : RegsKept own s (arbitrate t) :=
  h.trans ((arbitrate_regs t).mono (List.nil_subset _))

theorem becomeReadOnly_regs (s : State) : RegsKept [.resume, .result] s (becomeReadOnly s) := by
  refine ⟨fun g hg => ?_⟩
  cases g <;> simp at hg <;> simp [RegGroup.kept]

theorem checkSequence_regs (s : State) : RegsKept [.resume, .result] s (checkSequence s) := by
  unfold checkSequence
  split
  · exact becomeReadOnly_regs s
  · exact .refl ..

theorem completeCommand_regs (code : BitVec 8) (r : CmdResult) (s : State) :
    RegsKept [.resume, .result] s (completeCommand code r s) := by
  refine ⟨fun g hg => ?_⟩
  cases g <;> simp at hg <;> simp [RegGroup.kept]

theorem latch_regs (c : Cause) (s : State) : RegsKept [] s (latch c s) := by
  refine ⟨fun g _ => ?_⟩
  cases g <;> simp [RegGroup.kept]

/-! ## Requests, port and service list -/

theorem accept_regs (v : Word) (k : Kind) (s : State) : RegsKept [.submission] s (accept v k s) := by
  have hn : RegsKept [.submission] s (numbered s) := by
    unfold numbered
    split
    · refine ⟨fun g _ => ?_⟩
      cases g <;> simp [RegGroup.kept, renumber]
    · exact .refl ..
  rw [accept_eq]
  refine hn.trans ⟨fun g _ => ?_⟩
  cases g <;> simp [RegGroup.kept, enqueued, endQuiet]

theorem setQResult_regs (v : Word) (r : QResult) (s : State) : RegsKept [.submission] s (setQResult v r s) := by
  refine ⟨fun g hg => ?_⟩
  cases g <;> simp at hg <;> simp [RegGroup.kept, setQResult]

theorem submit_regs (v : Word) (s : State) : RegsKept [.submission] s (submit v s) := by
  unfold submit
  split
  · exact setQResult_regs ..
  · exact ((accept_regs ..).trans (setQResult_regs ..)).settle _

theorem setAbortIgnored_regs (b : Bool) (s : State) : RegsKept [.abort] s (setAbortIgnored b s) := by
  refine ⟨fun g hg => ?_⟩
  cases g <;> simp at hg <;> simp [RegGroup.kept, setAbortIgnored]

theorem abortTags_regs (l : List TagNo) (s : State) : RegsKept [.abort] s (l.foldl abortTag s) := by
  refine ⟨fun g _ => ?_⟩
  cases g <;> simp [RegGroup.kept]

theorem abortOne_regs (n : TagNo) (s : State) : RegsKept [.abort] s (abortOne n s) := by
  unfold abortOne
  dsimp only
  split
  · exact setAbortIgnored_regs ..
  · exact .refl ..
  all_goals
    split
    · exact .refl ..
    · exact (abortTags_regs [n] s).trans (setAbortIgnored_regs ..)

theorem abortEvery_regs (s : State) : RegsKept [.abort] s (abortEvery s) := by
  unfold abortEvery
  split
  · exact setAbortIgnored_regs ..
  · dsimp only
    split
    · exact (abortTags_regs _ s).trans (setAbortIgnored_regs ..)
    · exact abortTags_regs _ s

theorem requestAbort_regs (v : Word) (s : State) : RegsKept [.abort] s (requestAbort v s) := by
  have h₁ : RegsKept [.abort] s { s with req := { s.req with qabort := v } } := ⟨fun g hg => by
    cases g <;> simp at hg <;> simp [RegGroup.kept]⟩
  unfold requestAbort
  dsimp only
  refine RegsKept.settle ?_ _
  split
  · exact h₁.trans (abortEvery_regs _)
  · split
    · exact h₁.trans (abortOne_regs ..)
    · exact h₁.trans (setAbortIgnored_regs ..)

theorem portMiss_regs (s : State) : RegsKept [.miss] s (portMiss s) := by
  refine ⟨fun g hg => ?_⟩
  cases g <;> simp at hg <;> simp [RegGroup.kept]

theorem deliver_regs (n : TagNo) (k : SlotNo) (s : State) : RegsKept [] s (deliver n k s) := by
  unfold deliver
  dsimp only
  refine ⟨fun g _ => ?_⟩
  split <;> cases g <;> simp [RegGroup.kept]

theorem drive_regs (w : Word) (s : State) : RegsKept [] s (drive w s) := by
  refine ⟨fun g _ => ?_⟩
  cases g <;> simp [RegGroup.kept]

theorem setSlot_regs (s : State) (k : SlotNo) (x : Slot) : RegsKept [] s (s.setSlot k x) := by
  refine ⟨fun g _ => ?_⟩
  cases g <;> simp [RegGroup.kept]

theorem readPort_regs (s : State) : RegsKept [.miss] s (readPort s) := by
  unfold readPort
  split
  · exact (portMiss_regs s).trans ((drive_regs ..).mono (List.nil_subset _))
  · dsimp only
    refine RegsKept.mono (own := []) ?_ (List.nil_subset _)
    split
    · exact (drive_regs ..).trans (setSlot_regs ..)
    · exact ((drive_regs ..).trans (deliver_regs ..)).settle _

theorem writePort_regs (v : Word) (s : State) : RegsKept [.miss] s (writePort v s) := by
  unfold writePort
  split
  · exact portMiss_regs s
  · dsimp only
    refine RegsKept.mono (own := []) ?_ (List.nil_subset _)
    split
    · exact setSlot_regs ..
    · refine RegsKept.settle ⟨fun g _ => ?_⟩ _
      cases g <;> simp [RegGroup.kept, receive]

theorem attach_regs (v : Word) (s : State) : RegsKept [.attached, .miss] s (attach v s) := by
  refine ⟨fun g hg => ?_⟩
  cases g <;> simp at hg <;> simp [RegGroup.kept, attach]

theorem pop_regs (s : State) : RegsKept [.readout] s (pop s) := by
  unfold pop
  dsimp only
  refine ⟨fun g hg => ?_⟩
  split <;> cases g <;> simp at hg <;> simp [RegGroup.kept, collect]

/-! ## The Command Unit -/

theorem requestCommand_regs (c : Command) (take : State → State) (s : State)
    (h : RegsKept [.resume, .result] s (take s)) : RegsKept [.resume, .result] s (requestCommand c take s) := by
  unfold requestCommand
  split
  · exact (latch_regs ..).mono (List.nil_subset _)
  · split
    · exact completeCommand_regs ..
    · split
      · exact completeCommand_regs ..
      · exact h

theorem takeStart_regs (c : Command) (m : PatrolMode) (s : State) : RegsKept [.resume, .result] s (takeStart c m s) := by
  have h : RegsKept [.resume, .result] s (startPatrol m s) := ⟨fun g _ => by
    cases g <;> simp [RegGroup.kept]⟩
  exact (h.trans (completeCommand_regs ..)).arbitrate

theorem requestStop_regs (s : State) : RegsKept [.resume, .result] s (requestStop s) := by
  have h : RegsKept [.resume, .result] s (stopPatrol s) := ⟨fun g _ => by
    cases g <;> simp [RegGroup.kept]⟩
  exact requestCommand_regs _ _ s (h.trans (completeCommand_regs ..))

theorem requestReport_regs (s : State) : RegsKept [.resume, .result] s (requestReport s) := by
  refine requestCommand_regs _ _ s ⟨fun g _ => ?_⟩
  cases g <;> simp [RegGroup.kept, takeReport]

theorem waitForCommit_regs (r : Nat → Running) (s : State) : RegsKept [.resume, .result] s (waitForCommit r s) := by
  have h : RegsKept [.resume, .result] s
      (commitReason { s with cmd := { s.cmd with running := some (r (neededNow s)) } }) := ⟨fun g _ => by
    cases g <;> simp [RegGroup.kept]⟩
  exact h.trans (checkSequence_regs _)

theorem requestThresholds_regs (s : State) : RegsKept [.resume, .result] s (requestThresholds s) := by
  refine requestCommand_regs _ _ s ?_
  unfold takeThresholds
  split
  · have h : RegsKept [.resume, .result] s (loadThresholds s) := ⟨fun g _ => by
      cases g <;> simp [RegGroup.kept, loadThresholds]⟩
    exact (h.trans (waitForCommit_regs ..)).settle _
  · exact completeCommand_regs ..

theorem requestSave_regs (s : State) : RegsKept [.resume, .result] s (requestSave s) :=
  requestCommand_regs _ _ s ((waitForCommit_regs ..).settle _)

theorem writeCmd_regs (v : Word) (s : State) : RegsKept [.resume, .result] s (writeCmd v s) := by
  unfold writeCmd
  cases commandOf (lowByte v) with
  | none =>
    unfold refuseCode
    dsimp only
    split
    · exact (latch_regs ..).mono (List.nil_subset _)
    · exact completeCommand_regs ..
  | some c =>
    cases c with
    | patrolSegment | patrolPass | patrolAuto => exact requestCommand_regs _ _ s (takeStart_regs ..)
    | patrolStop => exact requestStop_regs s
    | reportBuild => exact requestReport_regs s
    | thresholdLoad => exact requestThresholds_regs s
    | conditionSave => exact requestSave_regs s

theorem readReport_regs (s : State) : RegsKept [.rptr] s (readReport s) := by
  unfold readReport
  refine ⟨fun g hg => ?_⟩
  split <;> cases g <;> simp at hg <;> simp [RegGroup.kept, advancePointer]

theorem writeReport_regs (v : Word) (s : State) : RegsKept [.rptr, .buffer] s (writeReport v s) := by
  unfold writeReport
  refine ⟨fun g hg => ?_⟩
  split <;> cases g <;> simp at hg <;> simp [RegGroup.kept, advancePointer]

theorem finishReport_regs (r : Vector Word 256) (s : State) : RegsKept [.buffer, .result] s (finishReport r s) := by
  refine ⟨fun g hg => ?_⟩
  cases g <;> simp at hg <;> simp [RegGroup.kept, finishReport]

/-! ## Registers, timers and resets -/

theorem writeCfga_regs (v : Word) (s : State) : RegsKept [.config] s (writeCfga v s) := by
  unfold writeCfga
  dsimp only
  refine ⟨fun g hg => ?_⟩
  split <;> cases g <;> simp at hg <;> simp [RegGroup.kept]

theorem writeCfgb_regs (v : Word) (s : State) : RegsKept [.config] s (writeCfgb v s) := by
  refine ⟨fun g hg => ?_⟩
  cases g <;> simp at hg <;> simp [RegGroup.kept, writeCfgb]

theorem setEnable_regs (v : Word) (s : State) : RegsKept [.enable] s (setEnable v s) := by
  refine ⟨fun g hg => ?_⟩
  cases g <;> simp at hg <;> simp [RegGroup.kept, setEnable]

theorem clearCauses_regs (v : Word) (s : State) : RegsKept [] s (clearCauses v s) := by
  refine ⟨fun g _ => ?_⟩
  cases g <;> simp [RegGroup.kept, clearCauses]

/-- The registers that a soft reset may change: all but AENABLE (R198). -/
def resetRegs : List RegGroup :=
  [.qlbn, .qcount, .submission, .abort, .attached, .miss, .readout, .rptr, .buffer, .config, .resume, .result]

theorem softReset_regs (s : State) : RegsKept resetRegs s (softReset s) := by
  refine ⟨fun g hg => ?_⟩
  cases g <;> simp [resetRegs] at hg
  unfold softReset
  split <;> simp [RegGroup.kept, resetBlocks]

/-- The registers that a write to a register address may change (R185). -/
def ownAt (a : RegAddr) : List RegGroup :=
  if a = 0x03 then [.enable]
  else if a = 0x04 then [.qlbn]
  else if a = 0x05 then [.qcount]
  else if a = 0x06 then [.submission]
  else if a = 0x09 then [.attached, .miss]
  else if a = 0x0B then [.miss]
  else if a = 0x0C then [.abort]
  else if a = 0x0D then [.resume, .result]
  else if a = 0x13 then [.rptr]
  else if a = 0x14 then [.rptr, .buffer]
  else if a = 0x15 ∨ a = 0x16 ∨ a = 0x17 then [.config]
  else if a = 0x19 then resetRegs
  else []

theorem writeRegister_regs (a : RegAddr) (v : Word) (s : State) : RegsKept (ownAt a) s (writeRegister a v s) := by
  have addr : ∀ {b : RegAddr}, a.toNat = b.toNat → a = b := BitVec.eq_of_toNat_eq
  have field : ∀ {b : RegAddr} {t : State}, a.toNat = b.toNat → RegsKept (ownAt b) s t → RegsKept (ownAt a) s t :=
    fun e h => addr e ▸ h
  unfold writeRegister
  split
  · exact (clearCauses_regs v s).mono (List.nil_subset _)
  case h_2 h => exact field (b := 0x03) h (setEnable_regs v s)
  case h_3 h =>
    refine field (b := 0x04) h ⟨fun g hg => ?_⟩
    cases g <;> simp [ownAt] at hg <;> simp [RegGroup.kept]
  case h_4 h =>
    refine field (b := 0x05) h ⟨fun g hg => ?_⟩
    cases g <;> simp [ownAt] at hg <;> simp [RegGroup.kept]
  case h_5 h => exact field (b := 0x06) h (submit_regs v s)
  case h_6 h => exact field (b := 0x09) h (attach_regs v s)
  case h_7 h => exact field (b := 0x0B) h (writePort_regs v s)
  case h_8 h => exact field (b := 0x0C) h (requestAbort_regs v s)
  case h_9 h => exact field (b := 0x0D) h (writeCmd_regs v s)
  case h_10 h =>
    refine field (b := 0x13) h ⟨fun g hg => ?_⟩
    cases g <;> simp [ownAt] at hg <;> simp [RegGroup.kept]
  case h_11 h => exact field (b := 0x14) h (writeReport_regs v s)
  case h_12 h => exact field (b := 0x15) h (writeCfga_regs v s)
  case h_13 h => exact field (b := 0x16) h (writeCfgb_regs v s)
  case h_14 h =>
    refine field (b := 0x17) h ⟨fun g hg => ?_⟩
    cases g <;> simp [ownAt] at hg <;> simp [RegGroup.kept]
  case h_15 h =>
    refine field (b := 0x19) h ?_
    split
    · exact softReset_regs s
    · exact .refl ..
  · exact .refl ..

/-! ## The completions of the array's operations -/

theorem tagReadDone_regs (n : TagNo) (o : ArrayOp) (out : ReadOutcome) (s : State) :
    RegsKept [] s (tagReadDone n o out s) := by
  refine ⟨fun g _ => ?_⟩
  unfold tagReadDone tagReadFinal readTagFinal endRead
  dsimp only
  cases g <;> (repeat' split) <;> simp [RegGroup.kept]

theorem patrolReadDone_regs (o : ArrayOp) (out : ReadOutcome) (s : State) :
    RegsKept [.resume, .result] s (patrolReadDone o out s) := by
  refine ⟨fun g hg => ?_⟩
  unfold patrolReadDone
  dsimp only
  cases g <;> simp at hg <;> (repeat' split) <;> simp [RegGroup.kept, fillBuffer_eq]

theorem ringTaken_regs (o : ArrayOp) (out : ReadOutcome) (s : State) : RegsKept [] s (ringTaken o out s) := by
  have hconsider : ∀ p i t, RegsKept [] t (considerImage p i t) := fun p i t => ⟨fun g _ => by
    rcases considerImage_cases p i t with e | e <;> rw [e] <;> cases g <;> simp [RegGroup.kept]⟩
  have hbuf : ∀ b, RegsKept [] s { s with jrnl := { s.jrnl with imageBuffer := b } } := fun b => ⟨fun g _ => by
    cases g <;> simp [RegGroup.kept]⟩
  unfold ringTaken
  split
  · exact .refl ..
  · split
    · exact (hbuf _).trans (hconsider ..)
    · exact hbuf _
    · exact hbuf _

theorem endScan_regs (s : State) : RegsKept [.resume, .result] s (endScan s) := by
  refine ⟨fun g hg => ?_⟩
  unfold endScan
  cases g <;> simp at hg <;> split <;> simp [RegGroup.kept, loadImage, endStartUp, freshState]

theorem ringReadDone_regs (o : ArrayOp) (out : ReadOutcome) (s : State) :
    RegsKept [.resume, .result] s (ringReadDone o out s) := by
  have h := (ringTaken_regs o out s).mono (List.nil_subset [.resume, .result])
  rw [ringReadDone_eq]
  split
  · refine h.trans ⟨fun g _ => ?_⟩
    cases g <;> simp [RegGroup.kept]
  · exact h.trans (endScan_regs _)

theorem readDone_regs (o : ArrayOp) (out : ReadOutcome) (s : State) :
    RegsKept [.resume, .result] s (readDone o out s) := by
  unfold readDone
  split
  · exact (tagReadDone_regs ..).mono (List.nil_subset _)
  · exact patrolReadDone_regs ..
  · exact ringReadDone_regs ..
  · refine ⟨fun g _ => ?_⟩
    unfold orphanReadDone
    cases g <;> split <;> simp [RegGroup.kept]

theorem tagBlockPasses_regs (n : TagNo) (r : Bool) (s : State) : RegsKept [] s (tagBlockPasses n r s) := by
  refine ⟨fun g _ => ?_⟩
  unfold tagBlockPasses afterPass
  dsimp only
  cases g <;> (repeat' split) <;> simp [RegGroup.kept]

theorem tagProgramDone_regs (n : TagNo) (l pbn : Nat) (r : Bool) (out : ProgramOutcome) (s : State) :
    RegsKept [.resume, .result] s (tagProgramDone n l pbn r out s) := by
  have hpass : ∀ r' t, RegsKept [.resume, .result] t (tagBlockPasses n r' t) := fun r' t =>
    (tagBlockPasses_regs n r' t).mono (List.nil_subset _)
  have hfail : ∀ t, RegsKept [.resume, .result] t (tagOwes n t) := fun t => ⟨fun g _ => by
    cases g <;> simp [RegGroup.kept, tagOwes]⟩
  have hresolve : ∀ t, RegsKept [.resume, .result] t (resolveOwed t) := fun t => ⟨fun g _ => by
    cases g <;> simp [RegGroup.kept]⟩
  cases out <;> cases r
  case pass.false =>
    refine RegsKept.trans ⟨fun g _ => ?_⟩ (hpass false _)
    cases g <;> simp [RegGroup.kept]
  case fail.false =>
    refine RegsKept.trans ⟨fun g _ => ?_⟩ (hfail _)
    cases g <;> simp [RegGroup.kept]
  case pass.true =>
    refine RegsKept.trans ?_ (((hpass true _).trans (hresolve _)).trans (checkSequence_regs _))
    refine ⟨fun g _ => ?_⟩
    cases g <;> simp [RegGroup.kept]
  case fail.true =>
    refine RegsKept.trans ?_ ((hfail _).trans (checkSequence_regs _))
    refine ⟨fun g _ => ?_⟩
    cases g <;> simp [RegGroup.kept]

theorem orphanProgramDone_regs (l pbn : Nat) (r : Bool) (d : DataPlace) (out : ProgramOutcome) (s : State) :
    RegsKept [.resume, .result] s (orphanProgramDone l pbn r d out s) := by
  refine ⟨fun g hg => ?_⟩
  cases out <;> cases r <;> cases g <;> simp at hg <;> simp [RegGroup.kept, orphanProgramDone]

theorem patrolProgramDone_regs (l pbn : Nat) (r : Bool) (out : ProgramOutcome) (s : State) :
    RegsKept [.resume, .result] s (patrolProgramDone l pbn r out s) := by
  unfold patrolProgramDone
  split
  · refine ⟨fun g hg => ?_⟩
    cases out <;> cases r <;> cases g <;> simp at hg <;>
      simp [RegGroup.kept, refreshDone, refreshOwes, endRefresh]
  · dsimp only
    split
    · refine (orphanProgramDone_regs l pbn r .none out s).trans ⟨fun g _ => ?_⟩
      cases g <;> simp [RegGroup.kept]
    · exact orphanProgramDone_regs l pbn r .none out s

theorem endStartUp_regs (s : State) : RegsKept [] s (endStartUp s) := by
  refine ⟨fun g _ => ?_⟩
  cases g <;> simp [RegGroup.kept, endStartUp]

theorem commitReleased_regs (c : Commit) (s : State) : RegsKept [.resume, .result] s (commitReleased c s) := by
  refine ⟨fun g hg => ?_⟩
  cases g <;> simp at hg <;> simp [RegGroup.kept, commitReleased]

theorem commitPass_regs (s : State) : RegsKept [.resume, .result] s (commitPass s) := by
  cases hc : s.jrnl.commit with
  | none =>
    simp only [commitPass, hc]
    exact .refl ..
  | some c =>
    rw [commitPass_eq hc]
    split
    · exact (commitReleased_regs c s).trans ((endStartUp_regs _).mono (List.nil_subset _))
    · exact commitReleased_regs c s

theorem commitFail_regs (s : State) : RegsKept [.resume, .result] s (commitFail s) := by
  have hdrop : RegsKept [.resume, .result] s (commitDropped s) := ⟨fun g _ => by
    cases g <;> simp [RegGroup.kept, commitDropped, commitSkipped]⟩
  have hskip : RegsKept [.resume, .result] s (commitSkipped s) := ⟨fun g _ => by
    cases g <;> simp [RegGroup.kept, commitSkipped]⟩
  have hread := hdrop.trans (becomeReadOnly_regs (commitDropped s))
  cases hc : s.jrnl.commit with
  | none =>
    simp only [commitFail, hc]
    exact .refl ..
  | some c =>
    rw [commitFail_eq hc]
    split
    · exact hdrop
    · split
      · exact hskip
      · split
        · exact hread.trans ((endStartUp_regs _).mono (List.nil_subset _))
        · exact hread

theorem programDone_regs (o : ArrayOp) (out : ProgramOutcome) (s : State) :
    RegsKept [.resume, .result] s (programDone o out s) := by
  unfold programDone
  dsimp only
  split
  · exact tagProgramDone_regs ..
  · exact patrolProgramDone_regs ..
  · split
    · exact commitPass_regs s
    · exact commitFail_regs s
  · exact orphanProgramDone_regs ..

/-! ## Every command -/

/-- The registers that a command may change. -/
def Instr.own : Instr → List RegGroup
  | .submission _ => [.submission]
  | .abortRequest _ => [.abort]
  | .ptagWrite _ => [.attached, .miss]
  | .pdataRead | .pdataWrite _ => [.miss]
  | .svcnextPop => [.readout]
  | .patrolSegment _ | .patrolPass _ | .patrolAuto _ | .patrolStop _ | .reportBuild _ | .thresholdLoad _
  | .conditionSave _ | .badCommand _ | .readBlockCompletion _ | .programBlockCompletion _ => [.resume, .result]
  | .reportBuildCompletion => [.buffer, .result]
  | .rdataRead => [.rptr]
  | .rdataWrite _ => [.rptr, .buffer]
  | .acauseWrite _ | .startUp | .quietTimerExpiry | .gapTimerExpiry => []
  | .aenableWrite _ => [.enable]
  | .cfgaWrite _ | .cfgbWrite _ => [.config]
  | .registerWrite a _ => ownAt a
  | .softReset | .powerOnReset => resetRegs

theorem busAccess_regs {own : List RegGroup} {s t : State} {f : State → State} (h : RegsKept own s (f s))
    (ht : busAccess s f = .next t) : RegsKept own s t := by
  cases hr : s.rstnLow with
  | true =>
    rw [busAccess_low s f hr] at ht
    cases next_inj ht
    exact .refl ..
  | false =>
    rw [busAccess_high s f hr] at ht
    cases next_inj ht
    exact h

theorem readBlockCompletion_regs {out : ReadOutcome} {s t : State} (ht : execReadBlockCompletion out s = .next t) :
    RegsKept [.resume, .result] s t := by
  cases next_inj ht
  split
  · split
    · refine RegsKept.settle (RegsKept.trans ⟨fun g _ => ?_⟩ (readDone_regs ..)) s
      cases g <;> simp [RegGroup.kept]
    · exact .refl ..
  · exact .refl ..

theorem programBlockCompletion_regs {out : ProgramOutcome} {s t : State}
    (ht : execProgramBlockCompletion out s = .next t) : RegsKept [.resume, .result] s t := by
  cases next_inj ht
  split
  · split
    · refine RegsKept.settle (RegsKept.trans ⟨fun g _ => ?_⟩ (programDone_regs ..)) s
      cases g <;> simp [RegGroup.kept]
    · exact .refl ..
  · exact .refl ..

/-- A command changes none but its own registers. -/
theorem exec_regs {c : Instr} {s t : State} (hc : c ≠ .powerOnReset) (ht : exec c s = .next t) :
    RegsKept (Instr.own c) s t := by
  cases c with
  | submission v => exact busAccess_regs (submit_regs v s) ht
  | abortRequest v => exact busAccess_regs (requestAbort_regs v s) ht
  | ptagWrite v => exact busAccess_regs (attach_regs v s) ht
  | pdataRead => exact busAccess_regs (readPort_regs s) ht
  | pdataWrite v => exact busAccess_regs (writePort_regs v s) ht
  | svcnextPop => exact busAccess_regs (pop_regs s) ht
  | patrolSegment | patrolPass | patrolAuto =>
    exact busAccess_regs (requestCommand_regs _ _ s (takeStart_regs ..)) ht
  | patrolStop => exact busAccess_regs (requestStop_regs s) ht
  | reportBuild => exact busAccess_regs (requestReport_regs s) ht
  | reportBuildCompletion =>
    cases next_inj ht
    split
    · exact finishReport_regs ..
    all_goals exact .refl ..
  | thresholdLoad => exact busAccess_regs (requestThresholds_regs s) ht
  | conditionSave => exact busAccess_regs (requestSave_regs s) ht
  | badCommand v => exact busAccess_regs (writeCmd_regs v s) ht
  | rdataRead => exact busAccess_regs (readReport_regs s) ht
  | rdataWrite v => exact busAccess_regs (writeReport_regs v s) ht
  | acauseWrite v => exact busAccess_regs (clearCauses_regs v s) ht
  | aenableWrite v => exact busAccess_regs (setEnable_regs v s) ht
  | cfgaWrite v => exact busAccess_regs (writeCfga_regs v s) ht
  | cfgbWrite v => exact busAccess_regs (writeCfgb_regs v s) ht
  | registerWrite a v => exact busAccess_regs (writeRegister_regs a v s) ht
  | softReset => exact busAccess_regs (softReset_regs s) ht
  | powerOnReset => exact absurd rfl hc
  | startUp =>
    cases next_inj ht
    split
    · unfold startScan
      refine RegsKept.arbitrate ⟨fun g _ => ?_⟩
      cases g <;> simp [RegGroup.kept]
    · exact .refl ..
  | readBlockCompletion out => exact readBlockCompletion_regs ht
  | programBlockCompletion out => exact programBlockCompletion_regs ht
  | quietTimerExpiry =>
    cases next_inj ht
    split
    · refine RegsKept.arbitrate ⟨fun g _ => ?_⟩
      cases g <;> simp [RegGroup.kept]
    · exact .refl ..
  | gapTimerExpiry =>
    cases next_inj ht
    split
    · refine RegsKept.arbitrate ⟨fun g _ => ?_⟩
      cases g <;> simp [RegGroup.kept]
    · exact .refl ..

/-- The addresses whose writes change a group of registers: their own, and SRESET's. -/
def RegGroup.addrs : RegGroup → List RegAddr
  | .enable => [0x03]
  | .qlbn => [0x04, 0x19]
  | .qcount => [0x05, 0x19]
  | .submission => [0x06, 0x19]
  | .abort => [0x0C, 0x19]
  | .attached => [0x09, 0x19]
  | .miss => [0x09, 0x0B, 0x19]
  | .readout => [0x19]
  | .rptr => [0x13, 0x14, 0x19]
  | .buffer => [0x14, 0x19]
  | .config => [0x15, 0x16, 0x17, 0x19]
  | .resume | .result => [0x0D, 0x19]

theorem addr_of_mem_ownAt {g : RegGroup} {a : RegAddr} (h : g ∈ ownAt a) : a ∈ g.addrs :=
  (by decide : ∀ i : Fin 32, ∀ g ∈ ownAt (BitVec.ofFin i), BitVec.ofFin i ∈ g.addrs) a.toFin g h

/-- A command that is no write of one of a group's addresses, and whose own row does not change the group, keeps it. -/
theorem kept_of_exec {c : Instr} {s t : State} (g : RegGroup) (ht : exec c s = .next t) (hc : c ≠ .powerOnReset)
    (ha : ∀ a ∈ g.addrs, ∀ v, c ≠ .registerWrite a v)
    (hrow : (∀ a v, c ≠ .registerWrite a v) → g ∉ Instr.own c) : g.kept s t := by
  refine (exec_regs hc ht).kept g fun hm => ?_
  by_cases hr : ∃ a v, c = .registerWrite a v
  · obtain ⟨a, v, rfl⟩ := hr
    exact ha a (addr_of_mem_ownAt hm) v rfl
  · exact hrow (fun a v e => hr ⟨a, v, e⟩) hm

/-- Settles O3: every command changes the registers of its own groups alone (`exec_regs`). -/
theorem registersChangeByTheirOwnCommands : Obligations.RegistersChangeByTheirOwnCommands := by
  intro c s t ht hc
  refine ⟨fun h h3 => kept_of_exec .enable ht hc (by simpa [RegGroup.addrs] using h3) fun _ => ?_, fun hs h19 =>
    ⟨fun h4 => kept_of_exec .qlbn ht hc (by simpa [RegGroup.addrs] using ⟨h4, h19⟩) fun _ => ?_,
      fun h5 => kept_of_exec .qcount ht hc (by simpa [RegGroup.addrs] using ⟨h5, h19⟩) fun _ => ?_,
      fun h h6 => kept_of_exec .submission ht hc (by simpa [RegGroup.addrs] using ⟨h6, h19⟩) fun _ => ?_,
      fun h hC => kept_of_exec .abort ht hc (by simpa [RegGroup.addrs] using ⟨hC, h19⟩) fun _ => ?_,
      fun h h9 => kept_of_exec .attached ht hc (by simpa [RegGroup.addrs] using ⟨h9, h19⟩) fun _ => ?_,
      fun h h' hB hp h9 => kept_of_exec .miss ht hc (by simpa [RegGroup.addrs] using ⟨h9, hB, h19⟩) fun _ => ?_,
      fun h => kept_of_exec .readout ht hc (by simpa [RegGroup.addrs] using h19) fun _ => ?_,
      fun h h' h13 h14 => kept_of_exec .rptr ht hc (by simpa [RegGroup.addrs] using ⟨h13, h14, h19⟩) fun _ => ?_,
      fun h h14 hb => kept_of_exec .buffer ht hc (by simpa [RegGroup.addrs] using ⟨h14, h19⟩) fun _ => ?_,
      fun h h' h15 h16 h17 =>
        kept_of_exec .config ht hc (by simpa [RegGroup.addrs] using ⟨h15, h16, h17, h19⟩) fun _ => ?_,
      fun hw hr hp =>
        have h0D : ∀ v, c ≠ .registerWrite 0x0D v := fun v e => hw (e ▸ rfl)
        ⟨kept_of_exec .resume ht hc (by simpa [RegGroup.addrs] using ⟨h0D, h19⟩) fun _ => ?_,
          fun hb => kept_of_exec .result ht hc (by simpa [RegGroup.addrs] using ⟨h0D, h19⟩) fun _ => ?_⟩⟩⟩
  all_goals cases c <;> simp_all [Instr.own, resetRegs, writesCmd]

end Sys2Proof.Machine
end

section
/-! PROOFS. O8, O9, O10: SUBMISSION. -/
namespace Sys2Proof.Machine

/-! ## The check, order by order (R11) -/

theorem checkSubmission_notReady {v : Word} {s : State} (h : s.jrnl.mode = .starting) :
    checkSubmission v s = .error .notReady := by
  simp [checkSubmission, h]

theorem checkSubmission_tagBusy {v : Word} {s : State} (h : s.jrnl.mode ≠ .starting)
    (hf : (s.tag (tagField v)).state ≠ .free) : checkSubmission v s = .error .tagBusy := by
  simp [checkSubmission, h, hf]

/-- Past the first two orders the kind decides the rest. -/
theorem checkSubmission_kind {v : Word} {s : State} (h : s.jrnl.mode ≠ .starting)
    (hf : (s.tag (tagField v)).state = .free) :
    checkSubmission v s = match kindField v with
      | none => .error .badKind
      | some k =>
        if s.req.qcount.toNat = 0 ∨ maxBlocks k < s.req.qcount.toNat then .error .badCount
        else if 3968 < s.req.qlbn.toNat + s.req.qcount.toNat then .error .range
        else if k.writes && s.jrnl.mode == .readOnly then .error .writeProtected
        else .ok k := by
  unfold checkSubmission
  simp only [h, hf, beq_iff_eq, bne_self_eq_false, Bool.false_eq_true, if_false] <;> rfl

/-- The greatest count of a kind, by the kind's code (R11). -/
theorem maxBlocks_lt_iff (k : Kind) (count : Nat) :
    maxBlocks k < count ↔ (k.code ≤ 2 ∧ 16 < count) ∨ (3 ≤ k.code ∧ 256 < count) := by
  cases k <;> simp [maxBlocks, Kind.code]

theorem writes_iff_code (k : Kind) : k.writes = true ↔ k.code = 2 ∨ k.code = 4 := by
  cases k <;> simp [Kind.writes, Kind.code]

/-- A refused submission sets QCTRL and QRESULT alone. -/
theorem exec_submission_refused {v : Word} {s : State} {r : QResult} (hr : s.rstnLow = false)
    (h : checkSubmission v s = .error r) :
    exec (.submission v) s = .next { s with req := { s.req with qctrl := v, qresult := r, qresultTag := tagField v } } := by
  have hs : submit v s = setQResult v r s := by simp only [submit, h]
  exact (busAccess_high s _ hr).trans (by rw [hs]; rfl)

/-- The state of an accepted submission before the event closes. -/
def accepted (v : Word) (k : Kind) (s : State) : State := setQResult v .accepted (accept v k s)

theorem exec_submission_accepted {v : Word} {s : State} {k : Kind} (hr : s.rstnLow = false)
    (h : checkSubmission v s = .ok k) :
    exec (.submission v) s = .next (settle s (accepted v k s)) := by
  have hs : submit v s = settle s (accepted v k s) := by simp only [submit, h, accepted]
  exact (busAccess_high s _ hr).trans (by rw [hs])

/-- Settles O8: each refusal is the first test of R11 that fails. -/
theorem submissionRefusals : Obligations.SubmissionRefusals := by
  intro v s hr n kind count refusedWith ready tagFree kindKnown countFits rangeFits
  have hkind : kindKnown → ∃ k, kindField v = some k ∧ kind = k.code := fun h => by
    obtain ⟨-, hk⟩ := h
    obtain ⟨k, e⟩ := kindField_some hk
    exact ⟨k, e, code_of_kindField e⟩
  refine ⟨fun h => ?_, fun ⟨h, hf⟩ => ?_, fun ⟨⟨h, hf⟩, hk⟩ => ?_, fun ⟨hk, hc⟩ => ?_, fun ⟨hc, hl⟩ => ?_,
    fun ⟨hl, hw, hm⟩ => ?_⟩
  · exact exec_submission_refused hr (checkSubmission_notReady (not_not.1 h))
  · exact exec_submission_refused hr (checkSubmission_tagBusy h hf)
  · refine exec_submission_refused hr ?_
    rw [checkSubmission_kind h hf, kindField_none hk]
  · refine exec_submission_refused hr ?_
    obtain ⟨k, e, ek⟩ := hkind hk
    obtain ⟨⟨h, hf⟩, -⟩ := hk
    rw [checkSubmission_kind h hf, e]
    rw [ek, ← maxBlocks_lt_iff] at hc
    exact if_pos hc
  · refine exec_submission_refused hr ?_
    obtain ⟨k, e, ek⟩ := hkind hc.1
    obtain ⟨⟨⟨h, hf⟩, -⟩, h0, h2, h3⟩ := hc
    have hfit : ¬ (count = 0 ∨ maxBlocks k < count) := by
      rw [maxBlocks_lt_iff, ← ek]
      omega
    rw [checkSubmission_kind h hf, e]
    exact (if_neg hfit).trans (if_pos hl)
  · refine exec_submission_refused hr ?_
    obtain ⟨k, e, ek⟩ := hkind hl.1.1
    obtain ⟨⟨⟨⟨h, hf⟩, -⟩, h0, h2, h3⟩, hlen⟩ := hl
    have hfit : ¬ (count = 0 ∨ maxBlocks k < count) := by
      rw [maxBlocks_lt_iff, ← ek]
      omega
    have hwp : (k.writes && s.jrnl.mode == .readOnly) = true := by
      rw [ek, ← writes_iff_code] at hw
      simp [hw, hm]
    rw [checkSubmission_kind h hf, e]
    exact (if_neg hfit).trans ((if_neg (Nat.not_lt.2 hlen)).trans (if_pos hwp))

/-- A submission that meets every test of R11 is accepted. -/
theorem checkSubmission_ok {v : Word} {k : Kind} {s : State} (h : s.jrnl.mode ≠ .starting)
    (hf : (s.tag (tagField v)).state = .free) (hk : v.toNat / 16 % 8 = k.code) (h0 : s.req.qcount.toNat ≠ 0)
    (hd : k = .read ∨ k = .write → s.req.qcount.toNat ≤ 16) (hc : k = .check ∨ k = .zero → s.req.qcount.toNat ≤ 256)
    (hl : s.req.qlbn.toNat + s.req.qcount.toNat ≤ 3968) (hw : k = .write ∨ k = .zero → s.jrnl.mode = .ready) :
    checkSubmission v s = .ok k := by
  have hfit : ¬ (s.req.qcount.toNat = 0 ∨ maxBlocks k < s.req.qcount.toNat) := by
    cases k <;> simp_all [maxBlocks]
  have hwp : ¬ (k.writes && s.jrnl.mode == .readOnly) = true := by
    cases k <;> simp_all [Kind.writes]
  rw [checkSubmission_kind h hf, kindField_of_code hk]
  exact (if_neg hfit).trans ((if_neg (Nat.not_lt.2 hl)).trans (if_neg hwp))

/-! ## What the close of an event leaves to the others -/

theorem settle_tag_arrival (s₀ s : State) (u : TagNo) : ((settle s₀ s).tag u).arrival = (s.tag u).arrival := by simp

theorem settle_tag_completed (s₀ s : State) (u : TagNo) : ((settle s₀ s).tag u).completed = (s.tag u).completed := by simp

theorem settle_tag_firstFail (s₀ s : State) (u : TagNo) : ((settle s₀ s).tag u).firstFail = (s.tag u).firstFail := by simp

theorem settle_pending (s₀ s : State) :
    ((settle s₀ s).map.pendingLbns, (settle s₀ s).map.overflow) = (s.map.pendingLbns, s.map.overflow) := by simp

theorem OthersKept.trans {s t u : State} (h : OthersKept s t) (h' : OthersKept t u) : OthersKept s u := by
  obtain ⟨e1, e2, ⟨h1, h2, h3, h4, h5⟩, e3, e4, e5, e6, e7, e8, e9, e10, ha⟩ := h
  obtain ⟨f1, f2, ⟨g1, g2, g3, g4, g5⟩, f3, f4, f5, f6, f7, f8, f9, f10, hb⟩ := h'
  exact ⟨f1.trans e1, f2.trans e2, ⟨g1.trans h1, g2.trans h2, g3.trans h3, g4.trans h4, g5.trans h5⟩, f3.trans e3,
    f4.trans e4, f5.trans e5, f6.trans e6, f7.trans e7, f8.trans e8, f9.trans e9, f10.trans e10,
    fun p => (hb p).trans (ha p)⟩

/-- The close of an event that left the condition table alone touches nothing of the others. -/
theorem settle_othersKept (s₀ s : State) (h : s.cond = s₀.cond) : OthersKept s (settle s₀ s) := by
  refine ⟨?_, ?_, ⟨?_, ?_, ?_, ?_, ?_⟩, ?_, ?_, ?_, ?_, ?_, settle_attn s₀ s h, ?_, ?_, arrayKept_of_eq ?_ ?_⟩ <;> simp

theorem settle_tag_blockers (s₀ s : State) (u : TagNo) :
    ((settle s₀ s).tag u).blockers = (releaseTag s (s.tag u)).blockers := by
  rw [settle_eq, ← closedEvent_tag s₀ s u]
  simp

/-- A queue of live tags stays as it is. -/
theorem settle_queue_of_live (s₀ s : State) (h : ∀ u ∈ s.req.queue, (s.tag u).state.live = true) :
    (settle s₀ s).req.queue = s.req.queue := by
  rw [settle_queue]
  exact List.filter_eq_self.2 h

/-! ## Acceptance -/

theorem writes_eq_decide (k : Kind) : k.writes = decide (k = .write ∨ k = .zero) := by
  cases k <;> rfl

theorem numbered_of_lt {s : State} (h : s.req.arrival < max32) : numbered s = s := by
  unfold numbered
  rw [if_neg]
  omega

theorem accepted_tag (v : Word) (k : Kind) (s : State) (u : TagNo) :
    (accepted v k s).tag u = if u = tagField v then arriving v k (numbered s) else (numbered s).tag u := by
  rw [show (accepted v k s).tag u = (accept v k s).tag u from rfl, accept_eq, enqueued_tag]

theorem accepted_queue (v : Word) (k : Kind) (s : State) :
    (accepted v k s).req.queue = enqueue (numbered s) (tagField v) (urgentField v) := by
  rw [show (accepted v k s).req.queue = (accept v k s).req.queue from rfl, accept_eq]
  rfl

theorem numbered_queue (s : State) : (numbered s).req.queue = s.req.queue := by
  unfold numbered
  split <;> rfl

/-- With the queue live the acceptance leaves it live. -/
theorem accepted_live {v : Word} {k : Kind} {s : State} (h : ∀ u ∈ s.req.queue, (s.tag u).state.live = true) :
    ∀ u ∈ (accepted v k s).req.queue, ((accepted v k s).tag u).state.live = true := by
  intro u hu
  rw [accepted_queue, mem_enqueue, numbered_queue] at hu
  rw [accepted_tag]
  split
  · exact arriving_live ..
  · rename_i hne
    obtain ⟨a, ha⟩ := numbered_tag s u
    rw [ha]
    exact h u (hu.resolve_left hne)

theorem mem_blockers_arriving {v : Word} {k : Kind} {s : State} {u : TagNo} (h : u ∈ (arriving v k s).blockers) :
    u ∈ s.req.queue := (List.mem_filter.1 h).1

/-- The new tag waits for its blockers, or is QUEUED. -/
theorem accepted_self {v : Word} {k : Kind} {s : State} (h : ∀ u ∈ s.req.queue, (s.tag u).state.live = true) :
    releaseTag (accepted v k s) ((accepted v k s).tag (tagField v)) = arriving v k (numbered s) := by
  have hself : (accepted v k s).tag (tagField v) = arriving v k (numbered s) := by rw [accepted_tag, if_pos rfl]
  rw [hself]
  refine releaseTag_of_live _ _ (fun hheld hnil => ?_) fun _ u hu => ?_
  · have hq : (arriving v k (numbered s)).state = .queued := by
      have : blockerSet (numbered s) (newTag v k (numbered s)) = [] := hnil
      simp [arriving, this]
    rw [hq] at hheld
    cases hheld
  · refine accepted_live h u ?_
    rw [accepted_queue, mem_enqueue]
    exact .inr (mem_blockers_arriving hu)

theorem mem_accepted_queue (v : Word) (k : Kind) (s : State) : tagField v ∈ (accepted v k s).req.queue := by
  rw [accepted_queue, mem_enqueue]
  exact .inl rfl

theorem accepted_othersKept {v : Word} {k : Kind} {s : State} (h : s.req.arrival < max32) :
    OthersKept s (accepted v k s) := by
  rw [accepted, accept_eq, numbered_of_lt h]
  exact ⟨rfl, rfl, ⟨rfl, rfl, rfl, rfl, rfl⟩, rfl, rfl, rfl, rfl, rfl, rfl, rfl, rfl, fun _ => rfl⟩

/-- The registers and the quiet timer after an acceptance (R10, R12, R134). -/
theorem accepted_fields (v : Word) (k : Kind) (s : State) :
    (accepted v k s).req.qresult = .accepted ∧ (accepted v k s).req.qresultTag = tagField v ∧
    (accepted v k s).req.qctrl = v ∧ (accepted v k s).req.qlbn = (numbered s).req.qlbn ∧
    (accepted v k s).req.qcount = (numbered s).req.qcount ∧
    (accepted v k s).req.arrival = (numbered s).req.arrival + 1 ∧ (accepted v k s).patrol.quietTimer = none ∧
    (accepted v k s).patrol.quietElapsed = false ∧
    (accepted v k s).patrol.state =
      (if (numbered s).patrol.state == .running then .waiting else (numbered s).patrol.state) := by
  rw [accepted, accept_eq]
  exact ⟨rfl, rfl, rfl, rfl, rfl, rfl, rfl, rfl, rfl⟩

theorem arriving_state_eq (v : Word) (k : Kind) (s : State) :
    (arriving v k s).state = if (arriving v k s).blockers = [] then .queued else .held := by
  simp only [arriving, List.isEmpty_iff]

/-- The blocker set in the terms of R16. -/
theorem arriving_blockers (v : Word) (k : Kind) (s : State) :
    (arriving v k s).blockers = s.req.queue.filter fun u =>
      decide (s.req.qlbn.toNat < (s.tag u).firstLbn + (s.tag u).count) &&
        decide ((s.tag u).firstLbn < s.req.qlbn.toNat + s.req.qcount.toNat) &&
        (decide (k = .write ∨ k = .zero) || decide ((s.tag u).kind = .write ∨ (s.tag u).kind = .zero)) := by
  refine List.filter_congr fun u _ => ?_
  simp only [conflicts, overlaps, newTag, writes_eq_decide]
  rfl

/-- Only a retry counts a retry: a tag without a current block keeps its count (R80). -/
theorem settle_retriesUsed (s₀ s : State) (u : TagNo) (h : (s.tag u).cur = none) :
    ((settle s₀ s).tag u).retriesUsed = (s.tag u).retriesUsed := by
  have hrel : (releaseTag s (s.tag u)).retriesUsed = (s.tag u).retriesUsed := by simp
  rcases settle_tag s₀ s u with e | ⟨-, -, -, he⟩
  · rw [e, hrel]
  · have hold : ((closedEvent s₀ s).tag u).retriesUsed = (s.tag u).retriesUsed := by rw [closedEvent_tag, hrel]
    have hcur : ((closedEvent s₀ s).tag u).cur = none := by rw [closedEvent_tag]; simpa using h
    revert he
    generalize (settle s₀ s).tag u = y
    intro he
    cases he with
    | reading => simpa [Tag.reading] using hold
    | retrying c hk hc => rw [hcur] at hc; cases hc
    | programming => simpa [Tag.programming] using hold
    | onSpare => exact hold

/-- The new tag's record after the event (R1, R16). -/
theorem settle_accepted_tag {v : Word} {k : Kind} {s : State} (hnum : numbered s = s)
    (hlive : ∀ u ∈ s.req.queue, (s.tag u).state.live = true) :
    ((settle s (accepted v k s)).tag (tagField v)).blockers = (arriving v k s).blockers ∧
    ((settle s (accepted v k s)).tag (tagField v)).retriesUsed = 0 ∧
    ((arriving v k s).blockers ≠ [] → ((settle s (accepted v k s)).tag (tagField v)).state = .held) ∧
    ((arriving v k s).blockers = [] → ((settle s (accepted v k s)).tag (tagField v)).state = .queued ∨
      (((settle s (accepted v k s)).tag (tagField v)).state = .active ∧
        opTag (settle s (accepted v k s)) = some (tagField v))) := by
  have hrel := accepted_self (v := v) (k := k) hlive
  have hstate := settle_state s (accepted v k s) (tagField v)
  rw [hnum] at hrel
  rw [hrel, arriving_state_eq] at hstate
  have hself : (accepted v k s).tag (tagField v) = arriving v k s := by rw [accepted_tag, hnum, if_pos rfl]
  refine ⟨by rw [settle_tag_blockers, hrel], ?_, fun hne => ?_, fun he => ?_⟩
  · rw [settle_retriesUsed, hself]
    · rfl
    · rw [hself]
      rfl
  · rw [if_neg hne] at hstate
    rcases hstate with e | ⟨e, -, -⟩
    · exact e
    · cases e
  · rw [if_pos he] at hstate
    exact hstate.imp id fun ⟨_, ha, ho⟩ => ⟨ha, ho⟩

/-- The queue, the counter and the patrol after the event: the new tag is live, so the part is not foreground-idle. -/
theorem settle_accepted_queue {v : Word} {k : Kind} {s : State} (hnum : numbered s = s)
    (hlive : ∀ u ∈ s.req.queue, (s.tag u).state.live = true) :
    (settle s (accepted v k s)).req.queue = enqueue s (tagField v) (urgentField v) ∧
    (settle s (accepted v k s)).req.arrival = s.req.arrival + 1 ∧
    (settle s (accepted v k s)).patrol.quietTimer = none ∧
    (settle s (accepted v k s)).patrol.quietElapsed = false ∧
    (settle s (accepted v k s)).patrol.state = (if s.patrol.state = .running then .waiting else s.patrol.state) := by
  obtain ⟨hpatrol, -, harrival⟩ := settle_of_live s (accepted v k s) (tagField v) (mem_accepted_queue v k s)
    (accepted_live hlive _ (mem_accepted_queue v k s))
  obtain ⟨-, -, -, -, -, harr, hquiet, helapsed, hstate⟩ := accepted_fields v k s
  rw [settle_queue_of_live s _ (accepted_live hlive), accepted_queue, harrival, hpatrol, harr, hquiet, helapsed, hstate,
    hnum]
  refine ⟨rfl, rfl, rfl, rfl, ?_⟩
  simp only [beq_iff_eq]

/-- Settles O9. -/
theorem submissionAccepted : Obligations.SubmissionAccepted := by
  intro v k s hr hm n lbn count bs hfree hk h0 hd hc hl hw harr hlive
  have hnum : numbered s = s := numbered_of_lt harr
  refine ⟨_, exec_submission_accepted hr (checkSubmission_ok hm hfree hk h0 hd hc hl hw), ?_⟩
  have hself : (accepted v k s).tag n = arriving v k s := by
    rw [accepted_tag, hnum]
    exact if_pos rfl
  have hothers : OthersKept s (settle s (accepted v k s)) :=
    (accepted_othersKept harr).trans (settle_othersKept s _ (by rw [accepted, accept_eq, hnum]; rfl))
  obtain ⟨hblock, hretries, hheld, hqueued⟩ := settle_accepted_tag (v := v) (k := k) hnum hlive
  obtain ⟨hq, harrival, hquiet, helapsed, hpstate⟩ := settle_accepted_queue (v := v) (k := k) hnum hlive
  obtain ⟨hres, hresTag, hctrl, hqlbn, hqcount, -⟩ := accepted_fields v k s
  rw [hnum] at hqlbn hqcount
  obtain ⟨-, -, -, -, -, -, -, -, eqlbn, eqcount, eqctrl, eqres, eqresTag, -⟩ := settle_keeps s (accepted v k s)
  have hbs : (arriving v k s).blockers = bs := arriving_blockers v k s
  rw [hbs] at hblock hheld hqueued
  have hkeep := settle_tag_keeps s (accepted v k s) n
  rw [hself] at hkeep
  obtain ⟨hkind, hlbn, hcount, hurgent, hnoRetry, harrN, hcompleted, hmoved, -, hworst, hreallocs, huncorr, hfail,
    hneeded, habort, hwp, hsofar, -⟩ := hkeep
  exact ⟨eqres.trans hres, eqresTag.trans hresTag, eqctrl.trans hctrl, eqlbn.trans hqlbn, eqcount.trans hqcount,
    harrival, hq, hkind, hlbn, hcount, hurgent, hnoRetry, harrN, hblock, hcompleted, hmoved, hworst, hretries,
    hreallocs, huncorr, hfail, hneeded, habort, hwp, hsofar, hheld, hqueued, hquiet, helapsed, hpstate, hothers⟩

/-! ## Renumbering -/

/-- Settles O10: the new numbers are the ranks of the old ones (`arrivalRank_lt_iff`). -/
theorem renumberingKeepsArrivalOrder : Obligations.RenumberingKeepsArrivalOrder := by
  intro v k s hr hm n count hfree hk h0 hd hc hl hw harr hne hlive
  have hnum : numbered s = renumber s := by
    unfold numbered
    rw [if_pos]
    exact ⟨by rw [harr]; exact Nat.le_refl _, hne⟩
  have hn : n ∉ s.req.queue := fun hn => by
    have := hlive n hn
    rw [hfree] at this
    cases this
  have hself : (accepted v k s).tag n = arriving v k (renumber s) := by
    rw [accepted_tag, hnum]
    exact if_pos rfl
  have hrank : ∀ a ∈ s.req.queue,
      ((settle s (accepted v k s)).tag a).arrival = arrivalRank s (s.tag a).arrival := fun a ha => by
    rw [settle_tag_arrival, accepted_tag, hnum, if_neg, renumber_tag, if_pos ha]
    · rfl
    · rintro rfl
      exact hn ha
  refine ⟨_, exec_submission_accepted hr (checkSubmission_ok hm hfree hk h0 hd hc hl hw), fun a ha b hb => ?_,
    fun a ha => ?_, ?_, ?_⟩
  · rw [hrank a ha, hrank b hb]
    exact arrivalRank_lt_iff s ha _
  · rw [hrank a ha]
    exact arrivalRank_lt_length s ha
  · rw [settle_tag_arrival, hself]
    rfl
  · obtain ⟨-, -, e⟩ := settle_of_live s (accepted v k s) n (mem_accepted_queue v k s)
      (by rw [hself]; exact arriving_live ..)
    rw [e, accepted, accept_eq, hnum]
    rfl

end Sys2Proof.Machine
end

section
/-! PROOFS. O11, O12, O13: ABORT_REQUEST. -/
namespace Sys2Proof.Machine

/-! ## Raw values of conditions -/

theorem bump_cond_same (s : State) (i : CondId) : (s.bump i).cond[i] = (s.cond[i]).bump i := setCond_same ..

theorem bump_cond_other (s : State) (i j : CondId) (h : j ≠ i) : (s.bump i).cond[j] = s.cond[j] := setCond_other s i j _ h

theorem setRaw_cond_other (s : State) (i j : CondId) (v : Nat) (h : j ≠ i) : (s.setRaw i v).cond[j] = s.cond[j] :=
  setCond_other s i j _ h

/-- The lists report themselves as condition 6 alone (R118, R170). -/
theorem setPending_cond (l : List Nat) (s : State) (j : CondId) (h : j ≠ CondId.pendingBlocks) :
    (setPending l s).cond[j] = s.cond[j] := setRaw_cond_other _ _ j _ h

theorem offerPending_cond (l : Nat) (s : State) (j : CondId) (h : j ≠ CondId.pendingBlocks) :
    (offerPending l s).cond[j] = s.cond[j] := by
  unfold offerPending
  dsimp only
  split
  · rfl
  · split
    · exact setPending_cond _ _ j h
    · rfl

theorem removePending_cond (l : Nat) (s : State) (j : CondId) (h : j ≠ CondId.pendingBlocks) :
    (removePending l s).cond[j] = s.cond[j] := by
  unfold removePending
  split
  · exact setPending_cond _ _ j h
  · rfl

theorem RawKept.refl (ids : List CondId) (s : State) : RawKept ids s s := fun _ _ => rfl

theorem RawKept.trans {ids : List CondId} {s t u : State} (h : RawKept ids s t) (h' : RawKept ids t u) :
    RawKept ids s u := fun i hi => (h' i hi).trans (h i hi)

theorem RawKept.mono {ids ids' : List CondId} {s t : State} (h : RawKept ids s t) (hi : ids ⊆ ids') : RawKept ids' s t :=
  fun i hn => h i fun hm => hn (hi hm)

theorem rawKept_of_cond {s t : State} (h : t.cond = s.cond) (ids : List CondId) : RawKept ids s t := fun i _ => by rw [h]

theorem offerPending_rawKept (l : Nat) (s : State) : RawKept [CondId.pendingBlocks] s (offerPending l s) :=
  fun i hi => by rw [offerPending_cond l s i (by simpa using hi)]

theorem removePending_rawKept (l : Nat) (s : State) : RawKept [CondId.pendingBlocks] s (removePending l s) :=
  fun i hi => by rw [removePending_cond l s i (by simpa using hi)]

theorem clearLists_rawKept (l : Nat) (s : State) : RawKept [CondId.pendingBlocks] s (clearLists l s) :=
  (removePending_rawKept l s).trans (rawKept_of_cond (by simp [clearLists]) _)

theorem reportSpares_rawKept (s : State) : RawKept [CondId.sparesRemaining] s (reportSpares s) :=
  fun i hi => by rw [reportSpares, setRaw_cond_other _ _ i _ (by simpa using hi)]

/-- One counting event counts one, and no other condition. -/
theorem bump_rawCounted (s : State) (i : CondId) (ids : List CondId) : RawCounted i ids s (s.bump i) := by
  refine ⟨by rw [bump_cond_same, bump_raw], fun j hj => ?_⟩
  rw [bump_cond_other s i j fun e => hj (e ▸ List.mem_cons_self ..)]

/-- What is kept before and after a count does not disturb it. -/
theorem RawCounted.of_kept {i : CondId} {ids : List CondId} {s t u v : State} (h₂ : RawCounted i ids t u)
    (h₁ : RawKept ids s t) (h₃ : RawKept ids u v) (hi : i ∉ ids) : RawCounted i ids s v := by
  obtain ⟨hc, hk⟩ := h₂
  refine ⟨by rw [h₃ i hi, hc, h₁ i hi], fun j hj => ?_⟩
  have hj' : j ∉ ids := fun hm => hj (List.mem_cons_of_mem _ hm)
  rw [h₃ j hj', hk j hj, h₁ j hj']

/-- What is kept before a count does not disturb it. -/
theorem RawKept.trans_counted {i : CondId} {ids : List CondId} {s t u : State} (h₁ : RawKept ids s t)
    (h₂ : RawCounted i ids t u) (hi : i ∉ ids) : RawCounted i ids s u := h₂.of_kept h₁ (.refl ids u) hi

/-! ## An event without effects closes without effects -/

/-- With nothing to release, to grant or to start, the close of an event changes nothing. -/
theorem settle_of_quiet (s₀ s : State) (hq : s₀.req.queue = s.req.queue)
    (hl : ∀ u ∈ s.req.queue, (s.tag u).state.live = true) (hh : HeldOk s) (hg : SlotsGranted s)
    (hc : s.cond = s₀.cond) (hu : UnitOk s) : settle s₀ s = s := by
  have hclose : closeQueue s₀ s = s := closeQueue_of_unchanged s₀ s hq hl hh
  have hevent : closedEvent s₀ s = s := by
    rw [closedEvent, hclose, grantSlots_of_granted 8 s hg, latchHealth_of_cond s₀ s hc]
  rw [settle_eq, hevent]
  by_cases hop : s.array.op = none
  · exact arbitrate_quiet s (hu hop)
  · exact arbitrate_busy s hop

/-- The request registers of an abort, which no release, grant or choice reads. -/
def abortNoted (v : Word) (b : Bool) (s : State) : State := { s with req := { s.req with qabort := v, abortIgnored := b } }

theorem settle_abortNoted {s : State} (v : Word) (b : Bool) (hl : ∀ u ∈ s.req.queue, (s.tag u).state.live = true)
    (hh : HeldOk s) (hg : SlotsGranted s) (hu : UnitOk s) : settle s (abortNoted v b s) = abortNoted v b s :=
  settle_of_quiet s _ rfl hl hh hg rfl hu

/-! ## What a write to QABORT does -/

/-- The abort itself, before the event closes (R19). -/
def abortWanted (v : Word) (s : State) : State :=
  if v = abortAll then abortEvery s
  else if h : v.toNat < 16 then abortOne ⟨v.toNat, h⟩ s
  else setAbortIgnored true s

/-- The state in which QABORT has taken its value. -/
def abortAsked (v : Word) (s : State) : State := { s with req := { s.req with qabort := v } }

theorem exec_abortRequest {v : Word} {s : State} (hr : s.rstnLow = false) :
    exec (.abortRequest v) s = .next (settle s (abortWanted v (abortAsked v s))) := busAccess_high s _ hr

theorem abortWanted_all (s : State) : abortWanted abortAll s = abortEvery s := if_pos rfl

theorem abortWanted_one {v : Word} {n : TagNo} (hv : v.toNat = n.val) (s : State) : abortWanted v s = abortOne n s := by
  have hne : v ≠ abortAll := fun e => by
    have h16 := n.isLt
    rw [e] at hv
    have : abortAll.toNat = 32768 := rfl
    omega
  have hlt : v.toNat < 16 := by rw [hv]; exact n.isLt
  have hn : (⟨v.toNat, hlt⟩ : TagNo) = n := Fin.ext hv
  unfold abortWanted
  rw [if_neg hne, dif_pos hlt, hn]

theorem abortWanted_none {v : Word} (hv : 15 < v.toNat) (hne : v ≠ abortAll) (s : State) :
    abortWanted v s = setAbortIgnored true s := by
  unfold abortWanted
  rw [if_neg hne, dif_neg (by omega)]

theorem abortOne_free {n : TagNo} {s : State} (h : (s.tag n).state = .free) : abortOne n s = setAbortIgnored true s := by
  simp only [abortOne, h]

theorem abortOne_done {n : TagNo} {s : State} (h : (s.tag n).state = .done) : abortOne n s = s := by
  simp only [abortOne, h]

theorem abortOne_live {n : TagNo} {s : State} (h : (s.tag n).state.live = true) :
    abortOne n s = if (s.tag n).abortMark then s else setAbortIgnored false (abortTag s n) := by
  unfold abortOne
  cases hs : (s.tag n).state with
  | free | done =>
    rw [hs] at h
    cases h
  | held | queued | active | ending => simp only [hs]

theorem abortEvery_nil {s : State} (h : s.req.queue = []) : abortEvery s = setAbortIgnored true s := by
  simp [abortEvery, h]

/-- Settles O11: the abort changes its registers alone, and the event closes as it began (`settle_abortNoted`). -/
theorem abortThatFindsNothing : Obligations.AbortThatFindsNothing := by
  intro v s hr hu hl hh hg
  refine ⟨fun h => ?_, fun ⟨n, hv, h⟩ => ?_⟩
  · have hw : abortWanted v (abortAsked v s) = abortNoted v true s := by
      rcases h with ⟨hv, hne⟩ | ⟨n, hv, hn⟩ | ⟨rfl, hq⟩
      · exact abortWanted_none hv hne _
      · exact (abortWanted_one hv _).trans (abortOne_free hn)
      · exact (abortWanted_all _).trans (abortEvery_nil hq)
    rw [exec_abortRequest hr, hw, settle_abortNoted v true hl hh hg hu]
    rfl
  · have hw : abortWanted v (abortAsked v s) = abortNoted v s.req.abortIgnored s := by
      refine (abortWanted_one hv _).trans ?_
      rcases h with hd | ⟨ha, hm⟩
      · exact abortOne_done hd
      · refine (abortOne_live ?_).trans (if_pos hm)
        change (s.tag n).state.live = true
        rw [ha]
        rfl
    rw [exec_abortRequest hr, hw, settle_abortNoted v _ hl hh hg hu]
    rfl

/-! ## What an abort does to a live tag (R20, R21) -/

theorem abortTag_waiting {n : TagNo} {s : State} (h : (s.tag n).state = .held ∨ (s.tag n).state = .queued) :
    abortTag s n = finish n .aborted s := by
  unfold abortTag
  rcases h with h | h <;> simp only [h]

theorem abortTag_inOp {n : TagNo} {s : State} (h : (s.tag n).state = .active) (hop : opTag s = some n)
    (ha : (s.tag n).abortMark = false) (hw : (s.tag n).wpMark = false) :
    abortTag s n = (freeSlotsOf n SlotState.resting s).modTag n Tag.markAbort := by
  unfold abortTag
  simp only [h, hop, ha, hw, if_true, Bool.or_self, Bool.false_eq_true, if_false]
  rfl

/-- The tag without an operation in flight, by the block it has outstanding. -/
theorem abortTag_idle {n : TagNo} {s : State} (h : (s.tag n).state = .active ∨ (s.tag n).state = .ending)
    (hop : opTag s ≠ some n) :
    abortTag s n = match (s.tag n).cur, (s.tag n).prog with
      | some c, _ => finish n .aborted
          ((handOff c.lbn .uncorrectable s).modTag n (Tag.takeRead c.lbn s.cfg.refreshLevel .uncorrectable))
      | none, some b => endUnresolved n b.lbn .aborted s
      | none, none => finish n .aborted s := by
  unfold abortTag
  rcases h with h | h <;> simp only [h, hop, if_false] <;> rfl

/-- The abort of a live tag that carries no abort mark. -/
def aborting (v : Word) (n : TagNo) (s : State) : State := setAbortIgnored false (abortTag (abortAsked v s) n)

theorem exec_abort_live {v : Word} {n : TagNo} {s : State} (hr : s.rstnLow = false) (hv : v.toNat = n.val)
    (hl : (s.tag n).state.live = true) (ha : (s.tag n).abortMark = false) :
    exec (.abortRequest v) s = .next (settle s (aborting v n s)) := by
  have hw : abortWanted v (abortAsked v s) = aborting v n s := by
    refine (abortWanted_one hv _).trans ((abortOne_live (s := abortAsked v s) hl).trans (if_neg ?_))
    change ¬ (s.tag n).abortMark = true
    simp [ha]
  rw [exec_abortRequest hr, hw]

theorem aborting_tag (v : Word) (n u : TagNo) (s : State) :
    (aborting v n s).tag u = if u = n then (s.tag n).aborted (opTag s == some n) s.cfg.refreshLevel else s.tag u :=
  abortTag_tag (abortAsked v s) n u

theorem aborting_slot (v : Word) (n : TagNo) (s : State) (k : SlotNo) :
    (aborting v n s).slot k =
      if (s.slot k).owner = some n ∧ (s.tag n).abortedFrees (opTag s == some n) (s.slot k).state = true then Slot.free
      else s.slot k := abortTag_slot (abortAsked v s) n k

@[simp] theorem aborting_keeps (v : Word) (n : TagNo) (s : State) :
    (aborting v n s).rstnLow = s.rstnLow ∧ (aborting v n s).port = s.port ∧ (aborting v n s).svc = s.svc ∧
    (aborting v n s).array = s.array ∧ (aborting v n s).patrol = s.patrol ∧ (aborting v n s).jrnl = s.jrnl ∧
    (aborting v n s).cmd = s.cmd ∧ (aborting v n s).cfg = s.cfg ∧ (aborting v n s).attn = s.attn ∧
    (aborting v n s).req.queue = s.req.queue ∧ (aborting v n s).req.qabort = v ∧
    (aborting v n s).req.abortIgnored = false ∧ (aborting v n s).map.remap = s.map.remap ∧
    (aborting v n s).map.retired = s.map.retired := by
  refine ⟨?_, ?_, ?_, ?_, ?_, ?_, ?_, ?_, ?_, ?_, ?_, rfl, ?_, ?_⟩ <;> simp [aborting, setAbortIgnored, abortAsked]

/-- A tag without an operation in flight is over after the abort, and frees all its slots. -/
theorem aborted_over {x : Tag} {inOp : Bool} (level : Nat) (hl : x.state.live = true)
    (hop : x.state = .active ∨ x.state = .ending → inOp = false) :
    (x.aborted inOp level).state = .done ∧ (x.aborted inOp level).final = some .aborted ∧
      ∀ st, x.abortedFrees inOp st = true := by
  unfold Tag.aborted Tag.abortedFrees
  cases hs : x.state with
  | free | done =>
    rw [hs] at hl
    cases hl
  | held | queued => exact ⟨rfl, rfl, fun _ => rfl⟩
  | active | ending =>
    rw [hop (by simp [hs])]
    simp only [Bool.false_eq_true, if_false]
    split <;> exact ⟨rfl, rfl, fun _ => trivial⟩

/-- A live tag that the abort ends has left the queue and every blocker set. -/
theorem aborted_doneWith {s s' : State} {n : TagNo} (hq : n ∈ s.req.queue) (hl : (s.tag n).state.live = true)
    (hop : (s.tag n).state = .active ∨ (s.tag n).state = .ending → opTag s ≠ some n)
    (ht : s'.tag n = (s.tag n).aborted (opTag s == some n) s.cfg.refreshLevel)
    (hs : ∀ k, (s'.slot k).owner = some n → (s.tag n).abortedFrees (opTag s == some n) (s.slot k).state = false) :
    DoneWith (settle s s') n .aborted ∧
      ∀ u, ((settle s s').tag u).state = .held → n ∉ ((settle s s').tag u).blockers := by
  obtain ⟨hd, hf, hfree⟩ := aborted_over (inOp := opTag s == some n)
    s.cfg.refreshLevel hl fun h => by simpa using hop h
  rw [← ht] at hd hf
  refine ⟨settle_doneWith s s' n .aborted hq hd hf fun k hk => ?_,
    fun u hu => settle_blockers s s' n u (by rw [hd]; rfl) hu⟩
  have := hs k hk
  rw [hfree] at this
  cases this

theorem aborting_doneWith {v : Word} {n : TagNo} {s : State} (hq : n ∈ s.req.queue) (hl : (s.tag n).state.live = true)
    (hop : (s.tag n).state = .active ∨ (s.tag n).state = .ending → opTag s ≠ some n) :
    DoneWith (settle s (aborting v n s)) n .aborted ∧
      ∀ u, ((settle s (aborting v n s)).tag u).state = .held →
        n ∉ ((settle s (aborting v n s)).tag u).blockers := by
  refine aborted_doneWith hq hl hop (by rw [aborting_tag, if_pos rfl]) fun k hk => ?_
  rw [aborting_slot] at hk
  split at hk
  · cases hk
  · rename_i hne
    simpa [hk] using hne

/-- A marked tag keeps its busy slots alone, and gains none (R45, R46). -/
theorem onlyBusySlots_of_marked {s₀ s s' : State} {n : TagNo} (ha : (s'.tag n).state = .active)
    (hm : (s'.tag n).abortMark = true ∨ ((s'.tag n).wpMark = true ∧ (s'.tag n).kind = .write ∨
      (s'.tag n).wpMark = true ∧ (s'.tag n).kind = .zero)) (hok : SlotsOk s)
    (hs : ∀ k, (s'.slot k).owner = some n → s'.slot k = s.slot k ∧ (s.slot k).state.resting = false) :
    OnlyBusySlots s (settle s₀ s') n := by
  have hrel : releaseTag s' (s'.tag n) = s'.tag n := releaseTag_of_ne_held s' _ (by simp [ha])
  have hmay : ¬ maySlot (releaseTag s' (s'.tag n)) := by
    rw [hrel]
    rintro ⟨-, hab, hk⟩
    rcases hm with h | ⟨h, hk'⟩ | ⟨h, hk'⟩
    · simp [h] at hab
    · simp [h, hk'] at hk
    · simp [hk'] at hk
  have hrun : ¬ Runnable (releaseTag s' (s'.tag n)) := by
    rw [hrel]
    rintro ⟨-, hab, hw⟩
    rcases hm with h | ⟨h, -⟩ | ⟨h, -⟩
    · simp [h] at hab
    · simp [h] at hw
    · simp [h] at hw
  intro k hk
  obtain ⟨e, hrest⟩ := hs k (settle_owner s₀ s' k n hmay hk)
  have howner : (s'.slot k).owner = some n := settle_owner s₀ s' k n hmay hk
  have hfree : (s.slot k).state ≠ .free := fun hf => by
    rw [e, hok k hf] at howner
    cases howner
  have hkeep : (settle s₀ s').slot k = s.slot k := by
    rw [settle_slot_of_owner s₀ s' k n howner (by rwa [e]) hrun, e]
  refine ⟨hkeep, ?_⟩
  cases hst : (s.slot k).state <;> simp_all [SlotState.resting]

theorem aborting_eq_waiting {v : Word} {n : TagNo} {s : State}
    (h : (s.tag n).state = .held ∨ (s.tag n).state = .queued) :
    aborting v n s = setAbortIgnored false (finish n .aborted (abortAsked v s)) := by
  rw [aborting, abortTag_waiting (s := abortAsked v s) h]

/-- A HELD or QUEUED tag is DONE at once (R20). -/
theorem abort_of_waiting (n : TagNo) (v : Word) (s : State) (hr : s.rstnLow = false) (hv : v.toNat = n.val)
    (hq : n ∈ s.req.queue) (hs : (s.tag n).state = .held ∨ (s.tag n).state = .queued)
    (ha : (s.tag n).abortMark = false) :
    Completes (.abortRequest v) s fun t =>
       t.tag n = { s.tag n with state := .done, final := some .aborted, blockers := [], cur := none, prog := none } ∧
       n ∉ t.req.queue ∧ (∀ u, (t.tag u).state = .held → n ∉ (t.tag u).blockers) ∧ ownsNoSlot t n ∧
       n ∈ t.svc.list ∧ t.req.abortIgnored = false ∧ t.req.qabort = v ∧ HealthKept s t ∧ ArrayKept s t ∧
       t.cfg = s.cfg ∧ t.cmd = s.cmd ∧ t.port = s.port ∧ t.attn = s.attn ∧ t.jrnl.mode = s.jrnl.mode := by
  have hl : (s.tag n).state.live = true := by rcases hs with e | e <;> rw [e] <;> rfl
  have hmap : (aborting v n s).map = s.map := by rw [aborting_eq_waiting hs]; rfl
  have hcond : (aborting v n s).cond = s.cond := by rw [aborting_eq_waiting hs]; rfl
  have htag : (aborting v n s).tag n = (s.tag n).finished .aborted := by
    rw [aborting_tag, if_pos rfl]
    rcases hs with e | e <;> simp only [Tag.aborted, e]
  obtain ⟨⟨-, -, hnq, hslot, hsvc⟩, hblock⟩ := aborting_doneWith (v := v) hq hl fun h => by
    rcases hs with e | e <;> simp [e] at h
  refine ⟨_, exec_abort_live hr hv hl ha, ?_, hnq, hblock, hslot, hsvc, by simp, by simp,
    ⟨by simp, by simp, by simp [hmap], by simp [hmap], by simp [hcond]⟩, arrayKept_of_eq (by simp) (by simp), by simp,
    by simp, by simp, (settle_attn s _ hcond).trans (by simp), by simp⟩
  rw [settle_tag_of_over, htag]
  · rfl
  all_goals
    rw [htag]
    exact nofun

/-- An ACTIVE tag whose operation is in flight takes the mark and stays (R21, R45). -/
theorem abort_of_inOp (n : TagNo) (v : Word) (s : State) (hr : s.rstnLow = false) (hv : v.toNat = n.val)
    (hq : n ∈ s.req.queue) (hs : (s.tag n).state = .active) (hop : opTag s = some n)
    (ha : (s.tag n).abortMark = false) (hw : (s.tag n).wpMark = false) (hok : SlotsOk s) :
    Completes (.abortRequest v) s fun t =>
       t.tag n = { s.tag n with abortMark := true } ∧ t.array.op = s.array.op ∧ n ∈ t.req.queue ∧
       (∀ k, (t.slot k).owner = some n → (s.slot k).owner = some n ∧
         ((t.slot k).state = .loading ∨ (t.slot k).state = .programming)) ∧
       t.req.abortIgnored = false ∧ t.req.qabort = v ∧ OthersKept s t := by
  have hl : (s.tag n).state.live = true := by rw [hs]; rfl
  have heq : aborting v n s = setAbortIgnored false
      ((freeSlotsOf n SlotState.resting (abortAsked v s)).modTag n Tag.markAbort) := by
    rw [aborting, abortTag_inOp (s := abortAsked v s) hs hop ha hw]
  have htag : (aborting v n s).tag n = (s.tag n).markAbort := by
    rw [aborting_tag, if_pos rfl]
    simp [Tag.aborted, hs, hop, ha, hw]
  have hslots : ∀ k, ((aborting v n s).slot k).owner = some n →
      (aborting v n s).slot k = s.slot k ∧ (s.slot k).state.resting = false := fun k hk => by
    rw [aborting_slot] at hk ⊢
    split at hk
    · cases hk
    · rename_i hne
      rw [if_neg hne]
      refine ⟨rfl, ?_⟩
      simpa [hk, Tag.abortedFrees, hs, hop, ha, hw] using hne
  have hbusy : OnlyBusySlots s (settle s (aborting v n s)) n :=
    onlyBusySlots_of_marked (by rw [htag]; exact hs) (.inl (by rw [htag]; rfl)) hok hslots
  have hopNe : (aborting v n s).array.op ≠ none := by
    obtain ⟨o, ho, -⟩ := op_of_opTag hop
    simp [ho]
  refine ⟨_, exec_abort_live hr hv hl ha, ?_, ?_, ?_, fun k hk => ?_, by simp, by simp, ?_⟩
  · rw [settle_tag_of_marked _ _ _ (.inl (by rw [htag]; rfl)), htag]
    exact releaseTag_of_ne_held _ _ (by simp [Tag.markAbort, hs])
  · rw [settle_of_busy _ _ hopNe]
    simp
  · exact (settle_staysIn_active s _ n (by simpa using hq) (by rw [htag]; exact hs)).2
  · obtain ⟨e, hst⟩ := hbusy k hk
    rw [e] at hk ⊢
    exact ⟨hk, hst⟩
  · have hk : OthersKept s (aborting v n s) := by
      rw [heq]
      exact ⟨rfl, rfl, ⟨rfl, rfl, rfl, rfl, rfl⟩, rfl, rfl, rfl, rfl, rfl, rfl, rfl, rfl, fun _ => rfl⟩
    exact hk.trans (settle_othersKept s _ (by rw [heq]; rfl))

/-- The hand-off of an UNCORRECTABLE block offers its LBN and counts condition 3 (R82, R83). -/
theorem handOff_uncorrectable (l : Nat) (s : State) :
    handOff l .uncorrectable s = (offerPending l s).bump CondId.uncorrectableReads := rfl

/-- An ACTIVE or ENDING tag without an operation in flight is DONE at once, its block accounted for (R21, R93, R114). -/
theorem abort_of_idle (n : TagNo) (v : Word) (s : State) (hr : s.rstnLow = false) (hv : v.toNat = n.val)
    (hq : n ∈ s.req.queue) (hs : (s.tag n).state = .active ∨ (s.tag n).state = .ending) (hop : opTag s ≠ some n)
    (ha : (s.tag n).abortMark = false) :
    Completes (.abortRequest v) s fun t =>
       (t.tag n).state = .done ∧ (t.tag n).final = some .aborted ∧ n ∉ t.req.queue ∧ ownsNoSlot t n ∧
       n ∈ t.svc.list ∧ t.req.abortIgnored = false ∧ t.req.qabort = v ∧ ArrayKept s t ∧
       (∀ c, (s.tag n).cur = some c →
         (t.tag n).completed = (s.tag n).completed + 1 ∧
         (t.tag n).firstFail = some ((s.tag n).firstFail.getD c.lbn) ∧
         (t.map.pendingLbns, t.map.overflow) = pendingOffered c.lbn s.map.pendingLbns s.map.overflow ∧
         (t.cond[CondId.uncorrectableReads]).raw = oneMore (s.cond[CondId.uncorrectableReads]).raw) ∧
       (∀ b, (s.tag n).cur = none → (s.tag n).prog = some b →
         (t.tag n).completed = (s.tag n).completed + 1 ∧
         (t.map.pendingLbns, t.map.overflow) = pendingOffered b.lbn s.map.pendingLbns s.map.overflow) ∧
       ((s.tag n).cur = none → (s.tag n).prog = none → HealthKept s t ∧ t.attn = s.attn) := by
  have hl : (s.tag n).state.live = true := by rcases hs with e | e <;> rw [e] <;> rfl
  have htag : (aborting v n s).tag n = (s.tag n).aborted false s.cfg.refreshLevel := by
    rw [aborting_tag, if_pos rfl, beq_eq_false_iff_ne.2 hop]
  have hidle := abortTag_idle (s := abortAsked v s) hs hop
  obtain ⟨⟨hdone, hfinal, hnq, hslot, hsvc⟩, -⟩ := aborting_doneWith (v := v) hq hl fun _ => hop
  refine ⟨_, exec_abort_live hr hv hl ha, hdone, hfinal, hnq, hslot, hsvc, by simp, by simp,
    arrayKept_of_eq (by simp) (by simp), fun c hc => ?_, fun b hc hb => ?_, fun hc hb => ?_⟩
  · have hab : (s.tag n).aborted false s.cfg.refreshLevel =
        ((s.tag n).takeRead c.lbn s.cfg.refreshLevel .uncorrectable).finished .aborted := by
      rcases hs with e | e <;> simp [Tag.aborted, e, hc]
    have heq : aborting v n s = setAbortIgnored false (finish n .aborted
        ((handOff c.lbn .uncorrectable (abortAsked v s)).modTag n
          (Tag.takeRead c.lbn s.cfg.refreshLevel .uncorrectable))) := by
      rw [aborting, hidle]
      simp only [show ((abortAsked v s).tag n).cur = some c from hc]
      rfl
    refine ⟨?_, ?_, ?_, ?_⟩
    · rw [settle_tag_completed, htag, hab]
      rfl
    · rw [settle_tag_firstFail, htag, hab]
      rfl
    · rw [settle_pending, heq]
      exact (offerPending_lists c.lbn (abortAsked v s)).1
    · have hraw : ((aborting v n s).cond[CondId.uncorrectableReads]).raw =
          oneMore (s.cond[CondId.uncorrectableReads]).raw := by
        rw [heq]
        have h₁ : RawKept [CondId.pendingBlocks] s (offerPending c.lbn (abortAsked v s)) :=
          offerPending_rawKept c.lbn (abortAsked v s)
        exact (h₁.trans_counted (bump_rawCounted _ _ _) (by decide)).1
      simpa using hraw
  · have hab : (s.tag n).aborted false s.cfg.refreshLevel = (s.tag n).counted.finished .aborted := by
      rcases hs with e | e <;> simp [Tag.aborted, e, hc, hb]
    have heq : aborting v n s = setAbortIgnored false (endUnresolved n b.lbn .aborted (abortAsked v s)) := by
      rw [aborting, hidle]
      simp only [show ((abortAsked v s).tag n).cur = none from hc, show ((abortAsked v s).tag n).prog = some b from hb]
    refine ⟨?_, ?_⟩
    · rw [settle_tag_completed, htag, hab]
      rfl
    · rw [settle_pending, heq]
      exact (endUnresolved_lists n b.lbn .aborted (abortAsked v s)).1
  · have heq : aborting v n s = setAbortIgnored false (finish n .aborted (abortAsked v s)) := by
      rw [aborting, hidle]
      simp only [show ((abortAsked v s).tag n).cur = none from hc, show ((abortAsked v s).tag n).prog = none from hb]
    have hcond : (aborting v n s).cond = s.cond := by rw [heq]; rfl
    have hmap : (aborting v n s).map = s.map := by rw [heq]; rfl
    exact ⟨⟨by simp, by simp, by simp [hmap], by simp [hmap], by simp [hcond]⟩,
      (settle_attn s _ hcond).trans (by simp)⟩

/-- Settles O12, by the state of the tag and its operation. -/
theorem abortOfLiveTag : Obligations.AbortOfLiveTag := ⟨abort_of_waiting, abort_of_inOp, abort_of_idle⟩

/-! ## The abort of every live tag -/

/-- The abort of every tag in the queue, with its register. -/
def abortingAll (s : State) : State := abortEvery (abortAsked abortAll s)

theorem exec_abort_all {s : State} (hr : s.rstnLow = false) :
    exec (.abortRequest 0x8000#16) s = .next (settle s (abortingAll s)) :=
  (exec_abortRequest (v := abortAll) hr).trans (by rw [abortWanted_all]; rfl)

theorem abortingAll_cases {s : State} (hq : s.req.queue ≠ []) :
    ∃ b, abortingAll s = setAbortIgnored b ((abortAsked abortAll s).req.queue.foldl abortTag (abortAsked abortAll s)) ∧
      ((∃ n ∈ s.req.queue, (s.tag n).abortMark = false) → b = false) := by
  unfold abortingAll abortEvery
  have hne : ¬ (abortAsked abortAll s).req.queue.isEmpty = true := by simpa [abortAsked] using hq
  rw [if_neg hne]
  dsimp only
  split
  · exact ⟨false, rfl, fun _ => rfl⟩
  · rename_i hfresh
    refine ⟨s.req.abortIgnored, ?_, fun h => absurd ?_ hfresh⟩
    · have : ((abortAsked abortAll s).req.queue.foldl abortTag (abortAsked abortAll s)).req.abortIgnored =
          s.req.abortIgnored := by simp [abortAsked]
      rw [← this]
      rfl
    · obtain ⟨n, hn, hm⟩ := h
      refine List.any_eq_true.2 ⟨n, hn, ?_⟩
      change (!(s.tag n).abortMark) = true
      simp [hm]

theorem abortingAll_tag {s : State} (hq : s.req.queue ≠ []) (u : TagNo) :
    (abortingAll s).tag u =
      if u ∈ s.req.queue then (s.tag u).aborted (opTag s == some u) s.cfg.refreshLevel else s.tag u := by
  obtain ⟨b, e, -⟩ := abortingAll_cases hq
  rw [e]
  exact foldl_abortTag_tag _ (abortAsked abortAll s) u

theorem abortingAll_slot {s : State} (hq : s.req.queue ≠ []) (k : SlotNo) :
    (abortingAll s).slot k =
      if ∃ t ∈ s.req.queue, (s.slot k).owner = some t ∧
          (s.tag t).abortedFrees (opTag s == some t) (s.slot k).state = true then Slot.free
      else s.slot k := by
  obtain ⟨b, e, -⟩ := abortingAll_cases hq
  rw [e]
  exact foldl_abortTag_slot _ (abortAsked abortAll s) k

/-- A slot that a tag keeps through the abort is as it was, and was not freed. -/
theorem abortingAll_keptSlot {s : State} {n : TagNo} (hq : n ∈ s.req.queue) {k : SlotNo}
    (hk : ((abortingAll s).slot k).owner = some n) :
    (abortingAll s).slot k = s.slot k ∧ (s.tag n).abortedFrees (opTag s == some n) (s.slot k).state = false := by
  have hne : s.req.queue ≠ [] := List.ne_nil_of_mem hq
  rw [abortingAll_slot hne] at hk ⊢
  split at hk
  · cases hk
  · rename_i hno
    rw [if_neg hno]
    refine ⟨rfl, ?_⟩
    by_contra hf
    exact hno ⟨n, hq, hk, by simpa using hf⟩

theorem abortingAll_keeps {s : State} (hq : s.req.queue ≠ []) :
    (abortingAll s).array = s.array ∧ (abortingAll s).req.queue = s.req.queue ∧
      ((∃ n ∈ s.req.queue, (s.tag n).abortMark = false) → (abortingAll s).req.abortIgnored = false) := by
  obtain ⟨b, e, hb⟩ := abortingAll_cases hq
  rw [e]
  refine ⟨?_, ?_, fun h => hb h⟩ <;> simp [setAbortIgnored, abortAsked]

/-- Settles O13. -/
theorem abortAllReachesEveryLiveTag : Obligations.AbortAllReachesEveryLiveTag := by
  intro s hr ⟨hnd, hmem, hurg, hopAct, hwait⟩ hq
  obtain ⟨harray, hqueue, hignored⟩ := abortingAll_keeps hq
  refine ⟨_, exec_abort_all hr, fun n hl hop => ?_, fun n hop => ?_, fun n hl => ?_, fun h => ?_, ?_⟩
  · have hn := (hmem n).2 hl
    refine aborted_doneWith hn hl (fun _ => hop) ?_ fun k hk => (abortingAll_keptSlot hn hk).2
    rw [abortingAll_tag hq, if_pos hn]
  · have ha := hopAct n hop
    have hn := (hmem n).2 (by rw [ha]; rfl)
    have htag : (abortingAll s).tag n =
        if ((s.tag n).wpMark || (s.tag n).abortMark) = true then s.tag n else (s.tag n).markAbort := by
      rw [abortingAll_tag hq, if_pos hn]
      simp [Tag.aborted, ha, hop]
    have hstate : ((abortingAll s).tag n).state = .active := by
      rw [htag]
      split <;> exact ha
    have hkeep := settle_tag_keeps s (abortingAll s) n
    obtain ⟨-, -, -, -, -, -, -, -, -, -, -, -, -, -, hab, hwp, -⟩ := hkeep
    refine ⟨settle_staysIn_active s _ n (by rwa [hqueue]) hstate, ?_, ?_, fun hab' hwp' hok => ?_⟩
    · rw [hwp, htag]
      split <;> rfl
    · rw [hab, htag]
      split
      · rename_i hm
        cases h1 : (s.tag n).wpMark <;> simp_all
      · rename_i hm
        have hm' : (s.tag n).wpMark = false ∧ (s.tag n).abortMark = false := by simpa using hm
        simp [Tag.markAbort, hm'.1]
    · have hmark : (abortingAll s).tag n = (s.tag n).markAbort := by
        rw [htag, if_neg]
        simp [hab', hwp']
      refine onlyBusySlots_of_marked hstate (.inl (by rw [hmark]; rfl)) hok fun k hk => ?_
      obtain ⟨e, hf⟩ := abortingAll_keptSlot hn hk
      refine ⟨e, ?_⟩
      simpa [Tag.abortedFrees, ha, hop, hab', hwp'] using hf
  · have hn : n ∉ s.req.queue := fun hn => by
      rw [hmem, hl] at hn
      cases hn
    have htag : (abortingAll s).tag n = s.tag n := by rw [abortingAll_tag hq, if_neg hn]
    rw [settle_tag_of_over, htag]
    all_goals
      rw [htag]
      intro e
      rw [e] at hl
      cases hl
  · simpa using hignored h
  · refine arrayKept_of_eq ?_ ?_ <;> simp [harray]

end Sys2Proof.Machine
end

section
/-! PROOFS. O19: the last word of a slot moves through the Data Port. -/
namespace Sys2Proof.Machine

/-! ## The slot that serves the port -/

/-- The slot that is chosen has the lowest bound LBN (R41, R97). -/
theorem lowestBound_le {s : State} {l : List SlotNo} {k : SlotNo} (h : lowestBound s l = some k) :
    ∀ m ∈ l, (s.slot k).lbn.getD 0 ≤ (s.slot m).lbn.getD 0 := by
  induction l generalizing k with
  | nil => cases h
  | cons n ns ih =>
    intro m hm
    unfold lowestBound at h
    cases hns : lowestBound s ns with
    | none =>
      have hnil : ns = [] := by
        by_contra hne
        obtain ⟨k', hk'⟩ := lowestBound_isSome s ns hne
        rw [hns] at hk'
        cases hk'
      simp only [hns, Option.some.injEq] at h
      subst hnil h
      rw [List.mem_singleton.1 hm]
    | some k' =>
      have hle := ih hns
      simp only [hns] at h
      split at h <;> cases h
      · rename_i hnk
        rcases List.mem_cons.1 hm with rfl | hm
        · exact Nat.le_refl _
        · exact Nat.le_trans hnk (hle m hm)
      · rename_i hnk
        rcases List.mem_cons.1 hm with rfl | hm
        · omega
        · exact hle m hm

/-- A slot whose bound LBN lies below all others is the one chosen. -/
theorem lowestBound_eq {s : State} {l : List SlotNo} {k : SlotNo} (hk : k ∈ l)
    (h : ∀ m ∈ l, m ≠ k → (s.slot k).lbn.getD 0 < (s.slot m).lbn.getD 0) : lowestBound s l = some k := by
  obtain ⟨m, hm⟩ := lowestBound_isSome s l (List.ne_nil_of_mem hk)
  by_cases e : m = k
  · rw [hm, e]
  · have h₁ := lowestBound_le hm k hk
    have h₂ := h m (lowestBound_mem hm) e
    omega

theorem readable_iff (st : SlotState) : st.readable = true ↔ st = .full ∨ st = .draining := by
  cases st <;> simp [SlotState.readable]

theorem fillable_iff (st : SlotState) : st.fillable = true ↔ st = .reserved ∨ st = .filling := by
  cases st <;> simp [SlotState.fillable]

/-- A live READ tag is served from its readable slot with the lowest LBN. -/
theorem readPortSlot_eq {s : State} {u : TagNo} {n : SlotNo} {l : Nat} (hl : (s.tag u).state.live = true)
    (hk : (s.tag u).kind = .read) (ho : (s.slot n).owner = some u)
    (hs : (s.slot n).state = .full ∨ (s.slot n).state = .draining) (hlbn : (s.slot n).lbn = some l)
    (hm : ∀ m, m ≠ n → (s.slot m).owner = some u → ((s.slot m).state = .full ∨ (s.slot m).state = .draining) →
      ∃ k, (s.slot m).lbn = some k ∧ l < k) : readPortSlot s u = some n := by
  unfold readPortSlot
  rw [if_pos (by simp [hl, hk])]
  refine lowestBound_eq ((mem_slotsOf s u _ n).2 ⟨ho, (readable_iff _).2 hs⟩) fun m hmem hne => ?_
  obtain ⟨ho', hs'⟩ := (mem_slotsOf s u _ m).1 hmem
  obtain ⟨k, hk', hlt⟩ := hm m hne ho' ((readable_iff _).1 hs')
  rw [hlbn, hk']
  exact hlt

/-- A live WRITE tag is served from its one fillable slot. -/
theorem writePortSlot_eq {s : State} {u : TagNo} {n : SlotNo} (hl : (s.tag u).state.live = true)
    (hk : (s.tag u).kind = .write) (ho : (s.slot n).owner = some u)
    (hs : (s.slot n).state = .reserved ∨ (s.slot n).state = .filling)
    (hm : ∀ m, m ≠ n → (s.slot m).owner = some u → (s.slot m).state ≠ .reserved ∧ (s.slot m).state ≠ .filling) :
    writePortSlot s u = some n := by
  unfold writePortSlot
  rw [if_pos (by simp [hl, hk])]
  have hn : n ∈ slotsOf s u SlotState.fillable := (mem_slotsOf s u _ n).2 ⟨ho, (fillable_iff _).2 hs⟩
  have hall : ∀ m ∈ slotsOf s u SlotState.fillable, m = n := fun m hmem => by
    obtain ⟨ho', hs'⟩ := (mem_slotsOf s u _ m).1 hmem
    by_contra hne
    obtain ⟨h₁, h₂⟩ := hm m hne ho'
    rcases (fillable_iff _).1 hs' with e | e
    · exact h₁ e
    · exact h₂ e
  cases hlist : slotsOf s u SlotState.fillable with
  | nil =>
    rw [hlist] at hn
    cases hn
  | cons a rest =>
    rw [hall a (by rw [hlist]; exact List.mem_cons_self ..)]
    rfl

/-! ## A block is delivered -/

/-- The block's slot is freed and delivered rises (R41). -/
def delivered (u : TagNo) (n : SlotNo) (s : State) : State :=
  (freeSlot n s).modTag u fun x => { x with moved := x.moved + 1 }

theorem deliver_eq (u : TagNo) (n : SlotNo) (s : State) :
    deliver u n s =
      if ((delivered u n s).tag u).state == .ending && (slotsOf (delivered u n s) u SlotState.readable).isEmpty then
        finish u ((delivered u n s).tag u).soFar (delivered u n s)
      else delivered u n s := rfl

theorem delivered_tag_self (u : TagNo) (n : SlotNo) (s : State) :
    (delivered u n s).tag u = { s.tag u with moved := (s.tag u).moved + 1 } := by
  rw [delivered, modTag_tag, if_pos rfl]
  rfl

theorem delivered_slot (u : TagNo) (n : SlotNo) (s : State) (k : SlotNo) :
    (delivered u n s).slot k = if k = n then Slot.free else s.slot k := setSlot_slot s n k _

theorem deliver_slot_self (u : TagNo) (n : SlotNo) (s : State) : (deliver u n s).slot n = Slot.free := by
  have h : (delivered u n s).slot n = Slot.free := by rw [delivered_slot, if_pos rfl]
  rw [deliver_eq]
  split
  · rw [finish_slot_eq, h]
    exact if_neg nofun
  · exact h

theorem deliver_moved (u : TagNo) (n : SlotNo) (s : State) :
    ((deliver u n s).tag u).moved = (s.tag u).moved + 1 := by
  rw [deliver_eq]
  split
  · rw [finish_tag_eq, if_pos rfl, delivered_tag_self]
    rfl
  · rw [delivered_tag_self]

/-- The last block of an ENDING tag ends it. -/
theorem deliver_of_last {u : TagNo} {n : SlotNo} {s : State} (he : (s.tag u).state = .ending)
    (hm : ∀ m, m ≠ n → (s.slot m).owner = some u → (s.slot m).state ≠ .full ∧ (s.slot m).state ≠ .draining) :
    deliver u n s = finish u (s.tag u).soFar (delivered u n s) := by
  have hempty : (slotsOf (delivered u n s) u SlotState.readable).isEmpty = true := by
    by_contra h
    obtain ⟨m, ho, hs⟩ := (slotsOf_isEmpty (delivered u n s) u _).1 (by simpa using h)
    rw [delivered_slot] at ho hs
    split at ho
    · cases ho
    · rename_i hne
      rw [if_neg hne] at hs
      obtain ⟨h₁, h₂⟩ := hm m hne ho
      rcases (readable_iff _).1 hs with e | e
      · exact h₁ e
      · exact h₂ e
  rw [deliver_eq, if_pos, delivered_tag_self]
  rw [hempty, delivered_tag_self]
  simp [he]

theorem deliver_othersKept (u : TagNo) (n : SlotNo) (w : Word) (s : State) :
    OthersKept s (deliver u n (drive w s)) ∧ (deliver u n (drive w s)).cond = s.cond ∧
      (deliver u n (drive w s)).lastRead = w := by
  rw [deliver_eq]
  split <;> exact ⟨⟨rfl, rfl, ⟨rfl, rfl, rfl, rfl, rfl⟩, rfl, rfl, rfl, rfl, rfl, rfl, rfl, rfl, fun _ => rfl⟩, rfl, rfl⟩

/-! ## A block is received -/

/-- The slot that took the last word is FULL and bound to the tag's next block (R40). -/
theorem receive_slot_self (u : TagNo) (n : SlotNo) (s : State) (y : Slot) :
    (receive u n y s).slot n =
      { y with state := .full, lbn := some ((s.tag u).firstLbn + (s.tag u).moved) } := by
  have h := setSlot_slot s n n { y with state := .full, lbn := some ((s.tag u).firstLbn + (s.tag u).moved) }
  rw [if_pos rfl] at h
  exact h

theorem receive_keeps (u : TagNo) (n : SlotNo) (s : State) :
    (∀ y, ((receive u n y s).tag u).moved = (s.tag u).moved + 1) ∧ ∀ y, OthersKept s (receive u n y s) := by
  refine ⟨fun y => ?_, fun y => ⟨rfl, rfl, ⟨rfl, rfl, rfl, rfl, rfl⟩, rfl, rfl, rfl, rfl, rfl, rfl, rfl, rfl, fun _ => rfl⟩⟩
  rw [receive, modTag_tag, if_pos rfl]
  rfl

/-! ## The access with the last word -/

theorem exec_pdataRead_last {s : State} {n : SlotNo} (hr : s.rstnLow = false)
    (hn : readPortSlot s s.port.attached = some n) (hp : (s.slot n).pos = 255) :
    exec .pdataRead s =
      .next (settle s (deliver s.port.attached n (drive ((s.slot n).data.getD 255 0) s))) := by
  have h : readPort s = settle s (deliver s.port.attached n (drive ((s.slot n).data.getD 255 0) s)) := by
    simp only [readPort, hn, hp, Nat.lt_irrefl, if_false, Nat.reduceAdd]
  exact (busAccess_high s _ hr).trans (by rw [h])

theorem exec_pdataWrite_last {s : State} {n : SlotNo} {v : Word} (hr : s.rstnLow = false)
    (hn : writePortSlot s s.port.attached = some n) (hp : (s.slot n).pos = 255) :
    exec (.pdataWrite v) s = .next (settle s (receive s.port.attached n
      { s.slot n with state := .filling, pos := (s.slot n).pos + 1, data := (s.slot n).data ++ [v] } s)) := by
  have h : writePort v s = settle s (receive s.port.attached n
      { s.slot n with state := .filling, pos := (s.slot n).pos + 1, data := (s.slot n).data ++ [v] } s) := by
    simp only [writePort, hn, hp, Nat.lt_irrefl, if_false, Nat.reduceAdd]
  exact (busAccess_high s _ hr).trans (by rw [h])

/-- A slot that has become FULL stays, or the arbiter takes it for a program (R97). -/
theorem settle_slot_of_full (s₀ s : State) (k : SlotNo) (h : (s.slot k).state = .full) :
    (settle s₀ s).slot k = s.slot k ∨ (settle s₀ s).slot k = { s.slot k with state := .programming } := by
  rcases settle_slot s₀ s k with e | ⟨e, -⟩ | ⟨-, -, -, -, e, -⟩ | ⟨-, -, -, -, e⟩
  · exact .inl e
  · rw [h] at e
    cases e
  · rw [h] at e
    cases e
  · exact .inr e

/-- Settles O19. -/
theorem portMovesLastWord : Obligations.PortMovesLastWord := by
  refine ⟨fun n l s hr hq hl hk ho hs hlbn hm hp => ?_, fun n v s hr hl hk ho hs hm hp => ?_⟩
  · obtain ⟨hothers, hcond, hread⟩ := deliver_othersKept s.port.attached n ((s.slot n).data.getD 255 0) s
    refine ⟨_, exec_pdataRead_last hr (readPortSlot_eq hl hk ho hs hlbn hm) hp, by simpa using hread,
      settle_slotFreed _ _ n (deliver_slot_self ..), ?_, fun he hlast => ?_,
      hothers.trans (settle_othersKept s _ hcond)⟩
    · have hmoved := deliver_moved s.port.attached n (drive ((s.slot n).data.getD 255 0) s)
      simpa using hmoved
    · rw [deliver_of_last (s := drive ((s.slot n).data.getD 255 0) s) he hlast]
      obtain ⟨hd, hf, hnq, -, hsvc⟩ := settle_doneWith s (finish s.port.attached (s.tag s.port.attached).soFar
        (delivered s.port.attached n (drive ((s.slot n).data.getD 255 0) s))) s.port.attached
        (s.tag s.port.attached).soFar hq (by rw [finish_tag_eq, if_pos rfl]; rfl)
        (by rw [finish_tag_eq, if_pos rfl]; rfl) (ownsNoSlot_finish _ _ _)
      exact ⟨hd, hf, hnq, hsvc⟩
  · refine ⟨_, exec_pdataWrite_last hr (writePortSlot_eq hl hk ho hs hm) hp, ?_⟩
    have hslot := receive_slot_self s.port.attached n s
    obtain ⟨hmoved, hothers⟩ := receive_keeps s.port.attached n s
    refine ⟨?_, ?_, ?_, ?_, ?_, by simpa using hmoved _,
      by simp [receive], (hothers _).trans (settle_othersKept s _ rfl)⟩
    all_goals
      rcases settle_slot_of_full s _ n (congrArg Slot.state (hslot _)) with e | e <;> rw [e, hslot] <;> simp [ho, hp]

end Sys2Proof.Machine
end

section
/-! PROOFS. What the change to READ_ONLY does to the patrol, the causes, the command and the write tags (R147, R160, R161). -/
namespace Sys2Proof.Machine

/-! ## The patrol halts -/

/-- The patrol has halted (R147). -/
structure Halted (s t : State) : Prop where
  idle : t.patrol.state = .idle
  stopped : s.patrol.state ≠ .idle → t.patrol.mode = none ∧ t.patrol.status = .haltedReadOnly
  gap : t.patrol.gapTimer = none
  buffer : t.patrol.buf.valid = false

theorem haltScan_patrol (s : State) :
    (haltScan s).patrol.state = .idle ∧
      (s.patrol.state ≠ .idle → (haltScan s).patrol.mode = none ∧ (haltScan s).patrol.status = .haltedReadOnly) := by
  unfold haltScan
  split
  · rename_i h
    exact ⟨by simpa using h, fun hne => absurd (by simpa using h) hne⟩
  · exact ⟨rfl, fun _ => ⟨rfl, rfl⟩⟩

theorem resolveOwedRefresh_buf {s : State} (h : s.patrol.buf.valid = false) :
    (resolveOwedRefresh s).patrol.buf.valid = false := by
  unfold resolveOwedRefresh
  split
  · exact h
  · split
    · rfl
    · exact h

theorem haltWork_halted (s : State) : Halted s (haltWork s) := by
  obtain ⟨hidle, hstop⟩ := haltScan_patrol s
  refine ⟨?_, fun h => ?_, ?_, resolveOwedRefresh_buf rfl⟩
  · simpa [haltWork] using hidle
  · simpa [haltWork] using hstop h
  · simp [haltWork]

theorem haltPatrol_halted (s : State) : Halted s (haltPatrol s) := by
  have h := haltWork_halted s
  rcases haltPatrol_cases s with e | ⟨r, -, -, e⟩
  · exact e ▸ h
  · rw [e]
    exact ⟨by simpa using h.idle, fun hne => by simpa using h.stopped hne, by simpa using h.gap,
      by simpa using h.buffer⟩

theorem becomeReadOnly_halted (s : State) : Halted s (becomeReadOnly s) := by
  unfold becomeReadOnly
  obtain ⟨hidle, hstop, hgap, hbuf⟩ :=
    haltPatrol_halted (s.req.queue.foldl readOnlyTag (latch .fault { s with jrnl := { s.jrnl with mode := .readOnly } }))
  exact ⟨by simpa using hidle, fun h => by simpa using hstop (by simpa using h), by simpa using hgap,
    by simpa using hbuf⟩

/-- A halted patrol stays so to the end of the event. -/
theorem Halted.settle {s₁ s : State} (h : Halted s₁ s) (s₀ : State) : Halted s₁ (settle s₀ s) := by
  refine ⟨?_, fun hne => by simpa using h.stopped hne, by simpa using h.gap, by simpa using h.buffer⟩
  rcases settle_patrol_state s₀ s with e | ⟨e, -⟩
  · rw [e, h.idle]
  · rw [h.idle] at e
    cases e

/-! ## Causes -/

theorem setPatrolStatus_keeps_bits {st : PatrolStatus} {s : State} {k : Nat} (h : s.attn.latched.getLsbD k = true) :
    (setPatrolStatus st s).attn.latched.getLsbD k = true := by
  unfold setPatrolStatus
  dsimp only
  split
  · exact h
  · exact latch_keeps_bits _ _ k h

theorem haltPatrol_keeps_bits {s : State} {k : Nat} (h : s.attn.latched.getLsbD k = true) :
    (haltPatrol s).attn.latched.getLsbD k = true := by
  have hscan : (haltScan s).attn.latched.getLsbD k = true := by
    unfold haltScan
    split
    · exact h
    · exact setPatrolStatus_keeps_bits h
  rcases haltPatrol_cases s with e | ⟨r, -, -, e⟩
  · rw [e]
    simpa only [haltWork, resolveOwedRefresh_keeps, discardBuffer_keeps] using hscan
  · rw [e]
    simpa only [closeBgRead_keeps, haltWork, resolveOwedRefresh_keeps, discardBuffer_keeps] using hscan

theorem failWaitingCommand_keeps_bits {s : State} {k : Nat} (h : s.attn.latched.getLsbD k = true) :
    (failWaitingCommand s).attn.latched.getLsbD k = true := by
  unfold failWaitingCommand
  split
  · exact h
  · split
    · exact latch_keeps_bits _ _ k h
    · exact h

/-- FAULT is latched (R160). -/
theorem becomeReadOnly_fault (s : State) : (becomeReadOnly s).attn.latched.getLsbD 4 = true := by
  unfold becomeReadOnly
  refine failWaitingCommand_keeps_bits (haltPatrol_keeps_bits ?_)
  rw [foldl_attn _ (fun s t => by simp)]
  exact latch_sets .fault _

/-! ## Conditions -/

/-- The thresholds are as before, and so are the raw values outside `ids`. -/
structure CondKept (ids : List CondId) (s t : State) : Prop where
  threshold : ∀ i : CondId, (t.cond[i]).threshold = (s.cond[i]).threshold
  raw : RawKept ids s t

theorem condKept_of_cond {s t : State} (h : t.cond = s.cond) (ids : List CondId) : CondKept ids s t :=
  ⟨fun i => by rw [h], rawKept_of_cond h ids⟩

theorem CondKept.trans {ids : List CondId} {s t u : State} (h : CondKept ids s t) (h' : CondKept ids t u) :
    CondKept ids s u := ⟨fun i => (h'.threshold i).trans (h.threshold i), h.raw.trans h'.raw⟩

theorem CondKept.mono {ids ids' : List CondId} {s t : State} (h : CondKept ids s t) (hi : ids ⊆ ids') :
    CondKept ids' s t := ⟨h.threshold, h.raw.mono hi⟩

theorem foldl_condKept {α : Type} {ids : List CondId} (g : State → α → State) (h : ∀ s a, CondKept ids s (g s a))
    (l : List α) (s : State) : CondKept ids s (l.foldl g s) := by
  induction l generalizing s with
  | nil => exact condKept_of_cond rfl _
  | cons a as ih => exact (h s a).trans (ih (g s a))

theorem setCond_threshold (s : State) (i j : CondId) (c : Condition) (h : c.threshold = (s.cond[i]).threshold) :
    ((s.setCond i c).cond[j]).threshold = (s.cond[j]).threshold := by
  by_cases e : j = i
  · rw [e, setCond_same, h]
  · rw [setCond_other s i j c e]

theorem setRaw_condition_threshold (i : CondId) (v : Nat) (c : Condition) : (c.setRaw i v).threshold = c.threshold := by
  unfold Condition.setRaw
  split <;> rfl

theorem bump_condition_threshold (i : CondId) (c : Condition) : (c.bump i).threshold = c.threshold := by
  unfold Condition.bump
  split
  · rfl
  · exact setRaw_condition_threshold ..

theorem offerPending_condKept (l : Nat) (s : State) : CondKept [CondId.pendingBlocks] s (offerPending l s) := by
  refine ⟨fun i => ?_, offerPending_rawKept l s⟩
  unfold offerPending removeRefresh
  dsimp only
  split
  · rfl
  · split
    · exact setCond_threshold _ _ i _ (setRaw_condition_threshold ..)
    · rfl

theorem bump_condKept (s : State) (i : CondId) : CondKept [i] s (s.bump i) :=
  ⟨fun j => setCond_threshold s i j _ (bump_condition_threshold ..), fun j hj => by rw [bump_cond_other s i j (by simpa using hj)]⟩

/-- The conditions that the change to READ_ONLY counts: 6 for what it lists, and 3 for a read it gives up. -/
def readOnlyConds : List CondId := [CondId.pendingBlocks, CondId.uncorrectableReads]

theorem failWaitingCommand_cond (s : State) : (failWaitingCommand s).cond = s.cond := by simp

theorem endUnresolved_condKept (n : TagNo) (l : Nat) (st : Status) (s : State) :
    CondKept [CondId.pendingBlocks] s (endUnresolved n l st s) :=
  (offerPending_condKept l s).trans (condKept_of_cond (by simp [endUnresolved]) _)

theorem readOnlyTag_condKept (s : State) (t : TagNo) : CondKept [CondId.pendingBlocks] s (readOnlyTag s t) := by
  unfold readOnlyTag
  dsimp only
  repeat' split
  case h_1.isTrue b _ _ => exact endUnresolved_condKept t b.lbn .writeProtected s
  all_goals exact condKept_of_cond (by simp) _

theorem resolveOwedRefresh_condKept (s : State) : CondKept [CondId.pendingBlocks] s (resolveOwedRefresh s) := by
  unfold resolveOwedRefresh
  split
  · exact condKept_of_cond rfl _
  · rename_i b _
    split
    · have h : CondKept [CondId.pendingBlocks] s { s with patrol := { s.patrol with refreshBlock := none } } :=
        condKept_of_cond (by simp) _
      exact (h.trans (offerPending_condKept b.lbn _)).trans (condKept_of_cond (by simp) _)
    · exact condKept_of_cond rfl _

theorem closeBgRead_condKept (r : BackgroundRead) (s : State) :
    CondKept readOnlyConds s (closeBgRead r .uncorrectable s) := by
  have hclosed : CondKept readOnlyConds s { s with patrol := { s.patrol with bgRead := none } } :=
    condKept_of_cond (by simp) _
  have hoff : CondKept readOnlyConds s
      (handOff r.lbn .uncorrectable { s with patrol := { s.patrol with bgRead := none } }) := by
    rw [handOff_uncorrectable]
    exact (hclosed.trans ((offerPending_condKept r.lbn _).mono (by decide))).trans
      ((bump_condKept _ CondId.uncorrectableReads).mono (by decide))
  unfold closeBgRead
  dsimp only
  split
  · exact hoff.trans (condKept_of_cond (by simp) _)
  · exact hoff

theorem haltPatrol_condKept (s : State) : CondKept readOnlyConds s (haltPatrol s) := by
  have hscan : (haltScan s).cond = s.cond := by
    unfold haltScan
    split <;> simp
  have hwork : CondKept [CondId.pendingBlocks] s (haltWork s) := by
    unfold haltWork
    exact CondKept.trans (condKept_of_cond (by simp [hscan]) _) (resolveOwedRefresh_condKept _)
  have hwork' : CondKept readOnlyConds s (haltWork s) := hwork.mono (by decide)
  rcases haltPatrol_cases s with e | ⟨r, -, -, e⟩
  · exact e ▸ hwork'
  · rw [e]
    exact hwork'.trans (closeBgRead_condKept r _)

theorem becomeReadOnly_condKept (s : State) : CondKept readOnlyConds s (becomeReadOnly s) := by
  have h := foldl_condKept readOnlyTag readOnlyTag_condKept s.req.queue
    (latch .fault { s with jrnl := { s.jrnl with mode := .readOnly } })
  have h' : CondKept readOnlyConds s (s.req.queue.foldl readOnlyTag
      (latch .fault { s with jrnl := { s.jrnl with mode := .readOnly } })) := CondKept.mono ⟨h.threshold, h.raw⟩ (by decide)
  unfold becomeReadOnly
  exact (h'.trans (haltPatrol_condKept _)).trans (condKept_of_cond (failWaitingCommand_cond _) _)

/-! ## The command that waits -/

theorem failWaitingCommand_of_waits {s : State} {r : Running} {q : Nat} (hr : s.cmd.running = some r)
    (hq : r.waitsFor = some q) : failWaitingCommand s = completeCommand r.code .journalFault s := by
  unfold failWaitingCommand
  rw [hr]
  simp [hq]

theorem becomeReadOnly_cmd {s : State} {r : Running} {q : Nat} (hr : s.cmd.running = some r)
    (hq : r.waitsFor = some q) :
    (becomeReadOnly s).cmd = { s.cmd with running := none, result := .journalFault, resultCode := r.code } ∧
      (becomeReadOnly s).attn.latched.getLsbD 1 = true := by
  obtain ⟨x, hx, e⟩ : ∃ x : State, x.cmd = s.cmd ∧ becomeReadOnly s = failWaitingCommand x := ⟨_, by simp, rfl⟩
  rw [e, failWaitingCommand_of_waits (hx ▸ hr) hq, ← hx]
  exact ⟨rfl, latch_sets .command _⟩

/-! ## The write tags -/

/-- A live write tag is over, unless it is ACTIVE and its operation is in flight (R161). -/
theorem stopped_over {x : Tag} {inOp : Bool} (hw : x.kind.writes = true) (hl : x.state.live = true)
    (hop : x.state = .active → inOp = false) :
    (x.stopped inOp).state = .done ∧
      (x.stopped inOp).final = some (if x.state = .ending then .journalFault else .writeProtected) ∧
      ∀ st, x.stoppedFrees inOp st = true := by
  unfold Tag.stopped Tag.stoppedFrees
  rw [if_pos hw, hw]
  cases hs : x.state with
  | free | done =>
    rw [hs] at hl
    cases hl
  | held | queued | ending => exact ⟨rfl, rfl, fun _ => rfl⟩
  | active =>
    rw [hop hs]
    simp only [Bool.false_eq_true, reduceCtorEq, if_false]
    (repeat' split) <;> exact ⟨rfl, rfl, fun _ => rfl⟩

/-- Such a tag is DONE at the end of the event, whatever the event did besides the change. -/
theorem stopped_doneWith {s₀ s t : State} {n : TagNo} (h₀ : n ∈ s₀.req.queue) (hq : n ∈ s.req.queue)
    (hw : (s.tag n).kind.writes = true) (hl : (s.tag n).state.live = true)
    (hop : (s.tag n).state = .active → opTag s ≠ some n) (ht : t.tag n = (becomeReadOnly s).tag n)
    (hs : ∀ k, t.slot k = (becomeReadOnly s).slot k) :
    DoneWith (settle s₀ t) n (if (s.tag n).state = .ending then .journalFault else .writeProtected) := by
  obtain ⟨hd, hf, hfree⟩ := stopped_over (inOp := opTag s == some n) hw hl fun h => by simpa using hop h
  rw [becomeReadOnly_tag, if_pos hq] at ht
  rw [← ht] at hd hf
  refine settle_doneWith s₀ t n _ h₀ hd hf fun k hk => ?_
  rw [hs, becomeReadOnly_slot] at hk
  split at hk
  · cases hk
  · rename_i hno
    exact hno ⟨n, hq, hk, hfree _⟩

end Sys2Proof.Machine
end

section
/-! PROOFS. The end of a commit attempt (O36, O37). -/
namespace Sys2Proof.Machine

/-! ## The completion of a program -/

/-- The array after the end of a program: its content is stored, or is undefined, and the unit is idle. -/
def programmed (o : ArrayOp) (out : ProgramOutcome) (s : State) : State :=
  { s with array := { storeProgram o out s.array with op := none } }

theorem exec_programCompletion {o : ArrayOp} {s : State} (ho : s.array.op = some o)
    (hop : o.operation = .programBlock) (out : ProgramOutcome) :
    exec (.programBlockCompletion out) s = .next (settle s (programDone o out (programmed o out s))) := by
  change execProgramBlockCompletion out s = _
  unfold execProgramBlockCompletion
  rw [ho]
  simp only [hop, if_true]
  rfl

@[simp] theorem programmed_keeps (o : ArrayOp) (out : ProgramOutcome) (s : State) :
    (programmed o out s).req = s.req ∧ (programmed o out s).pool = s.pool ∧ (programmed o out s).svc = s.svc ∧
    (programmed o out s).map = s.map ∧ (programmed o out s).patrol = s.patrol ∧ (programmed o out s).jrnl = s.jrnl ∧
    (programmed o out s).cond = s.cond ∧ (programmed o out s).cmd = s.cmd ∧ (programmed o out s).cfg = s.cfg ∧
    (programmed o out s).attn = s.attn :=
  ⟨rfl, rfl, rfl, rfl, rfl, rfl, rfl, rfl, rfl, rfl⟩

@[simp] theorem programmed_records (o : ArrayOp) (out : ProgramOutcome) (s : State) :
    (∀ u, (programmed o out s).tag u = s.tag u) ∧ ∀ k, (programmed o out s).slot k = s.slot k :=
  ⟨fun _ => rfl, fun _ => rfl⟩

theorem programDone_journal {o : ArrayOp} (h : o.requester = .journal) (out : ProgramOutcome) (s : State) :
    programDone o out s = match out with
      | .pass => commitPass s
      | .fail => commitFail s := by
  unfold programDone
  simp only [h] <;> rfl

theorem nextRing_eq {p : Nat} (h : p ≤ 31) : nextRing p = (p + 1) % 32 := by
  unfold nextRing
  split <;> omega

/-! ## The journal and the patrol at the close of an event -/

theorem settle_mode (s₀ s : State) : (settle s₀ s).jrnl.mode = s.jrnl.mode := by simp

theorem settle_cmd (s₀ s : State) : (settle s₀ s).cmd = s.cmd := by simp

theorem arbitrate_jrnl_of_readOnly {s : State} (h : s.jrnl.mode = .readOnly) : (arbitrate s).jrnl = s.jrnl := by
  rcases arbitrate_cases s with e | ⟨g, -, hg, e⟩
  · rw [e]
  · rw [e]
    cases choose_cases hg with
    | ringRead p _ hm =>
      rw [h] at hm
      cases hm
    | commitFirst _ hm => exact absurd h hm
    | commitNext c _ hm => exact absurd h hm
    | tag n g pre post _ _ _ _ hg => cases hg <;> simp [applyGrant]
    | background g _ _ _ _ hg => cases hg <;> simp [applyGrant]

theorem settle_jrnl_of_readOnly (s₀ : State) {s : State} (h : s.jrnl.mode = .readOnly) :
    (settle s₀ s).jrnl = s.jrnl := by
  rw [settle_eq, arbitrate_jrnl_of_readOnly (by simpa using h)]
  simp

/-- With no commit in progress the arbiter starts one for the reason that is owed, or none (R154). -/
theorem settle_commit_of_none (s₀ : State) {s : State} (h : s.jrnl.commit = none) :
    (settle s₀ s).jrnl.commit = none ∨ (s.jrnl.commitNeeded = true ∧
      (settle s₀ s).jrnl.commit = some { sequence := s.jrnl.lastStarted + 1, attempts := 1 }) := by
  have hj : (closedEvent s₀ s).jrnl = s.jrnl := by simp
  rw [settle_eq]
  rcases arbitrate_jrnl (closedEvent s₀ s) with e | ⟨p, -, e⟩ | ⟨-, hn, i, e⟩ | ⟨c, hc, -⟩
  · exact .inl (by rw [e, hj, h])
  · exact .inl (by rw [e, hj]; exact h)
  · rw [hj] at hn e
    exact .inr ⟨hn, by rw [e]⟩
  · rw [hj, h] at hc
    cases hc

/-- A commit in progress gets its next attempt as soon as the unit is idle (R69, R156). -/
theorem settle_of_commit (s₀ : State) {s : State} {c : Commit} (ho : s.array.op = none) (hs : s.jrnl.scanNext = none)
    (hm : s.jrnl.mode ≠ .readOnly) (hc : s.jrnl.commit = some c) :
    settle s₀ s = grantCommitNext (closedEvent s₀ s) := by
  refine arbitrate_grant (closedEvent s₀ s) .commitNext (by simpa using ho) ?_
  unfold choose journalWork
  simp [hs, hm, hc]

theorem closedEvent_patrol_of_live {s₀ s : State} (hq : s₀.req.queue = s.req.queue) (hl : queueLive s) :
    (closedEvent s₀ s).patrol = s.patrol := by
  rw [(closedEvent_keeps s₀ s).2.2.2.2.2.2, closeQueue_eq]
  split
  · rename_i h
    simp only [Bool.and_eq_true, List.isEmpty_iff, Bool.not_eq_true', liveQueue_eq_nil] at h
    cases hs : s.req.queue with
    | nil =>
      rw [hq, hs] at h
      cases h.2
    | cons u us =>
      have hu : u ∈ s.req.queue := by simp [hs]
      have := h.1 u hu
      rw [hl u hu] at this
      cases this
  · simp [closedQueue]

/-! ## A pass -/

theorem releaseCommand_covered {s : State} {r : Running} {q c : Nat} (hr : s.cmd.running = some r)
    (hq : r.waitsFor = some q) (hle : q ≤ c) : releaseCommand c s = completeCommand r.code .ok s := by
  unfold releaseCommand
  simp only [hr, hq, if_pos hle]

theorem releaseCommand_waits {s : State} {r : Running} {q c : Nat} (hr : s.cmd.running = some r)
    (hq : r.waitsFor = some q) (hlt : c < q) : releaseCommand c s = s := by
  unfold releaseCommand
  simp only [hr, hq, if_neg (Nat.not_le.2 hlt)]

theorem endStartUp_keeps_bits {s : State} {k : Nat} (h : s.attn.latched.getLsbD k = true) :
    (endStartUp s).attn.latched.getLsbD k = true := by
  simp only [endStartUp, startQuiet_keeps]
  exact latch_keeps_bits _ _ k h

theorem endStartUp_start (s : State) : (endStartUp s).attn.latched.getLsbD 7 = true := by
  simp only [endStartUp, startQuiet_keeps]
  exact latch_sets .start _

@[simp] theorem endStartUp_keeps (s : State) :
    (endStartUp s).req = s.req ∧ (endStartUp s).pool = s.pool ∧ (endStartUp s).array = s.array ∧
    (endStartUp s).map = s.map ∧ (endStartUp s).jrnl = s.jrnl ∧ (endStartUp s).cond = s.cond ∧
    (endStartUp s).cmd = s.cmd := by
  simp [endStartUp]

/-- The tags and the command after a passed attempt, whether or not it ends start-up (R155, R166). -/
theorem commitPass_shared {s : State} {c : Commit} (h : s.jrnl.commit = some c) :
    (commitPass s).req = (commitReleased c s).req ∧ (commitPass s).pool = (commitReleased c s).pool ∧
    (commitPass s).map = s.map ∧ (commitPass s).jrnl = s.jrnl.passed c ∧
    (commitPass s).cond = (s.bump CondId.journalCommits).cond ∧ (commitPass s).cmd = (commitReleased c s).cmd ∧
    ∀ k, (commitReleased c s).attn.latched.getLsbD k = true → (commitPass s).attn.latched.getLsbD k = true := by
  have hmap : (commitReleased c s).map = s.map := by simp [commitReleased]
  have hjrnl : (commitReleased c s).jrnl = s.jrnl.passed c := by simp [commitReleased]
  have hcond : (commitReleased c s).cond = (s.bump CondId.journalCommits).cond := by
    simp only [commitReleased, releaseCommand_keeps]
    rw [foldl_cond _ fun s t => by simp]
    rfl
  rw [commitPass_eq h]
  split
  · exact ⟨by simp, by simp, by simp [hmap], by simp [hjrnl], by simp [hcond], by simp,
      fun k hk => endStartUp_keeps_bits hk⟩
  · exact ⟨rfl, rfl, hmap, hjrnl, hcond, rfl, fun _ => id⟩

theorem commitReleased_tag (c : Commit) (s : State) (u : TagNo) :
    (commitReleased c s).tag u = if u ∈ s.req.queue then (s.tag u).released c.sequence else s.tag u := by
  unfold commitReleased
  rw [(releaseCommand_records ..).1, foldl_releaseWaiter_tag]
  rfl

theorem commitReleased_slot (c : Commit) (s : State) (k : SlotNo) :
    (commitReleased c s).slot k =
      if ∃ t ∈ s.req.queue, (s.slot k).owner = some t ∧ releasedBy c.sequence (s.tag t) = true then Slot.free
      else s.slot k := by
  unfold commitReleased
  rw [(releaseCommand_records ..).2.1, foldl_releaseWaiter_slot]
  rfl

theorem commitReleased_cmd {c : Commit} {s : State} {r : Running} {q : Nat} (hr : s.cmd.running = some r)
    (hq : r.waitsFor = some q) :
    (q ≤ c.sequence → (commitReleased c s).cmd = { s.cmd with running := none, result := .ok, resultCode := r.code } ∧
      (commitReleased c s).attn.latched.getLsbD 1 = true) ∧
    (c.sequence < q → (commitReleased c s).cmd = s.cmd) := by
  obtain ⟨x, hx, e⟩ : ∃ x : State, x.cmd = s.cmd ∧ commitReleased c s = releaseCommand c.sequence x :=
    ⟨_, by simp, rfl⟩
  refine ⟨fun hle => ?_, fun hlt => ?_⟩
  · rw [e, releaseCommand_covered (hx ▸ hr) hq hle, ← hx]
    exact ⟨rfl, latch_sets .command _⟩
  · rw [e, releaseCommand_waits (hx ▸ hr) hq hlt, hx]

/-- A tag that waits for a commit is DONE once the commit covers it, and else waits on (R155). -/
theorem settle_commitPass_tag {s₀ s : State} {c : Commit} {n : TagNo} {q : Nat} (h : s.jrnl.commit = some c)
    (h₀ : n ∈ s₀.req.queue) (hn : n ∈ s.req.queue) (he : (s.tag n).state = .ending)
    (hw : (s.tag n).kind.writes = true) (hq : (s.tag n).needed = some q) :
    (q ≤ c.sequence → DoneWith (settle s₀ (commitPass s)) n (s.tag n).soFar) ∧
      (c.sequence < q → (settle s₀ (commitPass s)).tag n = s.tag n) := by
  obtain ⟨hreq, hpool, -⟩ := commitPass_shared h
  have htag : (commitPass s).tag n = (s.tag n).released c.sequence := by
    rw [tag_eq_of_req hreq, commitReleased_tag, if_pos hn]
  refine ⟨fun hle => ?_, fun hlt => ?_⟩
  · have hby : releasedBy c.sequence (s.tag n) = true := (releasedBy_iff ..).2 ⟨he, hw, q, hq, hle⟩
    rw [Tag.released, if_pos hby] at htag
    refine settle_doneWith s₀ _ n _ h₀ (by rw [htag]; rfl) (by rw [htag]; rfl) fun k hk => ?_
    rw [slot_eq_of_pool hpool, commitReleased_slot] at hk
    split at hk
    · cases hk
    · rename_i hno
      exact hno ⟨n, hn, hk, hby⟩
  · have hby : ¬ releasedBy c.sequence (s.tag n) = true := fun hby => by
      obtain ⟨-, -, m, hm, hle⟩ := (releasedBy_iff ..).1 hby
      rw [hq] at hm
      cases hm
      omega
    rw [Tag.released, if_neg hby] at htag
    rw [settle_tag_of_over _ _ _ (by simp [htag, he]) (by simp [htag, he]) (by simp [htag, he]), htag]

/-- Settles O36. -/
theorem commitPasses : Obligations.CommitPasses := by
  intro o c s ho hop hreq hc hpos
  have hc' : (programmed o .pass s).jrnl.commit = some c := hc
  obtain ⟨-, -, hmap, hjrnl, hcond, hcmd, hbits⟩ := commitPass_shared hc'
  have hexec := exec_programCompletion ho hop .pass
  rw [programDone_journal hreq] at hexec
  refine ⟨_, hexec, ?_, ?_, ?_, fun hm => ⟨?_, ?_⟩, fun hm => ?_, ?_, ?_, ?_, fun n hn he hw q hq =>
    settle_commitPass_tag hc' hn hn he hw hq, fun q hrun => ?_⟩
  · simp [hjrnl, Journal.passed]
  · simp [hjrnl, Journal.passed, nextRing_eq hpos]
  · have := settle_commit_of_none s (s := commitPass (programmed o .pass s)) (by rw [hjrnl]; rfl)
    rwa [hjrnl] at this
  · simp [hjrnl, Journal.passed, hm]
  · refine settle_keeps_bits _ _ 7 ?_
    rw [commitPass_eq hc', if_pos (by simpa using hm)]
    exact endStartUp_start _
  · simp [hjrnl, Journal.passed, hm]
  · have h := bump_rawCounted (programmed o .pass s) CondId.journalCommits []
    have hcond' : (settle s (commitPass (programmed o .pass s))).cond =
      ((programmed o .pass s).bump CondId.journalCommits).cond := by simp [hcond]
    exact h.of_kept (fun _ _ => rfl) (rawKept_of_cond hcond' _) (by simp)
  · simp [hmap]
  · simp [RemapKept, hmap]
  · obtain ⟨r, hr, hwait⟩ : ∃ r, s.cmd.running = some r ∧ r.waitsFor = some q := by
      rcases hrun with e | e <;> exact ⟨_, e, rfl⟩
    obtain ⟨hcov, hkeep⟩ := commitReleased_cmd (s := programmed o .pass s) (c := c) hr hwait
    refine ⟨fun hle => ?_, fun hlt => ?_⟩
    · obtain ⟨hcmd', hbit⟩ := hcov hle
      exact ⟨by simp [hcmd, hcmd'], by simp [hcmd, hcmd'], settle_keeps_bits _ _ 1 (hbits 1 hbit)⟩
    · simp [hcmd, hkeep hlt]

/-! ## A failure -/

theorem startQuiet_state_of_idle {s : State} (h : s.patrol.state = .idle) : (startQuiet s).patrol.state = .idle := by
  unfold startQuiet quietOver
  split
  · simp [h]
  · exact h

theorem Halted.endStartUp {s t : State} (h : Halted s t) : Halted s (endStartUp t) := by
  refine ⟨startQuiet_state_of_idle (by simpa using h.idle), fun hne => ?_, ?_, ?_⟩
  · simpa [Machine.endStartUp] using h.stopped hne
  · simpa [Machine.endStartUp] using h.gap
  · simpa [Machine.endStartUp] using h.buffer

theorem grantCommitNext_shows {s : State} {c : Commit} (h : s.jrnl.commit = some c) :
    (grantCommitNext s).jrnl.commit = some { c with attempts := c.attempts + 1 } ∧
    (grantCommitNext s).jrnl.imageBuffer = s.jrnl.imageBuffer ∧
    (grantCommitNext s).array.op =
      some (ringOp .programBlock .ringProgram s.jrnl.nextPos s.jrnl.imageBuffer.payload) ∧
    (grantCommitNext s).map = s.map ∧ (grantCommitNext s).patrol = s.patrol := by
  simp [grantCommitNext, h]

/-- The next attempt goes to the next position from the same image (R156, R157). -/
theorem commitSkipped_next {s : State} {o : ArrayOp} {c : Commit} (hc : s.jrnl.commit = some c)
    (hm : s.jrnl.mode ≠ .readOnly) (hpos : s.jrnl.nextPos ≤ 31) (hscan : s.jrnl.scanNext = none) (hlive : queueLive s) :
    let t := settle s (commitSkipped (programmed o .fail s))
    t.jrnl.commit = some { c with attempts := c.attempts + 1 } ∧ t.jrnl.imageBuffer = s.jrnl.imageBuffer ∧
      t.array.op = some { operation := .programBlock, pbn := 4064 + (s.jrnl.nextPos + 1) % 32, lbn := none,
                          requester := .journal, purpose := .ringProgram, data := .imageBuffer,
                          payload := s.jrnl.imageBuffer.payload } ∧
      t.map = s.map ∧ t.patrol.state = s.patrol.state := by
  intro t
  have ht : t = grantCommitNext (closedEvent s (commitSkipped (programmed o .fail s))) :=
    settle_of_commit s rfl hscan hm hc
  have hpatrol : (closedEvent s (commitSkipped (programmed o .fail s))).patrol = s.patrol :=
    closedEvent_patrol_of_live rfl hlive
  have hmap : (closedEvent s (commitSkipped (programmed o .fail s))).map = s.map := by
    rw [(closedEvent_keeps ..).2.1]
    rfl
  have hjrnl : (closedEvent s (commitSkipped (programmed o .fail s))).jrnl =
      { s.jrnl with nextPos := (s.jrnl.nextPos + 1) % 32 } := by
    rw [(closedEvent_keeps ..).2.2.1, ← nextRing_eq hpos]
    rfl
  obtain ⟨h₁, h₂, h₃, h₄, h₅⟩ := grantCommitNext_shows (s := closedEvent s (commitSkipped (programmed o .fail s)))
    (c := c) (by rw [hjrnl]; exact hc)
  rw [hjrnl] at h₂ h₃
  rw [ht]
  exact ⟨h₁, h₂, h₃, h₄.trans hmap, congrArg PatrolEngine.state (h₅.trans hpatrol)⟩

/-- The state in which the fourth failure leaves the machine (R156, R160). -/
def commitGivenUp (s : State) : State :=
  if s.jrnl.mode == .starting then endStartUp (becomeReadOnly (commitDropped s)) else becomeReadOnly (commitDropped s)

theorem commitGivenUp_shared (s : State) :
    (commitGivenUp s).req = (becomeReadOnly (commitDropped s)).req ∧
    (commitGivenUp s).pool = (becomeReadOnly (commitDropped s)).pool ∧
    (commitGivenUp s).jrnl = (becomeReadOnly (commitDropped s)).jrnl ∧
    (commitGivenUp s).cond = (becomeReadOnly (commitDropped s)).cond ∧
    (commitGivenUp s).cmd = (becomeReadOnly (commitDropped s)).cmd ∧ Halted s (commitGivenUp s) ∧
    (∀ k, (becomeReadOnly (commitDropped s)).attn.latched.getLsbD k = true →
      (commitGivenUp s).attn.latched.getLsbD k = true) ∧
    (s.jrnl.mode = .starting → (commitGivenUp s).attn.latched.getLsbD 7 = true) := by
  have hhalt : Halted s (becomeReadOnly (commitDropped s)) := by
    obtain ⟨h₁, h₂, h₃, h₄⟩ := becomeReadOnly_halted (commitDropped s)
    exact ⟨h₁, h₂, h₃, h₄⟩
  unfold commitGivenUp
  split
  · exact ⟨by simp, by simp, by simp, by simp, by simp, hhalt.endStartUp, fun k hk => endStartUp_keeps_bits hk,
      fun _ => endStartUp_start _⟩
  · rename_i hm
    exact ⟨rfl, rfl, rfl, rfl, rfl, hhalt, fun _ => id, fun h => absurd (by simpa using h) hm⟩

theorem commitFail_givenUp {s : State} {c : Commit} (hc : s.jrnl.commit = some c) (hm : s.jrnl.mode ≠ .readOnly)
    (ha : 4 ≤ c.attempts) : commitFail s = commitGivenUp s := by
  rw [commitFail_eq hc, if_neg (by simpa using hm), if_neg (Nat.not_lt.2 ha)]
  rfl

theorem commitFail_skips {s : State} {c : Commit} (hc : s.jrnl.commit = some c) (hm : s.jrnl.mode ≠ .readOnly)
    (ha : c.attempts < 4) : commitFail s = commitSkipped s := by
  rw [commitFail_eq hc, if_neg (by simpa using hm), if_pos ha]

theorem commitGivenUp_doneWith {s : State} {o : ArrayOp} {n : TagNo} (hn : n ∈ s.req.queue)
    (hl : (s.tag n).state.live = true) (hw : (s.tag n).kind.writes = true) :
    DoneWith (settle s (commitGivenUp (programmed o .fail s))) n
      (if (s.tag n).state = .ending then .journalFault else .writeProtected) := by
  obtain ⟨hreq, hpool, -⟩ := commitGivenUp_shared (programmed o .fail s)
  exact stopped_doneWith (s := commitDropped (programmed o .fail s)) hn hn hw hl (fun _ => nofun) (tag_eq_of_req hreq n)
    (slot_eq_of_pool hpool)

/-- Condition 11 counts the attempt (R156). -/
theorem commitFail_cond {s : State} {c : Commit} (hc : s.jrnl.commit = some c) (hm : s.jrnl.mode ≠ .readOnly) :
    ((commitFail s).cond[CondId.journalSkips]).raw = oneMore (s.cond[CondId.journalSkips]).raw := by
  have hskip : ((commitSkipped s).cond[CondId.journalSkips]).raw = oneMore (s.cond[CondId.journalSkips]).raw :=
    (bump_rawCounted { s with jrnl := { s.jrnl with nextPos := nextRing s.jrnl.nextPos } } CondId.journalSkips []).1
  by_cases ha : c.attempts < 4
  · rw [commitFail_skips hc hm ha, hskip]
  · obtain ⟨-, -, -, hcond, -⟩ := commitGivenUp_shared s
    rw [commitFail_givenUp hc hm (Nat.not_lt.1 ha), hcond,
      (becomeReadOnly_condKept (commitDropped s)).raw CondId.journalSkips (by decide)]
    exact hskip

theorem commitFail_common {s : State} {c : Commit} (hc : s.jrnl.commit = some c) (hm : s.jrnl.mode ≠ .readOnly) :
    (commitFail s).jrnl.nextPos = nextRing s.jrnl.nextPos ∧ (commitFail s).jrnl.lastDone = s.jrnl.lastDone := by
  by_cases ha : c.attempts < 4
  · rw [commitFail_skips hc hm ha]
    exact ⟨rfl, rfl⟩
  · obtain ⟨-, -, hj, -⟩ := commitGivenUp_shared s
    rw [commitFail_givenUp hc hm (Nat.not_lt.1 ha), hj]
    simp [commitDropped, commitSkipped]

theorem commitGivenUp_cmd {s : State} {r : Running} {q : Nat} (hr : s.cmd.running = some r)
    (hq : r.waitsFor = some q) :
    (commitGivenUp s).cmd = { s.cmd with running := none, result := .journalFault, resultCode := r.code } ∧
      (commitGivenUp s).attn.latched.getLsbD 1 = true := by
  obtain ⟨-, -, -, -, hcmd, -, hbits, -⟩ := commitGivenUp_shared s
  obtain ⟨h, hbit⟩ := becomeReadOnly_cmd (s := commitDropped s) hr hq
  exact ⟨hcmd.trans h, hbits 1 hbit⟩

/-- Settles O37. -/
theorem commitFails : Obligations.CommitFails := by
  intro o c s ho hop hreq hc hm hpos hscan hlive
  have hexec := exec_programCompletion ho hop .fail
  rw [programDone_journal hreq] at hexec
  obtain ⟨hnext, hlast⟩ := commitFail_common (s := programmed o .fail s) hc hm
  refine ⟨_, hexec, by simp [hnext, nextRing_eq hpos], by simp [hlast], ?_, fun ha => ?_, fun ha => ?_⟩
  · simpa using commitFail_cond (s := programmed o .fail s) hc hm
  · obtain ⟨hcommit, himage, hop', hmap, hpatrol⟩ := commitSkipped_next (o := o) hc hm hpos hscan hlive
    simp only [commitFail_skips (s := programmed o .fail s) hc hm ha]
    exact ⟨by rw [settle_mode]; rfl, hcommit, himage, hop', hmap, by rw [settle_cmd]; rfl, hpatrol⟩
  · obtain ⟨-, -, hjrnl, -, -, hhalt, hbits, hstart⟩ := commitGivenUp_shared (programmed o .fail s)
    have hmode : (commitGivenUp (programmed o .fail s)).jrnl.mode = .readOnly := by rw [hjrnl, becomeReadOnly_mode]
    obtain ⟨hidle, hstop, hgap, hbuf⟩ := hhalt.settle s
    simp only [commitFail_givenUp (s := programmed o .fail s) hc hm ha]
    refine ⟨by rw [settle_mode, hmode], ?_, settle_keeps_bits _ _ 4 (hbits 4 (becomeReadOnly_fault _)),
      fun h => settle_keeps_bits _ _ 7 (hstart h), fun n hn hl hw => commitGivenUp_doneWith hn hl hw, hidle, hstop, hgap,
      hbuf, fun q hrun => ?_⟩
    · rw [settle_jrnl_of_readOnly s hmode, hjrnl]
      simp [commitDropped]
    · obtain ⟨r, hr, hwait⟩ : ∃ r, s.cmd.running = some r ∧ r.waitsFor = some q := by
        rcases hrun with e | e <;> exact ⟨_, e, rfl⟩
      obtain ⟨hcmd, hbit⟩ := commitGivenUp_cmd (s := programmed o .fail s) hr hwait
      exact ⟨by rw [settle_cmd, hcmd], by rw [settle_cmd, hcmd], settle_keeps_bits _ _ 1 hbit⟩

end Sys2Proof.Machine
end

section
/-! PROOFS. The commands that wait for a commit, and the change to READ_ONLY that stops the write tags (O43). -/
namespace Sys2Proof.Machine

/-! ## What the change to READ_ONLY lists -/

/-- Nothing has left the pending list, and the overflow note has grown or reached its limit (R119, R122). -/
structure MoreListed (s t : State) : Prop where
  listed : ∀ l ∈ s.map.pendingLbns, l ∈ t.map.pendingLbns
  noted : t.map.overflow = s.map.overflow ∨ (s.map.overflow < t.map.overflow ∧ t.map.overflow < 65535) ∨
    t.map.overflow = 65535

theorem moreListed_of_map {s t : State} (hp : t.map.pendingLbns = s.map.pendingLbns)
    (ho : t.map.overflow = s.map.overflow) : MoreListed s t := ⟨fun _ hl => hp ▸ hl, .inl ho⟩

theorem MoreListed.trans {s t u : State} (h : MoreListed s t) (h' : MoreListed t u) : MoreListed s u := by
  refine ⟨fun l hl => h'.listed l (h.listed l hl), ?_⟩
  have h₁ := h.noted
  have h₂ := h'.noted
  omega

/-- An LBN that was offered is in the list, or noted. -/
def ListedOrNoted (l : Nat) (s t : State) : Prop :=
  l ∈ t.map.pendingLbns ∨ t.map.overflow = 65535 ∨ s.map.overflow < t.map.overflow

theorem ListedOrNoted.trans {l : Nat} {s t u : State} (h : ListedOrNoted l s t) (h' : MoreListed t u) :
    ListedOrNoted l s u := by
  rcases h with h | h
  · exact .inl (h'.listed l h)
  · have := h'.noted
    exact .inr (by omega)

theorem offerPending_cases (l : Nat) (s : State) :
    ((offerPending l s).map.pendingLbns = s.map.pendingLbns ∧ (offerPending l s).map.overflow = s.map.overflow ∧
        l ∈ s.map.pendingLbns) ∨
      ((offerPending l s).map.pendingLbns = s.map.pendingLbns ++ [l] ∧
        (offerPending l s).map.overflow = s.map.overflow) ∨
      ((offerPending l s).map.pendingLbns = s.map.pendingLbns ∧
        (offerPending l s).map.overflow = min 65535 (s.map.overflow + 1)) := by
  have h := (offerPending_lists l s).1
  unfold pendingOffered at h
  split at h
  · rename_i hm
    obtain ⟨hp, ho⟩ := Prod.mk.inj h
    exact .inl ⟨hp, ho, hm⟩
  · split at h
    · exact .inr (.inl (Prod.mk.inj h))
    · exact .inr (.inr (Prod.mk.inj h))

theorem offerPending_moreListed (l : Nat) (s : State) : MoreListed s (offerPending l s) := by
  rcases offerPending_cases l s with ⟨hp, ho, -⟩ | ⟨hp, ho⟩ | ⟨hp, ho⟩
  · exact moreListed_of_map hp ho
  · exact ⟨fun m hm => by simp [hp, hm], .inl ho⟩
  · exact ⟨fun m hm => hp ▸ hm, by omega⟩

theorem offerPending_listedOrNoted {l : Nat} {s₀ s : State} (h : MoreListed s₀ s) :
    ListedOrNoted l s₀ (offerPending l s) := by
  have := h.noted
  unfold ListedOrNoted
  rcases offerPending_cases l s with ⟨hp, -, hm⟩ | ⟨hp, -⟩ | ⟨-, ho⟩
  · exact .inl (hp ▸ hm)
  · exact .inl (by simp [hp])
  · exact .inr (by omega)

theorem endUnresolved_moreListed (n : TagNo) (l : Nat) (st : Status) (s : State) :
    MoreListed s (endUnresolved n l st s) :=
  (offerPending_moreListed l s).trans (moreListed_of_map (by simp [endUnresolved]) (by simp [endUnresolved]))

theorem readOnlyTag_moreListed (s : State) (n : TagNo) : MoreListed s (readOnlyTag s n) := by
  unfold readOnlyTag
  dsimp only
  repeat' split
  case h_1.isTrue b _ _ => exact endUnresolved_moreListed n b.lbn .writeProtected s
  all_goals exact moreListed_of_map (by simp) (by simp)

theorem foldl_readOnlyTag_moreListed (l : List TagNo) (s : State) : MoreListed s (l.foldl readOnlyTag s) := by
  induction l generalizing s with
  | nil => exact moreListed_of_map rfl rfl
  | cons n ns ih => exact (readOnlyTag_moreListed s n).trans (ih _)

theorem resolveOwedRefresh_moreListed (s : State) : MoreListed s (resolveOwedRefresh s) := by
  unfold resolveOwedRefresh
  split
  · exact moreListed_of_map rfl rfl
  · rename_i b _
    split
    · have h : MoreListed s { s with patrol := { s.patrol with refreshBlock := none } } :=
        moreListed_of_map (by simp) (by simp)
      exact (h.trans (offerPending_moreListed b.lbn _)).trans (moreListed_of_map (by simp) (by simp))
    · exact moreListed_of_map rfl rfl

theorem closeBgRead_moreListed (r : BackgroundRead) (s : State) :
    MoreListed s (closeBgRead r .uncorrectable s) := by
  have hclosed : MoreListed s { s with patrol := { s.patrol with bgRead := none } } :=
    moreListed_of_map (by simp) (by simp)
  have hoff : MoreListed s (handOff r.lbn .uncorrectable { s with patrol := { s.patrol with bgRead := none } }) := by
    rw [handOff_uncorrectable]
    exact (hclosed.trans (offerPending_moreListed r.lbn _)).trans (moreListed_of_map (by simp) (by simp))
  unfold closeBgRead
  dsimp only
  split
  · exact hoff.trans (moreListed_of_map (by simp) (by simp))
  · exact hoff

theorem haltPatrol_moreListed (s : State) : MoreListed s (haltPatrol s) := by
  have hscan : (haltScan s).map = s.map := by
    unfold haltScan
    split <;> simp
  have hwork : MoreListed s (haltWork s) := by
    unfold haltWork
    exact MoreListed.trans (moreListed_of_map (by simp [hscan]) (by simp [hscan])) (resolveOwedRefresh_moreListed _)
  rcases haltPatrol_cases s with e | ⟨r, -, -, e⟩
  · exact e ▸ hwork
  · rw [e]
    exact hwork.trans (closeBgRead_moreListed r _)

theorem failWaitingCommand_moreListed (s : State) : MoreListed s (failWaitingCommand s) :=
  moreListed_of_map (by simp) (by simp)

theorem readOnlyTag_of_owed {s : State} {n : TagNo} {b : BlockInProgram} (hw : (s.tag n).kind.writes = true)
    (ha : (s.tag n).state = .active) (hop : opTag s ≠ some n) (hb : (s.tag n).prog = some b) (ho : b.owed = true) :
    readOnlyTag s n = endUnresolved n b.lbn .writeProtected s := by
  unfold readOnlyTag
  simp [hw, ha, hop, hb, ho]

/-- The LBN that a write tag's block owes is listed or noted by the change to READ_ONLY, whichever tags come before and
after it in the queue (R18, R106). -/
theorem becomeReadOnly_listed {s : State} {n : TagNo} {b : BlockInProgram} (hn : n ∈ s.req.queue)
    (hw : (s.tag n).kind.writes = true) (ha : (s.tag n).state = .active) (hop : opTag s ≠ some n)
    (hb : (s.tag n).prog = some b) (ho : b.owed = true) : ListedOrNoted b.lbn s (becomeReadOnly s) := by
  obtain ⟨pre, post, hq, hpre⟩ := List.eq_append_cons_of_mem hn
  let f := latch .fault { s with jrnl := { s.jrnl with mode := .readOnly } }
  have hf : MoreListed s f := moreListed_of_map (by simp [f]) (by simp [f])
  have htag : (pre.foldl readOnlyTag f).tag n = s.tag n := by
    rw [foldl_readOnlyTag_tag, if_neg hpre]
    rfl
  have hop' : opTag (pre.foldl readOnlyTag f) ≠ some n := by
    rw [opTag_eq_of_array (s := s) (by simp [f])]
    exact hop
  have hstep : readOnlyTag (pre.foldl readOnlyTag f) n =
      endUnresolved n b.lbn .writeProtected (pre.foldl readOnlyTag f) :=
    readOnlyTag_of_owed (htag ▸ hw) (htag ▸ ha) hop' (htag ▸ hb) ho
  have hlist : ListedOrNoted b.lbn s (s.req.queue.foldl readOnlyTag f) := by
    rw [hq, List.foldl_append, List.foldl_cons, hstep]
    refine ListedOrNoted.trans ?_ (foldl_readOnlyTag_moreListed post _)
    have h : ListedOrNoted b.lbn s (offerPending b.lbn (pre.foldl readOnlyTag f)) :=
      offerPending_listedOrNoted (hf.trans (foldl_readOnlyTag_moreListed pre f))
    exact h.trans (moreListed_of_map (by simp [endUnresolved]) (by simp [endUnresolved]))
  unfold becomeReadOnly
  exact (hlist.trans (haltPatrol_moreListed _)).trans (failWaitingCommand_moreListed _)

/-! ## The tags after the change to READ_ONLY -/

/-- A write tag that goes on through the change to READ_ONLY: its operation is in flight (R18, R46). -/
theorem stopped_inOp {x : Tag} (hw : x.kind.writes = true) (ha : x.state = .active) :
    x.stopped true = if x.abortMark then x else x.markWp := by
  unfold Tag.stopped
  rw [if_pos hw, ha]
  rfl

theorem stopped_owed {x : Tag} {b : BlockInProgram} (hw : x.kind.writes = true) (ha : x.state = .active)
    (hb : x.prog = some b) (ho : b.owed = true) : (x.stopped false).completed = x.completed + 1 := by
  unfold Tag.stopped
  rw [if_pos hw, ha, hb]
  simp only [ho, if_true]
  rfl

theorem stopped_read {x : Tag} {inOp : Bool} (hw : x.kind.writes = false) : x.stopped inOp = x := by
  unfold Tag.stopped
  rw [if_neg (by simp [hw])]

theorem becomeReadOnly_marked {s₀ s : State} {n : TagNo} (hn : n ∈ s.req.queue) (hw : (s.tag n).kind.writes = true)
    (ha : (s.tag n).state = .active) (hop : opTag s = some n) :
    n ∈ (settle s₀ (becomeReadOnly s)).req.queue ∧
      ((s.tag n).abortMark = false → (settle s₀ (becomeReadOnly s)).tag n = { s.tag n with wpMark := true } ∧
        (SlotsOk s → OnlyBusySlots s (settle s₀ (becomeReadOnly s)) n)) ∧
      ((s.tag n).abortMark = true → (settle s₀ (becomeReadOnly s)).tag n = s.tag n) := by
  have htag : (becomeReadOnly s).tag n = if (s.tag n).abortMark then s.tag n else (s.tag n).markWp := by
    rw [becomeReadOnly_tag, if_pos hn, hop, beq_self_eq_true, stopped_inOp hw ha]
  have hactive : ((becomeReadOnly s).tag n).state = .active := by
    rw [htag]
    split <;> exact ha
  have hkept : ((becomeReadOnly s).tag n).abortMark = true ∨ ((becomeReadOnly s).tag n).wpMark = true →
      (settle s₀ (becomeReadOnly s)).tag n = (becomeReadOnly s).tag n := fun h => by
    rw [settle_tag_of_marked s₀ _ n h, releaseTag_of_ne_held _ _ (by simp [hactive])]
  refine ⟨(mem_settle_queue ..).2 ⟨by simpa using hn, by simp [hactive, TagState.live]⟩, fun hab => ?_, fun hab => ?_⟩
  · rw [hab] at htag
    refine ⟨(hkept (.inr (by rw [htag]; rfl))).trans htag, fun hok => ?_⟩
    have hkind : ((becomeReadOnly s).tag n).kind = (s.tag n).kind := by
      rw [htag]
      rfl
    refine onlyBusySlots_of_marked hactive (.inr ?_) hok fun k hk => ?_
    · rw [hkind]
      have hwp : ((becomeReadOnly s).tag n).wpMark = true := by
        rw [htag]
        rfl
      cases hkd : (s.tag n).kind <;> simp_all [Kind.writes]
    · rw [becomeReadOnly_slot] at hk ⊢
      split
      · rename_i hx
        rw [if_pos hx] at hk
        cases hk
      · rename_i hx
        rw [if_neg hx] at hk
        refine ⟨rfl, ?_⟩
        by_contra hrest
        refine hx ⟨n, hn, hk, ?_⟩
        simpa [Tag.stoppedFrees, hw, ha, hop, hab] using hrest
  · rw [hab] at htag
    have h' : ((becomeReadOnly s).tag n).abortMark = true := by
      rw [htag]
      exact hab
    exact (hkept (.inl h')).trans htag

theorem becomeReadOnly_owed {s₀ s : State} {n : TagNo} {b : BlockInProgram} (hn : n ∈ s.req.queue)
    (hw : (s.tag n).kind.writes = true) (ha : (s.tag n).state = .active) (hop : opTag s ≠ some n)
    (hb : (s.tag n).prog = some b) (ho : b.owed = true) :
    ((settle s₀ (becomeReadOnly s)).tag n).completed = (s.tag n).completed + 1 ∧
      ListedOrNoted b.lbn s (settle s₀ (becomeReadOnly s)) := by
  refine ⟨?_, (becomeReadOnly_listed hn hw ha hop hb ho).trans (moreListed_of_map (by simp) (by simp))⟩
  rw [settle_tag_completed, becomeReadOnly_tag, if_pos hn, beq_eq_false_iff_ne.2 hop, stopped_owed hw ha hb ho]

theorem becomeReadOnly_goesOn {s₀ s : State} {n : TagNo} (hn : n ∈ s.req.queue) (hw : (s.tag n).kind.writes = false)
    (hl : (s.tag n).state.live = true) :
    ((settle s₀ (becomeReadOnly s)).tag n).state.live = true ∧ n ∈ (settle s₀ (becomeReadOnly s)).req.queue ∧
      ProgressKept s (settle s₀ (becomeReadOnly s)) n := by
  have htag : (becomeReadOnly s).tag n = s.tag n := by
    rw [becomeReadOnly_tag, if_pos hn, stopped_read hw]
  refine ⟨by simp [htag, hl], (mem_settle_queue ..).2 ⟨by simpa using hn, by rw [htag, hl]⟩, ?_⟩
  unfold ProgressKept
  simp [htag]

theorem stoppedByReadOnly_settle {s₀ s : State} (hq : s₀.req.queue = s.req.queue) :
    StoppedByReadOnly s (settle s₀ (becomeReadOnly s)) := by
  intro n hn
  have hdone : (s.tag n).kind.writes = true → (s.tag n).state.live = true →
      ((s.tag n).state = .active → opTag s ≠ some n) → DoneWith (settle s₀ (becomeReadOnly s)) n
        (if (s.tag n).state = .ending then .journalFault else .writeProtected) := fun hw hl hop =>
    stopped_doneWith (hq ▸ hn) hn hw hl hop rfl fun _ => rfl
  refine ⟨fun hw => ⟨fun he => ?_, fun hwait => ?_, fun ha hop => ?_, fun ha hop => becomeReadOnly_marked hn hw ha hop⟩,
    fun hw hl => becomeReadOnly_goesOn hn hw hl⟩
  · simpa only [he, if_true] using hdone hw (by rw [he]; rfl) (by simp [he])
  · have h := hdone hw (by rcases hwait with e | e <;> rw [e] <;> rfl) (by rcases hwait with e | e <;> simp [e])
    rwa [if_neg (by rcases hwait with e | e <;> simp [e])] at h
  · have h := hdone hw (by rw [ha]; rfl) fun _ => hop
    rw [if_neg (by simp [ha])] at h
    exact ⟨h, fun b hb ho => becomeReadOnly_owed hn hw ha hop hb ho⟩

/-! ## The commands -/

/-- The machine with a command that waits for the next commit (R181, R182). -/
def waiting (r : Nat → Running) (s : State) : State :=
  commitReason { s with cmd := { s.cmd with running := some (r (s.jrnl.lastStarted + 1)) } }

theorem waitForCommit_eq (r : Nat → Running) (s : State) :
    waitForCommit r s =
      if 4294967295 ≤ s.jrnl.lastStarted ∧ s.jrnl.mode = .ready then becomeReadOnly (waiting r s) else waiting r s := by
  change checkSequence (waiting r s) = _
  unfold checkSequence
  refine if_congr ?_ rfl rfl
  rw [Bool.and_eq_true, Bool.and_eq_true, decide_eq_true_iff, beq_iff_eq]
  exact ⟨fun ⟨⟨_, hl⟩, hm⟩ => ⟨hl, hm⟩, fun ⟨hl, hm⟩ => ⟨⟨rfl, hl⟩, hm⟩⟩

theorem exec_conditionSave {hi : BitVec 8} {s : State} (hr : s.rstnLow = false) (hn : s.cmd.running = none)
    (hm : s.jrnl.mode = .ready) :
    exec (.conditionSave hi) s = .next (settle s (waitForCommit .conditionSave s)) := by
  refine (busAccess_high s requestSave hr).trans ?_
  simp [requestSave, requestCommand, takeSave, hn, hm]

theorem exec_thresholdLoad {hi : BitVec 8} {s : State} (hr : s.rstnLow = false) (hn : s.cmd.running = none)
    (hm : s.jrnl.mode = .ready) (hv : thresholdsValid s.cmd.buffer = true) :
    exec (.thresholdLoad hi) s = .next (settle s (waitForCommit .thresholdLoad (loadThresholds s))) := by
  refine (busAccess_high s requestThresholds hr).trans ?_
  simp [requestThresholds, requestCommand, takeThresholds, hn, hm, hv]

/-- The state differs from `s` in the thresholds alone. -/
structure SameButThresholds (s s' : State) : Prop where
  frame : s' = { s with cond := s'.cond }
  cond : ∀ i : CondId, (s'.cond[i]).raw = (s.cond[i]).raw ∧ (s'.cond[i]).grade = (s.cond[i]).grade ∧
    (s'.cond[i]).worst = (s.cond[i]).worst

theorem sameButThresholds_refl (s : State) : SameButThresholds s s := ⟨rfl, fun _ => ⟨rfl, rfl, rfl⟩⟩

theorem loadThresholds_cond (s : State) (i : CondId) :
    (loadThresholds s).cond[i] = { s.cond[i] with threshold := thresholdWord s.cmd.buffer i } := by
  simp [loadThresholds]

theorem loadThresholds_same (s : State) : SameButThresholds s (loadThresholds s) :=
  ⟨rfl, fun i => by rw [loadThresholds_cond]; exact ⟨rfl, rfl, rfl⟩⟩

/-- With a sequence left the command waits (R181, R182). -/
theorem settle_waiting {r : Nat → Running} {s s' : State} (h : SameButThresholds s s') (hm : s.jrnl.mode = .ready)
    (hlt : s.jrnl.lastStarted < 4294967295) :
    let t := settle s (waitForCommit r s')
    (reasonMade s t ∧ t.jrnl.mode = .ready ∧ t.cmd.result = s.cmd.result ∧
      t.cmd.buffer = s.cmd.buffer ∧ t.cmd.rptr = s.cmd.rptr ∧ RawKept [] s t ∧ RemapKept s t ∧
      t.map.pendingLbns = s.map.pendingLbns ∧ t.patrol.status = s.patrol.status ∧ t.cfg = s.cfg ∧ ArrayKept s t) ∧
    t.cmd.running = some (r (s.jrnl.lastStarted + 1)) ∧ t.cond = s'.cond := by
  obtain ⟨hframe, hcond⟩ := h
  have hw : waitForCommit r s' = waiting r s' := by
    rw [waitForCommit_eq, if_neg]
    rw [hframe]
    exact fun h => absurd hlt (Nat.not_lt.2 h.1)
  intro t
  have ht : t = settle s (waiting r s') := by rw [← hw]
  have hc : t.cond = s'.cond := by simp [ht, waiting]
  rw [ht] at hc ⊢
  have hraw : RawKept [] s (settle s (waiting r s')) := fun i _ => by rw [hc, (hcond i).1]
  refine ⟨⟨settle_reasonMade s _ s rfl (by rw [hframe]; rfl), ?_, ?_, ?_, ?_, hraw, ?_, ?_, ?_, ?_,
    arrayKept_of_eq ?_ ?_⟩, ?_, hc⟩
  all_goals
    rw [hframe]
    simp [waiting, hm, RemapKept]

/-- With the sequence exhausted the store becomes READ_ONLY and the command fails (R159). -/
theorem settle_exhausted {r : Nat → Running} {s s' : State} (h : SameButThresholds s s') (hm : s.jrnl.mode = .ready)
    (hl : s.jrnl.lastStarted = 4294967295) (hr : ∀ q, (r q).waitsFor = some q) :
    let t := settle s (waitForCommit r s')
    (t.jrnl.mode = .readOnly ∧ t.cmd.running = none ∧
      t.cmd.result = .journalFault ∧ t.cmd.resultCode = (r 4294967296).code ∧ t.attn.latched.getLsbD 1 = true ∧
      t.attn.latched.getLsbD 4 = true ∧ StoppedByReadOnly s t ∧ (s.array.op ≠ none → t.array.op = s.array.op) ∧
      t.patrol.state = .idle ∧ t.patrol.gapTimer = none ∧ t.patrol.buf.valid = false ∧ RemapKept s t ∧ ArrayKept s t) ∧
    ∀ i : CondId, (t.cond[i]).threshold = (s'.cond[i]).threshold := by
  obtain ⟨hframe, -⟩ := h
  have hw : waitForCommit r s' = becomeReadOnly (waiting r s') := by
    rw [waitForCommit_eq, if_pos]
    rw [hframe]
    exact ⟨Nat.le_of_eq hl.symm, hm⟩
  have hrun : (waiting r s').cmd.running = some (r 4294967296) := by
    rw [hframe]
    simp [waiting, hl]
  obtain ⟨hcmd, hbit⟩ := becomeReadOnly_cmd hrun (hr _)
  intro t
  have ht : t = settle s (becomeReadOnly (waiting r s')) := by rw [← hw]
  have hstop : StoppedByReadOnly s t := by
    have h := stoppedByReadOnly_settle (s₀ := s) (s := waiting r s') (by rw [hframe]; rfl)
    rw [ht]
    rw [hframe] at h ⊢
    exact h
  obtain ⟨hidle, -, hgap, hbuf⟩ := (becomeReadOnly_halted (waiting r s')).settle s
  rw [ht] at hstop ⊢
  refine ⟨⟨by simp, by simp [hcmd], by simp [hcmd], by simp [hcmd], settle_keeps_bits _ _ 1 hbit,
    settle_keeps_bits _ _ 4 (becomeReadOnly_fault _), hstop, fun hop => ?_, hidle, hgap, hbuf, ?_, ?_⟩, fun i => ?_⟩
  · have harr : (becomeReadOnly (waiting r s')).array = s.array := by
      rw [hframe]
      simp [waiting]
    rw [settle_of_busy _ _ (by rwa [harr]), (closedEvent_keeps ..).1, harr]
  · rw [hframe]
    simp [waiting, RemapKept]
  · refine arrayKept_of_eq ?_ ?_ <;> rw [hframe] <;> simp [waiting]
  · rw [(settle_keeps ..).2.2.2.1, (becomeReadOnly_condKept _).threshold]
    simp [waiting]

/-- Settles O43. -/
theorem commandsWaitForTheirCommit : Obligations.CommandsWaitForTheirCommit := by
  intro hi s hr hn hm waits fails
  have hsame := sameButThresholds_refl s
  have hload := loadThresholds_same s
  refine ⟨fun hlt => ⟨?_, fun hv => ?_⟩, fun hl => ⟨?_, fun hv => ?_⟩⟩
  · obtain ⟨hw, hrun, hcond⟩ := settle_waiting (r := .conditionSave) hsame hm hlt
    exact ⟨_, exec_conditionSave hr hn hm, hw, hcond, hrun⟩
  · obtain ⟨hw, hrun, hcond⟩ := settle_waiting (r := .thresholdLoad) hload hm hlt
    refine ⟨_, exec_thresholdLoad hr hn hm hv, hw, hrun, fun i => ?_⟩
    rw [hcond]
    exact ⟨(hload.cond i).2.1, (hload.cond i).2.2⟩
  · obtain ⟨hf, -⟩ := settle_exhausted (r := .conditionSave) hsame hm hl fun _ => rfl
    exact ⟨_, exec_conditionSave hr hn hm, hf⟩
  · obtain ⟨hf, hthr⟩ := settle_exhausted (r := .thresholdLoad) hload hm hl fun _ => rfl
    refine ⟨_, exec_thresholdLoad hr hn hm hv, hf, fun i => ?_⟩
    rw [hthr, loadThresholds_cond]

end Sys2Proof.Machine
end

section
/-! PROOFS. What the final outcome of a read does to the two lists and to the counts (R82, R83). -/
namespace Sys2Proof.Machine

/-! ## The class of an outcome -/

theorem classify_success (r : Bool) (out : ReadOutcome) :
    (classify r out).success = true ↔ out ≠ .uncorrectable := by
  cases out <;> cases r <;> simp [classify, ReadClass.success]

theorem classify_corrections (r : Bool) (out : ReadOutcome) : (classify r out).corrections = corrections out := by
  cases out <;> cases r <;> rfl

/-- The class is weak exactly as R81 says. -/
theorem classify_weak (level retries : Nat) (out : ReadOutcome) :
    (classify (decide (0 < retries)) out).weak level = true ↔ weakBlock level retries out := by
  by_cases hr : 0 < retries
  · cases out <;> simp [classify, ReadClass.weak, weakBlock, hr]
  · cases out <;> simp [classify, ReadClass.weak, weakBlock, corrections, hr]

/-! ## The lists -/

theorem handOff_map (l : Nat) (c : ReadClass) (s : State) : (handOff l c s).map = (handOffLists l c s).map := by
  unfold handOff handOffCount
  cases c <;> simp

theorem offerRefresh_refresh (l : Nat) (s : State) :
    (offerRefresh l s).map.refresh =
      if l ∉ s.map.pendingLbns ∧ l ∉ s.map.refresh ∧ s.map.refresh.length < 8 then s.map.refresh ++ [l]
      else s.map.refresh := by
  unfold offerRefresh
  by_cases h : l ∉ s.map.pendingLbns ∧ l ∉ s.map.refresh ∧ s.map.refresh.length < 8
  · obtain ⟨hp, hr, hlen⟩ := h
    simp [hp, hr, Nat.not_le.2 hlen, hlen]
  · rw [if_neg h, if_pos]
    simp only [Bool.or_eq_true, List.contains_iff_mem, decide_eq_true_eq]
    by_contra hno
    exact h ⟨fun hp => hno (.inl (.inl hp)), fun hr => hno (.inl (.inr hr)), Nat.lt_of_not_le fun hlen => hno (.inr hlen)⟩

/-- The lists after a success: the LBN leaves the pending list, and a weak block joins the refresh list (R82, R124). -/
theorem handOff_success {l level : Nat} {c : ReadClass} {s : State} (hs : c.success = true) (hl : s.cfg.refreshLevel = level) :
    (handOff l c s).map.pendingLbns = s.map.pendingLbns.erase l ∧ (handOff l c s).map.overflow = s.map.overflow ∧
      (handOff l c s).map.refresh =
        if c.weak level = true ∧ l ∉ s.map.pendingLbns.erase l ∧ l ∉ s.map.refresh ∧ s.map.refresh.length < 8 then
          s.map.refresh ++ [l]
        else s.map.refresh := by
  have hp := removePending_list l s
  rw [handOff_map]
  unfold handOffLists
  rw [if_pos hs]
  dsimp only
  have hcfg : (removePending l s).cfg.refreshLevel = level := by simpa using hl
  rw [hcfg]
  by_cases hw : c.weak level = true
  · rw [if_pos hw]
    refine ⟨by simp [hp], by simp, ?_⟩
    rw [offerRefresh_refresh, hp]
    simp [hw]
  · rw [if_neg hw]
    exact ⟨hp, by simp, by simp [hw]⟩

theorem handOff_failure (l : Nat) (s : State) :
    ((handOff l .uncorrectable s).map.pendingLbns, (handOff l .uncorrectable s).map.overflow) =
        pendingOffered l s.map.pendingLbns s.map.overflow ∧
      (handOff l .uncorrectable s).map.refresh = s.map.refresh.erase l := by
  rw [handOff_map]
  exact offerPending_lists l s

/-- What stands in the lists when the event closes. -/
theorem listsAfterRead_settle {l retries : Nat} {out : ReadOutcome} {s₀ s x : State}
    (h : x.map = (handOff l (classify (decide (0 < retries)) out) s).map) :
    ListsAfterRead l retries out s (settle s₀ x) := by
  have hrefresh := settle_refresh s₀ x
  have hpending := settle_pending s₀ x
  rw [h] at hrefresh hpending
  refine ⟨fun hout => ?_, fun hout => ?_⟩
  · subst hout
    obtain ⟨hlists, hkept⟩ := handOff_failure l s
    exact ⟨hpending.trans hlists, hkept ▸ hrefresh⟩
  · obtain ⟨hp, ho, hr⟩ := handOff_success (l := l) (s := s) ((classify_success (decide (0 < retries)) out).2 hout) rfl
    obtain ⟨hp', ho'⟩ := Prod.mk.inj hpending
    rw [hr] at hrefresh
    refine ⟨hp'.trans hp, ho'.trans ho, fun hweak => ?_, fun hno => ?_⟩
    · rwa [if_pos ⟨(classify_weak ..).2 hweak.1, hweak.2⟩] at hrefresh
    · rwa [if_neg fun hw => hno ⟨(classify_weak ..).1 hw.1, hw.2⟩] at hrefresh

/-! ## The counts -/

theorem offerRefresh_cond (l : Nat) (s : State) : (offerRefresh l s).cond = s.cond := by simp

theorem handOffLists_rawKept (l : Nat) (c : ReadClass) (s : State) :
    RawKept [CondId.pendingBlocks] s (handOffLists l c s) := by
  unfold handOffLists
  dsimp only
  split
  · split
    · exact (removePending_rawKept l s).trans (rawKept_of_cond (offerRefresh_cond ..) _)
    · exact removePending_rawKept l s
  · exact offerPending_rawKept l s

theorem handOff_counts (l retries : Nat) (out : ReadOutcome) (s : State) :
    CountsAfterRead retries out s (handOff l (classify (decide (0 < retries)) out) s) := by
  have hkept := handOffLists_rawKept l (classify (decide (0 < retries)) out) s
  have hcount : ∀ i, i ≠ CondId.pendingBlocks →
      RawCounted i [CondId.pendingBlocks] s ((handOffLists l (classify (decide (0 < retries)) out) s).bump i) :=
    fun i hi => hkept.trans_counted (bump_rawCounted _ i _) (by simpa using hi)
  unfold handOff handOffCount CountsAfterRead
  by_cases hr : 0 < retries
  · cases out <;> simp only [classify, raisedBy, hr, decide_true, if_true] at hcount ⊢ <;> exact hcount _ (by decide)
  · cases out <;> simp only [classify, raisedBy, hr, decide_false, Bool.false_eq_true, if_false] at hcount hkept ⊢
    · exact hkept
    · exact hcount _ (by decide)
    · exact hcount _ (by decide)

theorem CountsAfterRead.congr {retries : Nat} {out : ReadOutcome} {s t u : State} (h : CountsAfterRead retries out s t)
    (hc : u.cond = t.cond) : CountsAfterRead retries out s u := by
  unfold CountsAfterRead RawCounted RawKept at *
  simpa only [hc] using h

theorem countsAfterRead_settle {l retries : Nat} {out : ReadOutcome} {s₀ s x : State}
    (h : x.cond = (handOff l (classify (decide (0 < retries)) out) s).cond) :
    CountsAfterRead retries out s (settle s₀ x) :=
  (handOff_counts l retries out s).congr (by rw [(settle_keeps ..).2.2.2.1, h])

/-! ## The completion of a tag's read -/

theorem exec_readCompletion {o : ArrayOp} {s : State} {n : TagNo} (ho : s.array.op = some o)
    (hop : o.operation = .readBlock) (hr : o.requester = .tag n) (out : ReadOutcome) :
    exec (.readBlockCompletion out) s = .next (settle s (tagReadDone n o out (idleUnit s))) := by
  change execReadBlockCompletion out s = _
  unfold execReadBlockCompletion
  rw [ho]
  simp only [hop, if_true, readDone, hr]

/-- A read whose retries are spent, or whose tag is abort-marked, ends the block (R80, R18). -/
theorem tagReadDone_final {n : TagNo} {o : ArrayOp} {out : ReadOutcome} {s : State} {c : CurrentBlock}
    (hc : (s.tag n).cur = some c)
    (h : (s.tag n).abortMark = true ∨ (if (s.tag n).noRetry then 0 else s.cfg.retryLimit) ≤ c.retries ∨
      out ≠ .uncorrectable) :
    tagReadDone n o out s = tagReadFinal n o c.lbn (classify (decide (0 < c.retries)) out) s := by
  unfold tagReadDone
  simp only [hc]
  refine if_neg fun ⟨hout, hab, hlt⟩ => ?_
  rcases h with e | e | e
  · rw [hab] at e
    cases e
  · exact absurd hlt (Nat.not_lt.2 e)
  · exact e hout

/-- The block's outcome is taken into the tag, and handed off to the lists and the counts. -/
def readTaken (n : TagNo) (l : Nat) (c : ReadClass) (s : State) : State :=
  (handOff l c s).modTag n (Tag.takeRead l s.cfg.refreshLevel c)

theorem readTaken_tag (n u : TagNo) (l : Nat) (c : ReadClass) (s : State) :
    (readTaken n l c s).tag u = if u = n then (s.tag n).takeRead l s.cfg.refreshLevel c else s.tag u := by
  unfold readTaken
  rw [modTag_tag, (handOff_records ..).1, (handOff_records ..).1]

@[simp] theorem readTaken_keeps (n : TagNo) (l : Nat) (c : ReadClass) (s : State) :
    (readTaken n l c s).map = (handOff l c s).map ∧ (readTaken n l c s).cond = (handOff l c s).cond ∧
    (readTaken n l c s).pool = s.pool ∧ (readTaken n l c s).array = s.array ∧
    (readTaken n l c s).req.queue = s.req.queue := by
  simp [readTaken]

theorem tagReadFinal_aborted {n : TagNo} {o : ArrayOp} {l : Nat} {c : ReadClass} {s : State}
    (h : (s.tag n).abortMark = true) : tagReadFinal n o l c s = finish n .aborted (readTaken n l c s) := by
  change (if ((readTaken n l c s).tag n).abortMark then finish n .aborted (readTaken n l c s) else _) = _
  rw [if_pos]
  rw [readTaken_tag, if_pos rfl]
  exact h

theorem tagReadFinal_read {n : TagNo} {o : ArrayOp} {l : Nat} {c : ReadClass} {s : State}
    (h : (s.tag n).abortMark = false) (hk : (s.tag n).kind = .read) :
    tagReadFinal n o l c s = readTagFinal n o c (readTaken n l c s) := by
  change (if ((readTaken n l c s).tag n).abortMark then _ else match ((readTaken n l c s).tag n).kind with
    | .read => readTagFinal n o c (readTaken n l c s)
    | .check => _
    | .write | .zero => _) = _
  have hab : ((readTaken n l c s).tag n).abortMark = false := by
    rw [readTaken_tag, if_pos rfl]
    exact h
  have hkind : ((readTaken n l c s).tag n).kind = .read := by
    rw [readTaken_tag, if_pos rfl]
    exact hk
  rw [if_neg (by simp [hab])]
  simp only [hkind]

end Sys2Proof.Machine
end

section
/-! PROOFS. A READ tag stops at a final UNCORRECTABLE block (O25). -/
namespace Sys2Proof.Machine

theorem freeDataSlot_slot (d : DataPlace) (s : State) (k : SlotNo) :
    (freeDataSlot d s).slot k = if d = .slot k then Slot.free else s.slot k := by
  cases d with
  | slot m =>
    change (s.setSlot m Slot.free).slot k = _
    rw [setSlot_slot]
    by_cases h : k = m
    · simp [h]
    · rw [if_neg h, if_neg fun e => h (DataPlace.slot.inj e).symm]
  | patrolBuffer | imageBuffer | zeroSource | none => rfl

/-- The machine after the block's outcome is taken and the slots that the tag needs no longer are freed (R87). -/
def readStopped (n : TagNo) (o : ArrayOp) (l : Nat) (s : State) : State :=
  freeSlotsOf n (· == .reserved) (freeDataSlot o.data (readTaken n l .uncorrectable s))

theorem readStopped_tag (n u : TagNo) (o : ArrayOp) (l : Nat) (s : State) :
    (readStopped n o l s).tag u =
      if u = n then (s.tag n).takeRead l s.cfg.refreshLevel .uncorrectable else s.tag u := by
  unfold readStopped
  rw [(freeSlotsOf_records ..).1, (freeDataSlot_records ..).1, readTaken_tag]

theorem readStopped_slot (n : TagNo) (o : ArrayOp) (l : Nat) (s : State) (k : SlotNo) :
    (readStopped n o l s).slot k =
      if o.data = .slot k ∨ ((s.slot k).owner = some n ∧ (s.slot k).state = .reserved) then Slot.free
      else s.slot k := by
  have hpool : (readTaken n l .uncorrectable s).slot k = s.slot k := slot_eq_of_pool (by simp) k
  unfold readStopped
  rw [freeSlotsOf_slot_eq, freeDataSlot_slot, hpool]
  by_cases hd : o.data = .slot k
  · simp [hd]
  · simp [hd]

theorem readStopped_readable (n : TagNo) (o : ArrayOp) (l : Nat) (s : State) :
    (slotsOf (readStopped n o l s) n SlotState.readable).isEmpty = false ↔
      ∃ k, o.data ≠ .slot k ∧ (s.slot k).owner = some n ∧
        ((s.slot k).state = .full ∨ (s.slot k).state = .draining) := by
  rw [slotsOf_isEmpty]
  constructor
  · rintro ⟨k, ho, hs⟩
    rw [readStopped_slot] at ho hs
    split at ho
    · cases ho
    · rename_i hno
      rw [if_neg hno] at hs
      exact ⟨k, fun e => hno (.inl e), ho, (readable_iff _).1 hs⟩
  · rintro ⟨k, hd, ho, hs⟩
    have hkeep : (readStopped n o l s).slot k = s.slot k := by
      rw [readStopped_slot, if_neg]
      rintro (e | ⟨-, e⟩)
      · exact hd e
      · rcases hs with e' | e' <;> rw [e] at e' <;> cases e'
    exact ⟨k, by rw [hkeep, ho], by rw [hkeep]; exact (readable_iff _).2 hs⟩

/-! ## The tag is ENDING or DONE -/

theorem endRead_of_readable {n : TagNo} {s : State} (h : (slotsOf s n SlotState.readable).isEmpty = false) :
    endRead n s = becomeEnding n s := if_neg (by simp [h])

theorem endRead_of_none {n : TagNo} {s : State} (h : ¬ (slotsOf s n SlotState.readable).isEmpty = false) :
    endRead n s = finish n (s.tag n).soFar s := if_pos (by simpa using h)

/-- The tag is over, and but for its state it is as before. -/
theorem endRead_tag (n : TagNo) (s : State) :
    (((endRead n s).tag n).state = .ending ∨ ((endRead n s).tag n).state = .done) ∧
      ((endRead n s).tag n).soFar = (s.tag n).soFar ∧ ((endRead n s).tag n).firstFail = (s.tag n).firstFail ∧
      ((endRead n s).tag n).completed = (s.tag n).completed ∧ ((endRead n s).tag n).issued = (s.tag n).issued := by
  by_cases h : (slotsOf s n SlotState.readable).isEmpty = false
  · rw [endRead_of_readable h, becomeEnding_tag, if_pos rfl]
    exact ⟨.inl rfl, rfl, rfl, rfl, rfl⟩
  · rw [endRead_of_none h, finish_tag_eq, if_pos rfl]
    exact ⟨.inr rfl, rfl, rfl, rfl, rfl⟩

theorem endRead_slot_of_free {n : TagNo} {s : State} {k : SlotNo} (h : s.slot k = Slot.free) :
    (endRead n s).slot k = Slot.free := by
  unfold endRead
  split
  · rw [finish_slot_eq, h]
    exact if_neg nofun
  · rw [(becomeEnding_records ..).1, h]

@[simp] theorem endRead_keeps (n : TagNo) (s : State) :
    (endRead n s).map = s.map ∧ (endRead n s).cond = s.cond ∧ (endRead n s).array = s.array ∧
    (endRead n s).req.queue = s.req.queue := by
  unfold endRead
  split <;> simp

/-- An over tag gets no slot at the close of the event: one that is free at its end is not the tag's. -/
theorem settle_freed_of_over {s₀ s : State} {n : TagNo} {k : SlotNo}
    (hn : (s.tag n).state = .ending ∨ (s.tag n).state = .done) (h : s.slot k = Slot.free) :
    slotFreed (settle s₀ s) k ∧ ((settle s₀ s).slot k).owner ≠ some n := by
  refine ⟨settle_slotFreed s₀ s k h, fun ho => ?_⟩
  have hmay := (not_maySlot_of_over (s := s) (x := s.tag n) (by rcases hn with e | e <;> simp [e])
    (by rcases hn with e | e <;> simp [e]) (by rcases hn with e | e <;> simp [e])).1
  have := settle_owner s₀ s k n hmay ho
  rw [h] at this
  cases this

/-- The tag's READY data stays for the host (R87). -/
theorem endRead_readable_kept {s₀ s : State} {n : TagNo} {k : SlotNo} (ho : (s.slot k).owner = some n)
    (hs : (s.slot k).state = .full ∨ (s.slot k).state = .draining) :
    (settle s₀ (endRead n s)).slot k = s.slot k := by
  have hr : endRead n s = becomeEnding n s :=
    endRead_of_readable ((slotsOf_isEmpty s n _).2 ⟨k, ho, (readable_iff _).2 hs⟩)
  have hslot : (becomeEnding n s).slot k = s.slot k := (becomeEnding_records n s).1 k
  have hstate : ((becomeEnding n s).tag n).state = .ending := by
    rw [becomeEnding_tag, if_pos rfl]
  have hrun := (not_maySlot_of_over (s := becomeEnding n s) (x := (becomeEnding n s).tag n) (by simp [hstate])
    (by simp [hstate]) (by simp [hstate])).2
  rw [hr, settle_slot_of_owner s₀ _ k n (by rw [hslot, ho]) (by rw [hslot]; rcases hs with e | e <;> simp [e]) hrun, hslot]

theorem endRead_staysIn {s₀ s : State} {n : TagNo} (hq : n ∈ s.req.queue)
    (h : (slotsOf s n SlotState.readable).isEmpty = false) : StaysIn (settle s₀ (endRead n s)) n .ending := by
  rw [endRead_of_readable h]
  refine settle_staysIn_ending s₀ _ n (by simpa [becomeEnding] using hq) ?_
  rw [becomeEnding_tag, if_pos rfl]

theorem endRead_doneWith {s₀ s : State} {n : TagNo} (hq : n ∈ s₀.req.queue)
    (h : ¬ (slotsOf s n SlotState.readable).isEmpty = false) :
    DoneWith (settle s₀ (endRead n s)) n (s.tag n).soFar := by
  rw [endRead_of_none h]
  exact settle_doneWith s₀ _ n _ hq (by rw [finish_tag_eq, if_pos rfl]; rfl) (by rw [finish_tag_eq, if_pos rfl]; rfl)
    (ownsNoSlot_finish _ _ _)

theorem settle_endRead_tag (s₀ s : State) (n : TagNo) : (settle s₀ (endRead n s)).tag n = (endRead n s).tag n := by
  obtain ⟨hover, -⟩ := endRead_tag n s
  exact settle_tag_of_over s₀ _ n (by rcases hover with e | e <;> simp [e]) (by rcases hover with e | e <;> simp [e])
    (by rcases hover with e | e <;> simp [e])

theorem exec_readStopped {n : TagNo} {o : ArrayOp} {c : CurrentBlock} {s : State} (h : TagOpInFlight s o n)
    (hop : o.operation = .readBlock) (hk : (s.tag n).kind = .read) (hc : (s.tag n).cur = some c)
    (hle : (if (s.tag n).noRetry then 0 else s.cfg.retryLimit) ≤ c.retries) :
    exec (.readBlockCompletion .uncorrectable) s =
      .next (settle s (endRead n (readStopped n o c.lbn (idleUnit s)))) := by
  obtain ⟨ho, hreq, -, -, hab, -⟩ := h
  have hexec := exec_readCompletion ho hop hreq .uncorrectable
  rwa [tagReadDone_final (s := idleUnit s) (c := c) (by simpa using hc) (.inr (.inl (by simpa using hle))),
    tagReadFinal_read (by simpa using hab) (by simpa using hk)] at hexec

@[simp] theorem readStopped_keeps (n : TagNo) (o : ArrayOp) (l : Nat) (s : State) :
    (readStopped n o l s).map = (handOff l .uncorrectable s).map ∧
    (readStopped n o l s).cond = (handOff l .uncorrectable s).cond ∧ (readStopped n o l s).array = s.array ∧
    (readStopped n o l s).req.queue = s.req.queue := by
  simp [readStopped]

/-- Settles O25: the tag is over, so what is freed is not given back to it, and it owns a readable slot exactly while
`keepsBlock` holds. -/
theorem uncorrectableReadStopsTag : Obligations.UncorrectableReadStopsTag := by
  intro n o c s hflight hop hk hc hle keepsBlock
  have hq : n ∈ s.req.queue := hflight.2.2.2.1
  obtain ⟨hover, hsoFar, hfirst, hcompleted, hissued⟩ := endRead_tag n (readStopped n o c.lbn (idleUnit s))
  have htag := settle_endRead_tag s (readStopped n o c.lbn (idleUnit s)) n
  have hreadable : _ ↔ keepsBlock := readStopped_readable n o c.lbn (idleUnit s)
  have hstopped := readStopped_tag n n o c.lbn (idleUnit s)
  rw [if_pos rfl] at hstopped
  rw [hstopped] at hsoFar hfirst hcompleted hissued
  have hfreed : ∀ k, o.data = .slot k ∨ ((s.slot k).owner = some n ∧ (s.slot k).state = .reserved) →
      slotFreed (settle s (endRead n (readStopped n o c.lbn (idleUnit s)))) k ∧
        ((settle s (endRead n (readStopped n o c.lbn (idleUnit s)))).slot k).owner ≠ some n := fun k h =>
    settle_freed_of_over hover (endRead_slot_of_free (by rw [readStopped_slot]; exact if_pos h))
  refine ⟨_, exec_readStopped hflight hop hk hc hle, fun k h => hfreed k (.inl h), fun k h hr => hfreed k (.inr ⟨h, hr⟩),
    fun k hd hown hst => ?_, by rw [htag, hsoFar]; rfl, by rw [htag, hfirst]; rfl, by rw [htag, hcompleted]; rfl,
    by rw [htag, hissued]; rfl, fun hkeeps => endRead_staysIn (by simpa using hq) (hreadable.2 hkeeps), fun hno => ?_,
    listsAfterRead_settle (l := c.lbn) (s := idleUnit s) (by simp [classify]),
    countsAfterRead_settle (l := c.lbn) (retries := c.retries) (out := .uncorrectable) (s := idleUnit s)
      (x := endRead n (readStopped n o c.lbn (idleUnit s))) (by simp [classify]), by simp [RemapKept],
    arrayKept_of_eq (by simp) (by simp)⟩
  · have hslot : (readStopped n o c.lbn (idleUnit s)).slot k = s.slot k := by
      rw [readStopped_slot]
      refine if_neg ?_
      rintro (e | ⟨-, e⟩)
      · exact hd e
      · replace e : (s.slot k).state = .reserved := e
        rcases hst with e' | e' <;> rw [e] at e' <;> cases e'
    rw [endRead_readable_kept (by rw [hslot, hown]) (by rw [hslot]; exact hst), hslot]
  · have h := endRead_doneWith (s₀ := s) hq fun hr => hno (hreadable.1 hr)
    rwa [hstopped] at h

end Sys2Proof.Machine
end

section
/-! PROOFS. The end of a tag's program: what it does to the patrol, to the lists, and to the blocks that owe a reallocation
(R99, R106, R107, R145). -/
namespace Sys2Proof.Machine

/-! ## What the patrol holds for the LBN -/

theorem bgReadCancelled_settle {l : Nat} {s₀ s x : State}
    (h : x.patrol.bgRead = (cancelPatrol l s).patrol.bgRead) : BgReadCancelled l s (settle s₀ x) := by
  intro r hr
  have hb : (s.patrol.cancelBlock l).bgRead = s.patrol.bgRead := by
    rcases cancelBlock_cases l s.patrol with ⟨b, -, -, -, e⟩ | ⟨-, -, -, e⟩ | ⟨-, -, e⟩ <;> rw [e]
  have hx : x.patrol.bgRead = some (r.cancelFor l) := by
    rw [h, cancelPatrol_eq]
    dsimp only
    rw [hb, hr, Option.map_some]
  have hfor : (r.cancelFor l).lbn = r.lbn ∧ (r.cancelFor l).patrolRead = r.patrolRead ∧
      (r.cancelFor l).cancelled = (r.cancelled || decide (r.lbn = l)) := by
    unfold BackgroundRead.cancelFor
    split <;> simp_all
  rcases settle_bgRead s₀ x with e | ⟨r', hr', -, e⟩ | e
  · exact ⟨_, e.trans hx, hfor⟩
  · rw [hx, Option.some.injEq] at hr'
    subst hr'
    exact ⟨_, e, hfor⟩
  · exact absurd (hx.symm.trans e) nofun

theorem settle_buf (s₀ s : State) : (settle s₀ s).patrol.buf = s.patrol.buf := by simp

/-- No grant at the close of the event takes up a refresh block while the buffer is not valid. -/
theorem settle_refreshBlock_none {s₀ x : State} (h : x.patrol.refreshBlock = none) (hb : x.patrol.buf.valid = false) :
    (settle s₀ x).patrol.refreshBlock = none := by
  rcases settle_refreshBlock s₀ x with e | ⟨b, p, ps, hb', -⟩ | ⟨-, hv, -⟩
  · rw [e, h]
  · rw [h] at hb'
    cases hb'
  · rw [hb] at hv
    cases hv

theorem settle_refreshBlock_kept {s₀ x : State} {b : BlockInProgram} (h : x.patrol.refreshBlock = some b)
    (ho : b.owed = false) : (settle s₀ x).patrol.refreshBlock = some b := by
  rcases settle_refreshBlock s₀ x with e | ⟨b', p, ps, hb', ho', -⟩ | ⟨hn, -⟩
  · rw [e, h]
  · cases h.symm.trans hb'
    rw [ho] at ho'
    cases ho'
  · rw [h] at hn
    cases hn

/-- The cancellation for the LBN stands when the event closes (R145). -/
theorem patrolCancelled_settle {l : Nat} {s₀ s x : State} (h : x.patrol = (cancelPatrol l s).patrol) :
    PatrolCancelled l s (settle s₀ x) := by
  have hbuf : (settle s₀ x).patrol.buf = (s.patrol.cancelBlock l).buf := by
    rw [settle_buf, h]
    rfl
  have hxbuf : x.patrol.buf = (s.patrol.cancelBlock l).buf := by
    rw [h]
    rfl
  have hblock : x.patrol.refreshBlock = (s.patrol.cancelBlock l).refreshBlock := by
    rw [h]
    rfl
  have hbg : BgReadCancelled l s (settle s₀ x) := bgReadCancelled_settle (by rw [h])
  rcases cancelBlock_cases l s.patrol with ⟨b, hb, hl, ho, e⟩ | ⟨hn, hv, hl, e⟩ | ⟨howes, hholds, e⟩
  all_goals rw [e] at hbuf hxbuf hblock
  · refine ⟨fun _ => settle_refreshBlock_none hblock (by rw [hxbuf]; rfl), fun b' hb' ho' => ?_, fun _ => by rw [hbuf]; rfl,
      fun hno _ => absurd ⟨b, hb, hl, ho⟩ hno, hbg⟩
    cases hb.symm.trans hb'
    rw [ho] at ho'
    cases ho'
  · refine ⟨fun ⟨b, hb, _⟩ => ?_, fun b hb _ => ?_, fun _ => by rw [hbuf]; rfl, fun _ hno => absurd ⟨hn, hv, hl⟩ hno, hbg⟩
    all_goals
      rw [hn] at hb
      cases hb
  · refine ⟨fun ⟨b, hb, hl, ho⟩ => absurd ⟨hl, ho⟩ (howes b hb), fun b hb ho =>
      settle_refreshBlock_kept (hblock.trans hb) ho, ?_, fun _ _ => hbuf, hbg⟩
    rintro (⟨b, hb, hl, ho⟩ | ⟨hn, hv, hl⟩)
    · exact absurd ⟨hl, ho⟩ (howes b hb)
    · exact absurd ⟨hv, hl⟩ (hholds hn)

/-! ## The lists -/

/-- LBNs have been offered to the pending list, one after another (R119). -/
def ListsOffered (lbns : List Nat) (s t : State) : Prop :=
  (t.map.pendingLbns, t.map.overflow) =
      lbns.foldl (fun lists l => pendingOffered l lists.1 lists.2) (s.map.pendingLbns, s.map.overflow) ∧
    t.map.refresh = lbns.foldl List.erase s.map.refresh

theorem listsOffered_nil {s t : State} (h : t.map = s.map) : ListsOffered [] s t := by
  unfold ListsOffered
  rw [h]
  exact ⟨rfl, rfl⟩

theorem ListsOffered.trans {ls ms : List Nat} {s t u : State} (h : ListsOffered ls s t) (h' : ListsOffered ms t u) :
    ListsOffered (ls ++ ms) s u := by
  obtain ⟨hp, hr⟩ := h
  obtain ⟨hp', hr'⟩ := h'
  unfold ListsOffered
  rw [List.foldl_append, List.foldl_append, ← hp, ← hr]
  exact ⟨hp', hr'⟩

theorem offerPending_listsOffered (l : Nat) (s : State) : ListsOffered [l] s (offerPending l s) := offerPending_lists l s

theorem ListsOffered.congr {ls : List Nat} {s t u : State} (h : ListsOffered ls s t) (hm : u.map = t.map) :
    ListsOffered ls s u := by
  unfold ListsOffered at *
  rwa [hm]

/-- What an owed block offers to the pending list when its reallocation is given up. -/
def Tag.offers (c : ResolveKey) (x : Tag) : List Nat :=
  match x.prog with
  | none => []
  | some b => if x.resolvedFrees c then [b.lbn] else []

theorem resolveOwedTag_owed {s : State} {u : TagNo} {b : BlockInProgram} (hb : (s.tag u).prog = some b)
    (ho : b.owed = true) :
    resolveOwedTag s u =
      if (s.tag u).abortMark then endUnresolved u b.lbn .aborted s
      else if (s.tag u).wpMark || s.jrnl.mode == .readOnly then endUnresolved u b.lbn .writeProtected s
      else if (freeSpares s).isEmpty then exhaust u b.lbn s
      else s := by
  unfold resolveOwedTag
  simp only [hb, ho, Bool.not_true, Bool.false_eq_true, if_false] <;> rfl

theorem resolveOwedTag_unowed {s : State} {u : TagNo} (h : ∀ b, (s.tag u).prog = some b → b.owed = false) :
    resolveOwedTag s u = s := by
  unfold resolveOwedTag
  dsimp only
  split
  · rfl
  · rename_i b hb
    simp [h b hb]

theorem resolveOwedTag_listsOffered (s : State) (u : TagNo) :
    ListsOffered ((s.tag u).offers (resolveKey s)) s (resolveOwedTag s u) := by
  by_cases howes : ∃ b, (s.tag u).prog = some b ∧ b.owed = true
  · obtain ⟨b, hb, ho⟩ := howes
    have hoff : (s.tag u).offers (resolveKey s) =
        if (s.tag u).abortMark || ((s.tag u).wpMark || s.jrnl.mode == .readOnly) || (freeSpares s).isEmpty then [b.lbn]
        else [] := by
      simp only [Tag.offers, Tag.resolvedFrees, hb, ho, resolveKey, Bool.true_and, Bool.or_assoc]
    have hend : ∀ st, ListsOffered [b.lbn] s (endUnresolved u b.lbn st s) := fun st =>
      endUnresolved_lists u b.lbn st s
    rw [resolveOwedTag_owed hb ho, hoff]
    by_cases ha : (s.tag u).abortMark = true
    · simpa [ha] using hend .aborted
    · by_cases hw : ((s.tag u).wpMark || s.jrnl.mode == .readOnly) = true
      · rw [if_neg ha, if_pos hw, if_pos (by simp [hw])]
        exact hend .writeProtected
      · by_cases hf : (freeSpares s).isEmpty = true
        · rw [if_neg ha, if_neg hw, if_pos hf, if_pos (by simp [hf])]
          exact exhaust_lists u b.lbn s
        · rw [if_neg ha, if_neg hw, if_neg hf, if_neg (by simp [ha, hw, hf])]
          exact listsOffered_nil rfl
  · have hnone : ∀ b, (s.tag u).prog = some b → b.owed = false := fun b hb =>
      Bool.eq_false_iff.2 fun ho => howes ⟨b, hb, ho⟩
    have hoff : (s.tag u).offers (resolveKey s) = [] := by
      unfold Tag.offers Tag.resolvedFrees
      cases hb : (s.tag u).prog with
      | none => rfl
      | some b => simp [hnone b hb]
    rw [resolveOwedTag_unowed hnone, hoff]
    exact listsOffered_nil rfl

/-- The tags of the queue offer what they owe in queue order (R107). -/
theorem foldl_resolveOwedTag_listsOffered {l : List TagNo} (hl : l.Nodup) (s : State) :
    ListsOffered (l.flatMap fun u => (s.tag u).offers (resolveKey s)) s (l.foldl resolveOwedTag s) := by
  induction l generalizing s with
  | nil => exact listsOffered_nil rfl
  | cons n ns ih =>
    obtain ⟨hn, hns⟩ := List.nodup_cons.1 hl
    have htail : (ns.flatMap fun u => ((resolveOwedTag s n).tag u).offers (resolveKey (resolveOwedTag s n))) =
        ns.flatMap fun u => (s.tag u).offers (resolveKey s) := by
      refine List.flatMap_congr fun u hu => ?_
      rw [resolveOwedTag_resolveKey, resolveOwedTag_tag, if_neg fun e : u = n => hn (e ▸ hu)]
    have hrest := ih hns (resolveOwedTag s n)
    rw [htail] at hrest
    exact (resolveOwedTag_listsOffered s n).trans hrest

/-- What the refresh block offers when its reallocation is given up. -/
def refreshOffers (s : State) : List Nat :=
  match s.patrol.refreshBlock with
  | none => []
  | some b => if b.owed && (s.jrnl.mode == .readOnly || (freeSpares s).isEmpty) then [b.lbn] else []

theorem resolveOwedRefresh_listsOffered (s : State) : ListsOffered (refreshOffers s) s (resolveOwedRefresh s) := by
  unfold resolveOwedRefresh refreshOffers
  cases hb : s.patrol.refreshBlock with
  | none => exact listsOffered_nil rfl
  | some b =>
    by_cases h : (b.owed && (s.jrnl.mode == .readOnly || (freeSpares s).isEmpty)) = true
    · simp only [if_pos h]
      exact (offerPending_listsOffered b.lbn { s with patrol := { s.patrol with refreshBlock := none } }).congr (by simp)
    · simp only [if_neg h]
      exact listsOffered_nil rfl

theorem resolveOwed_listsOffered {s : State} (hq : s.req.queue.Nodup) :
    ListsOffered ((s.req.queue.flatMap fun u => (s.tag u).offers (resolveKey s)) ++ refreshOffers s) s
      (resolveOwed s) := by
  have href : refreshOffers (s.req.queue.foldl resolveOwedTag s) = refreshOffers s := by
    have hf : freeSpares (s.req.queue.foldl resolveOwedTag s) = freeSpares s :=
      freeSpares_of_remapKept ⟨by simp, by simp⟩
    unfold refreshOffers
    rw [hf]
    simp
  have h := resolveOwedRefresh_listsOffered (s.req.queue.foldl resolveOwedTag s)
  rw [href] at h
  exact (foldl_resolveOwedTag_listsOffered hq s).trans h

/-- What stands in the lists when the event closes (R119). -/
theorem offered_settle {ls : List Nat} {s₀ s y x : State} (h : ListsOffered ls y x) (ho : y.map.overflow = s.map.overflow) :
    Offered ls y.map.pendingLbns y.map.refresh s (settle s₀ x) := by
  obtain ⟨hp, hr⟩ := h
  unfold Offered
  rw [settle_pending, hp, ho]
  exact ⟨rfl, hr ▸ settle_refresh s₀ x⟩

/-! ## What other blocks owe -/

/-- What OwedOk says of the blocks that owe a reallocation. -/
theorem OwedOk.clean {s : State} (h : OwedOk s) {u : TagNo} {b : BlockInProgram} (hb : (s.tag u).prog = some b)
    (ho : b.owed = true) :
    (s.tag u).kind.writes = true ∧ b.inFlight = false ∧ (s.tag u).state = .active ∧ (s.tag u).abortMark = false ∧
      (s.tag u).wpMark = false ∧ s.jrnl.mode ≠ .readOnly := by
  obtain ⟨hk, h'⟩ := h.1 u b hb
  obtain ⟨hi, ha, hab, hw, -, hm⟩ := h' ho
  exact ⟨hk, hi, ha, hab, hw, hm⟩

theorem owing_eq {b : BlockInProgram} (hi : b.inFlight = false) (ho : b.owed = true) :
    { b with inFlight := false, owed := true } = b := by
  rw [← hi, ← ho]

theorem owedLbn_eq_none {s : State} {u : TagNo} (h : owedLbn s u = none) (b : BlockInProgram)
    (hb : (s.tag u).prog = some b) : b.owed = false := by
  unfold owedLbn at h
  rw [hb, Option.bind_some] at h
  by_contra ho
  rw [if_pos (by simpa using ho)] at h
  cases h

theorem TagEffect.of_prog {s : State} {n : TagNo} {y : Tag} {b : BlockInProgram} (h : TagEffect s n y)
    (hk : (s.tag n).kind.writes = true) (hb : (s.tag n).prog = some b) :
    ∃ p ps, freeSpares s = p :: ps ∧ y.prog = some (b.onSpare p) := by
  cases h with
  | reading hr =>
    rw [hk] at hr
    cases hr
  | retrying c hr =>
    rw [hk] at hr
    cases hr
  | programming l src p _ _ hn =>
    rw [hb] at hn
    cases hn
  | onSpare b' p ps _ _ hb' _ hf =>
    cases hb.symm.trans hb'
    exact ⟨p, ps, hf, rfl⟩

/-- A block that owes its reallocation waits on, or is granted the lowest free spare (R103). -/
theorem owesOrGranted_settle {s₀ x : State} {u : TagNo} {b : BlockInProgram} (hk : (x.tag u).kind.writes = true)
    (ha : (x.tag u).state = .active) (hb : (x.tag u).prog = some { b with inFlight := false, owed := true }) :
    OwesOrGranted (settle s₀ x) u b := by
  have hrel : releaseTag x (x.tag u) = x.tag u := releaseTag_of_ne_held x _ (by simp [ha])
  have hclosed : (closedEvent s₀ x).tag u = x.tag u := (closedEvent_tag s₀ x u).trans hrel
  rcases settle_tag s₀ x u with e | ⟨-, -, hop, heff⟩
  · exact .inl (by rw [e, hrel, hb])
  · obtain ⟨p, ps, hf, hprog⟩ := heff.of_prog (by rwa [hclosed]) (by rwa [hclosed])
    rw [closedEvent_freeSpares] at hf
    exact .inr ⟨p, by rw [settle_freeSpares, hf]; rfl, hprog, hop⟩

theorem progressKept_settle {s₀ s x : State} {u : TagNo} (h : x.tag u = s.tag u) : ProgressKept s (settle s₀ x) u := by
  unfold ProgressKept
  simp [h]

/-- The refresh block goes on owing, or is granted the lowest free spare (R103, R144). -/
theorem refreshOwes_settle {s₀ x : State} {b : BlockInProgram} (h : x.patrol.refreshBlock = some b) :
    (settle s₀ x).patrol.refreshBlock = some b ∨ ∃ p, (freeSpares (settle s₀ x)).head? = some p ∧
      (settle s₀ x).patrol.refreshBlock =
        some { b with stage := .spare, target := p, inFlight := true, owed := false } := by
  rcases settle_refreshBlock s₀ x with e | ⟨b', p, ps, hb', -, hf, e⟩ | ⟨hn, -⟩
  · exact .inl (e.trans h)
  · cases h.symm.trans hb'
    exact .inr ⟨p, by rw [settle_freeSpares, hf]; rfl, e⟩
  · rw [h] at hn
    cases hn

/-- `x` is the machine after the end of tag `n`'s program of LBN `l`, as the other tags and the patrol see it. -/
structure OnlyTag (n : TagNo) (l : Nat) (s x : State) : Prop where
  others : ∀ u, u ≠ n → x.tag u = s.tag u
  queue : x.req.queue = s.req.queue
  slots : ∀ k, x.slot k = s.slot k ∨ x.slot k = Slot.free
  patrol : x.patrol = (cancelPatrol l s).patrol
  mode : x.jrnl.mode = s.jrnl.mode
  lastDone : x.jrnl.lastDone = s.jrnl.lastDone

theorem cancelBlock_other {l : Nat} {p : PatrolEngine} {b : BlockInProgram} (hb : p.refreshBlock = some b)
    (hl : b.lbn ≠ l) : (p.cancelBlock l).refreshBlock = some b := by
  rcases cancelBlock_cases l p with ⟨b', hb', hl', -⟩ | ⟨hn, -⟩ | ⟨-, -, e⟩
  · cases hb.symm.trans hb'
    exact absurd hl' hl
  · rw [hb] at hn
    cases hn
  · rw [e, hb]

theorem OnlyTag.refreshBlock {n : TagNo} {l : Nat} {s x : State} (h : OnlyTag n l s x) {b : BlockInProgram}
    (hb : s.patrol.refreshBlock = some b) (hl : b.lbn ≠ l) : x.patrol.refreshBlock = some b := by
  rw [h.patrol]
  exact cancelBlock_other hb hl

/-- While a spare is free the other blocks go on owing theirs (R103). -/
theorem OnlyTag.othersOwed {n : TagNo} {l : Nat} {s x : State} (h : OnlyTag n l s x) (ho : OwedOk s) (s₀ : State) :
    OthersOwed False n l s (settle s₀ x) := by
  have hcancel : PatrolCancelled l s (settle s₀ x) := patrolCancelled_settle h.patrol
  refine ⟨fun u hu hne b hb hob => ?_, fun u hne _ => progressKept_settle (h.others u hne),
    fun b hb hob hl => ⟨False.elim, fun _ => refreshOwes_settle (h.refreshBlock hb hl)⟩, fun _ => hcancel,
    bgReadCancelled_settle (by rw [h.patrol])⟩
  obtain ⟨hk, hi, ha, -⟩ := ho.clean hb hob
  have htag := h.others u hne
  refine ⟨by simp [htag], False.elim, fun _ => ⟨?_, ?_, progressKept_settle htag⟩⟩
  · exact owesOrGranted_settle (htag ▸ hk) (htag ▸ ha) (by rw [htag, hb, owing_eq hi hob])
  · exact settle_staysIn_active s₀ x u (h.queue ▸ hu) (htag ▸ ha)

/-! ## Spare exhaustion -/

/-- A tag whose block has met spare exhaustion (R106), when the event closes. -/
theorem exhausted_settle {s x : State} {n : TagNo} {y : Tag} {l : Nat} (htag : x.tag n = y.exhausted l
      (y.waitsAbove s.jrnl.lastDone))
    (hy : y.completed = (s.tag n).completed ∧ y.passed = (s.tag n).passed ∧ y.issued = (s.tag n).issued ∧
      y.reallocs = (s.tag n).reallocs ∧ y.firstFail = (s.tag n).firstFail)
    (hq : n ∈ s.req.queue) (hxq : n ∈ x.req.queue) (hown : ownsNoSlot x n)
    (hfree : ∀ k, (s.slot k).owner = some n → x.slot k = Slot.free) : Exhausted s (settle s x) n l := by
  obtain ⟨hcompleted, hpassed, hissued, hreallocs, hfirst⟩ := hy
  have hfields : (x.tag n).prog = none ∧ (x.tag n).completed = y.completed + 1 ∧ (x.tag n).passed = y.passed ∧
      (x.tag n).issued = y.issued ∧ (x.tag n).reallocs = y.reallocs ∧ (x.tag n).soFar = .writeFault ∧
      (x.tag n).firstFail = some (y.firstFail.getD l) ∧ (x.tag n).needed = y.needed := by
    rw [htag]
    unfold Tag.exhausted
    dsimp only
    split <;> exact ⟨rfl, rfl, rfl, rfl, rfl, rfl, rfl, rfl⟩
  have hstate : (y.waitsAbove s.jrnl.lastDone = true → (x.tag n).state = .ending) ∧
      (y.waitsAbove s.jrnl.lastDone = false → (x.tag n).state = .done ∧ (x.tag n).final = some .writeFault) := by
    rw [htag]
    exact ⟨fun h => by rw [h]; rfl, fun h => by rw [h]; exact ⟨rfl, rfl⟩⟩
  have hover : (x.tag n).state = .ending ∨ (x.tag n).state = .done := by
    cases hw : y.waitsAbove s.jrnl.lastDone
    · exact .inr (hstate.2 hw).1
    · exact .inl (hstate.1 hw)
  have hsame : (settle s x).tag n = x.tag n := settle_tag_of_over s x n (by rcases hover with e | e <;> simp [e])
    (by rcases hover with e | e <;> simp [e]) (by rcases hover with e | e <;> simp [e])
  have hmay := (not_maySlot_of_over (s := x) (x := x.tag n) (by rcases hover with e | e <;> simp [e])
    (by rcases hover with e | e <;> simp [e]) (by rcases hover with e | e <;> simp [e])).1
  obtain ⟨h₁, h₂, h₃, h₄, h₅, h₆, h₇, h₈⟩ := hfields
  have hiff : (∃ q, ((settle s x).tag n).needed = some q ∧ s.jrnl.lastDone < q) ↔
      y.waitsAbove s.jrnl.lastDone = true := by
    rw [hsame, h₈, waitsAbove_iff]
  refine ⟨by rw [hsame, h₁], by rw [hsame, h₂, hcompleted], by rw [hsame, h₃, hpassed], by rw [hsame, h₄, hissued],
    by rw [hsame, h₅, hreallocs], by rw [hsame, h₆], by rw [hsame, h₇, hfirst], settle_ownsNoSlot s x n hown hmay,
    fun k hk => settle_slotFreed s x k (hfree k hk), fun hwaits => ?_, fun hno => ?_⟩
  · exact settle_staysIn_ending s x n hxq (hstate.1 (hiff.1 hwaits))
  · obtain ⟨hd, hf⟩ := hstate.2 (Bool.eq_false_iff.2 fun h => hno (hiff.2 h))
    exact settle_doneWith s x n _ hq hd hf hown

/-- A clean tag's owed block is exhausted when no spare is free (R106). -/
theorem resolved_exhausted {c : ResolveKey} {x : Tag} {b : BlockInProgram} (hb : x.prog = some b) (ho : b.owed = true)
    (hab : x.abortMark = false) (hw : x.wpMark = false) (hr : c.readOnly = false) (hs : c.spent = true) :
    x.resolved c = x.exhausted b.lbn (x.waitsAbove c.lastDone) ∧ x.resolvedFrees c = true := by
  simp [Tag.resolved, Tag.resolvedFrees, hb, ho, hab, hw, hr, hs]

/-- A clean tag's owed block goes on owing while a spare is free. -/
theorem resolved_kept {c : ResolveKey} {x : Tag} {b : BlockInProgram} (hb : x.prog = some b) (hab : x.abortMark = false)
    (hw : x.wpMark = false) (hr : c.readOnly = false) (hs : c.spent = false) :
    x.resolved c = x ∧ x.resolvedFrees c = false := by
  simp [Tag.resolved, Tag.resolvedFrees, hb, hab, hw, hr, hs]

theorem resolved_unowed {c : ResolveKey} {x : Tag} (h : ∀ b, x.prog = some b → b.owed = false) :
    x.resolved c = x ∧ x.resolvedFrees c = false := by
  unfold Tag.resolved Tag.resolvedFrees
  cases hb : x.prog with
  | none => exact ⟨rfl, rfl⟩
  | some b => simp [h b hb]

theorem resolveOwed_slot_cases (s : State) (k : SlotNo) :
    (resolveOwed s).slot k = s.slot k ∨ (resolveOwed s).slot k = Slot.free := by
  rw [resolveOwed_slot]
  split
  · exact .inr rfl
  · exact .inl rfl

/-- A tag of the queue whose owed block is given up owns no slot. -/
theorem resolveOwed_ownsNoSlot {s : State} {u : TagNo} (hu : u ∈ s.req.queue)
    (h : (s.tag u).resolvedFrees (resolveKey s) = true) : ownsNoSlot (resolveOwed s) u := by
  intro k hk
  rw [resolveOwed_slot] at hk
  split at hk
  · cases hk
  · rename_i hno
    exact hno ⟨u, hu, hk, h⟩

theorem resolveOwed_freed {s : State} {u : TagNo} {k : SlotNo} (hu : u ∈ s.req.queue)
    (h : (s.tag u).resolvedFrees (resolveKey s) = true) (hk : (s.slot k).owner = some u) :
    (resolveOwed s).slot k = Slot.free := by
  rw [resolveOwed_slot, if_pos ⟨u, hu, hk, h⟩]

/-- The slots that a tag owned are freed with it, if the rest of the event frees slots or leaves them. -/
theorem freed_of_cases {s y : State} {u : TagNo} {k : SlotNo} (hs : y.slot k = s.slot k ∨ y.slot k = Slot.free)
    (hu : u ∈ y.req.queue) (h : (y.tag u).resolvedFrees (resolveKey y) = true) (hk : (s.slot k).owner = some u) :
    (resolveOwed y).slot k = Slot.free := by
  rcases hs with e | e
  · exact resolveOwed_freed hu h (by rw [e, hk])
  · rcases resolveOwed_slot_cases y k with e' | e'
    · rw [e', e]
    · exact e'

/-- What resolveOwed does to the refresh block when no spare is free (R106). -/
theorem resolveOwed_refreshBlock_spent {s : State} {b : BlockInProgram} (hb : s.patrol.refreshBlock = some b)
    (ho : b.owed = true) (hf : freeSpares s = []) :
    (resolveOwed s).patrol.refreshBlock = none ∧ (resolveOwed s).patrol.buf = PatrolBuffer.discarded := by
  have hf' : freeSpares (s.req.queue.foldl resolveOwedTag s) = [] :=
    (freeSpares_of_remapKept ⟨by simp, by simp⟩).trans hf
  have hb' : (s.req.queue.foldl resolveOwedTag s).patrol.refreshBlock = some b := by simpa using hb
  unfold resolveOwed resolveOwedRefresh
  simp only [hb', ho, hf', List.isEmpty_nil, Bool.or_true, Bool.and_true, if_true]
  exact ⟨by simp, rfl⟩

/-- It leaves the patrol as it is while no refresh block has to be given up. -/
theorem resolveOwed_patrol_kept {s : State}
    (h : ∀ b, s.patrol.refreshBlock = some b → b.owed = true → s.jrnl.mode ≠ .readOnly ∧ freeSpares s ≠ []) :
    (resolveOwed s).patrol = s.patrol := by
  have hf' : freeSpares (s.req.queue.foldl resolveOwedTag s) = freeSpares s := freeSpares_of_remapKept ⟨by simp, by simp⟩
  have hp : (s.req.queue.foldl resolveOwedTag s).patrol = s.patrol := by simp
  have hj : (s.req.queue.foldl resolveOwedTag s).jrnl = s.jrnl := by simp
  unfold resolveOwed resolveOwedRefresh
  rw [hp, hj, hf']
  cases hb : s.patrol.refreshBlock with
  | none => exact hp
  | some b =>
    by_cases ho : b.owed = true
    · obtain ⟨hm, hne⟩ := h b hb ho
      simp [hm, hne]
    · simp [ho]

end Sys2Proof.Machine
end

section
/-! PROOFS. What other tags and the patrol owe, through the end of a tag's program: they go on owing it while a spare is
free, and are exhausted in queue order when none is (R106, R107). -/
namespace Sys2Proof.Machine

theorem OnlyTag.readOnly_eq {n : TagNo} {l : Nat} {s y : State} (h : OnlyTag n l s y) (hm : s.jrnl.mode ≠ .readOnly) :
    (resolveKey y).readOnly = false := by
  simpa [resolveKey, h.mode] using hm

theorem settle_tag_needed (s₀ s : State) (u : TagNo) : ((settle s₀ s).tag u).needed = (s.tag u).needed := by simp

theorem resolveKey_spent (s : State) : (resolveKey s).spent = true ↔ freeSpares s = [] := by
  simp [resolveKey]

/-- Another tag keeps its block while a spare is free. -/
theorem OnlyTag.resolved_kept {n u : TagNo} {l : Nat} {s y : State} (h : OnlyTag n l s y) (ho : OwedOk s)
    (hf : freeSpares y ≠ []) :
    (s.tag u).resolved (resolveKey y) = s.tag u ∧ (s.tag u).resolvedFrees (resolveKey y) = false := by
  have hspent : (resolveKey y).spent = false := Bool.eq_false_iff.2 fun e => hf ((resolveKey_spent y).1 e)
  by_cases howes : ∃ b, (s.tag u).prog = some b ∧ b.owed = true
  · obtain ⟨b, hb, hob⟩ := howes
    obtain ⟨-, -, -, hab, hw, hm⟩ := ho.clean hb hob
    exact Machine.resolved_kept hb hab hw (h.readOnly_eq hm) hspent
  · exact resolved_unowed fun b hb => Bool.eq_false_iff.2 fun e => howes ⟨b, hb, e⟩

/-- The refresh block after the cancellation for the LBN is the one before it, or none. -/
theorem OnlyTag.refreshBlock_cases {n : TagNo} {l : Nat} {s y : State} (h : OnlyTag n l s y) :
    y.patrol.refreshBlock = s.patrol.refreshBlock ∨ y.patrol.refreshBlock = none := by
  rw [h.patrol]
  exact cancelPatrol_refreshBlock l s

/-- A refresh block that still owes after the cancellation is one of another LBN. -/
theorem OnlyTag.refreshBlock_owed {n : TagNo} {l : Nat} {s y : State} (h : OnlyTag n l s y) {b : BlockInProgram}
    (hb : y.patrol.refreshBlock = some b) (ho : b.owed = true) : s.patrol.refreshBlock = some b ∧ b.lbn ≠ l := by
  have hb' : (s.patrol.cancelBlock l).refreshBlock = some b := by
    rw [h.patrol] at hb
    exact hb
  rcases cancelBlock_cases l s.patrol with ⟨b', -, -, -, e⟩ | ⟨hn, -, -, e⟩ | ⟨hno, -, e⟩
  · rw [e] at hb'
    cases hb'
  · rw [e] at hb'
    exact absurd (hn.symm.trans hb') nofun
  · rw [e] at hb'
    exact ⟨hb', fun hl => hno b hb' ⟨hl, ho⟩⟩

theorem owedRefresh_owed {s : State} {l : Nat} {b : BlockInProgram} (hb : s.patrol.refreshBlock = some b)
    (ho : b.owed = true) (hl : b.lbn ≠ l) : owedRefresh s l = [b.lbn] := by
  unfold owedRefresh
  rw [hb, Option.bind_some, if_pos ⟨ho, hl⟩]
  rfl

theorem owedRefresh_eq_nil {s : State} {l : Nat}
    (h : ∀ b, s.patrol.refreshBlock = some b → b.owed = true → b.lbn = l) : owedRefresh s l = [] := by
  unfold owedRefresh
  cases hb : s.patrol.refreshBlock with
  | none => rfl
  | some b =>
    rw [Option.bind_some, if_neg fun hno => hno.2 (h b hb hno.1)]
    rfl

theorem OnlyTag.resolveOwed {n : TagNo} {l : Nat} {s y : State} (h : OnlyTag n l s y) (ho : OwedOk s)
    (hf : freeSpares y ≠ []) : OnlyTag n l s (resolveOwed y) where
  others u hne := by
    rw [resolveOwed_tag, h.others u hne, (h.resolved_kept ho hf).1, ite_self]
  queue := by simpa using h.queue
  slots k := by
    rcases resolveOwed_slot_cases y k with e | e
    · rw [e]
      exact h.slots k
    · exact .inr e
  patrol := by
    rw [resolveOwed_patrol_kept, h.patrol]
    intro b hb hob
    rcases h.refreshBlock_cases with e | e
    · exact ⟨by rw [h.mode]; exact (ho.2.1 b (e ▸ hb) hob).2, hf⟩
    · rw [e] at hb
      cases hb
  mode := by simpa using h.mode
  lastDone := by simpa using h.lastDone

/-- Another tag's owed block when no spare is free. -/
theorem OnlyTag.resolved_spent {n u : TagNo} {l : Nat} {s y : State} {b : BlockInProgram} (h : OnlyTag n l s y)
    (ho : OwedOk s) (hf : freeSpares y = []) (hb : (s.tag u).prog = some b) (hob : b.owed = true) :
    (s.tag u).resolved (resolveKey y) = (s.tag u).exhausted b.lbn ((s.tag u).waitsAbove s.jrnl.lastDone) ∧
      (s.tag u).resolvedFrees (resolveKey y) = true := by
  obtain ⟨-, -, -, hab, hw, hm⟩ := ho.clean hb hob
  have hkey : (resolveKey y).lastDone = s.jrnl.lastDone := h.lastDone
  rw [← hkey]
  exact resolved_exhausted hb hob hab hw (h.readOnly_eq hm) ((resolveKey_spent y).2 hf)

/-- With no spare free the other blocks are exhausted (R106, R107). -/
theorem OnlyTag.othersExhausted {n : TagNo} {l : Nat} {s y : State} (h : OnlyTag n l s y) (ho : OwedOk s)
    (hf : freeSpares y = []) : OthersOwed True n l s (settle s (Machine.resolveOwed y)) := by
  refine ⟨fun u hu hne b hb hob => ?_, fun u hne hnone => progressKept_settle ?_, fun b hb hob hl =>
    ⟨fun _ => ?_, fun hno => absurd trivial hno⟩, fun hor => ?_, bgReadCancelled_settle ?_⟩
  · obtain ⟨hres, hfrees⟩ := h.resolved_spent ho hf hb hob
    have htag : (Machine.resolveOwed y).tag u =
        (s.tag u).exhausted b.lbn ((s.tag u).waitsAbove s.jrnl.lastDone) := by
      rw [resolveOwed_tag, h.others u hne, if_pos (h.queue ▸ hu), hres]
    have hyu : u ∈ y.req.queue := h.queue ▸ hu
    have hyfrees : (y.tag u).resolvedFrees (resolveKey y) = true := by rw [h.others u hne, hfrees]
    refine ⟨?_, fun _ => exhausted_settle htag ⟨rfl, rfl, rfl, rfl, rfl⟩ hu (by simpa using hyu)
      (resolveOwed_ownsNoSlot hyu hyfrees) fun k hk => freed_of_cases (h.slots k) hyu hyfrees hk,
      fun hno => absurd trivial hno⟩
    rw [settle_tag_needed, htag]
    unfold Tag.exhausted
    dsimp only
    split <;> rfl
  · rw [resolveOwed_tag, h.others u hne, (resolved_unowed fun b hb => owedLbn_eq_none hnone b hb).1, ite_self]
  · obtain ⟨hblock, hbuf⟩ := resolveOwed_refreshBlock_spent (h.refreshBlock hb hl) hob hf
    refine ⟨settle_refreshBlock_none hblock (by rw [hbuf]; rfl), ?_, ?_⟩
    all_goals
      rw [settle_buf, hbuf]
      rfl
  · have hnone : owedRefresh s l = [] := hor.resolve_left fun hno => hno trivial
    refine patrolCancelled_settle ?_
    rw [resolveOwed_patrol_kept, h.patrol]
    intro b hb hob
    exfalso
    obtain ⟨hb', hl⟩ := h.refreshBlock_owed hb hob
    rw [owedRefresh_owed hb' hob hl] at hnone
    cases hnone
  · simp [h.patrol]

/-! ## What they offer to the pending list -/

theorem OnlyTag.refreshOffers_spent {n : TagNo} {l : Nat} {s y : State} (h : OnlyTag n l s y) (hf : freeSpares y = []) :
    refreshOffers y = owedRefresh s l := by
  unfold refreshOffers
  cases hb : y.patrol.refreshBlock with
  | none =>
    symm
    refine owedRefresh_eq_nil fun b hb' _ => ?_
    by_contra hl
    rw [h.refreshBlock hb' hl] at hb
    cases hb
  | some b =>
    by_cases ho : b.owed = true
    · obtain ⟨hb', hl⟩ := h.refreshBlock_owed hb ho
      rw [owedRefresh_owed hb' ho hl]
      simp [ho, hf]
    · have hnil : owedRefresh s l = [] := owedRefresh_eq_nil fun b' hb' ho' => by
        by_contra hl
        cases (h.refreshBlock hb' hl).symm.trans hb
        exact ho ho'
      rw [hnil]
      simp [ho]

theorem OnlyTag.refreshOffers_kept {n : TagNo} {l : Nat} {s y : State} (h : OnlyTag n l s y) (ho : OwedOk s)
    (hf : freeSpares y ≠ []) : refreshOffers y = [] := by
  unfold refreshOffers
  cases hb : y.patrol.refreshBlock with
  | none => rfl
  | some b =>
    by_cases hob : b.owed = true
    · obtain ⟨hb', -⟩ := h.refreshBlock_owed hb hob
      have hm : y.jrnl.mode ≠ .readOnly := by
        rw [h.mode]
        exact (ho.2.1 b hb' hob).2
      simp [hm, hf]
    · simp [hob]

theorem offers_eq_nil {c : ResolveKey} {x : Tag} (h : x.resolvedFrees c = false) : x.offers c = [] := by
  unfold Tag.offers
  cases x.prog with
  | none => rfl
  | some b => exact if_neg (by simp [h])

theorem OnlyTag.offers_spent {n u : TagNo} {l : Nat} {s y : State} (h : OnlyTag n l s y) (ho : OwedOk s)
    (hf : freeSpares y = []) : (s.tag u).offers (resolveKey y) = (owedLbn s u).toList := by
  unfold Tag.offers owedLbn
  cases hb : (s.tag u).prog with
  | none => rfl
  | some b =>
    rw [Option.bind_some]
    by_cases hob : b.owed = true
    · have hfrees := (h.resolved_spent ho hf hb hob).2
      simp [hob, hfrees]
    · have hno := (resolved_unowed (c := resolveKey y) (x := s.tag u) fun b' hb' => by
        cases hb.symm.trans hb'
        exact Bool.eq_false_iff.2 hob).2
      simp [hob, hno]

/-- The offers of the event, in queue order with a patrol block last, when no spare is free (R107, R120). -/
theorem OnlyTag.listsOffered_spent {n : TagNo} {l : Nat} {s y : State} (h : OnlyTag n l s y) (ho : OwedOk s)
    (hq : s.req.queue.Nodup) (hf : freeSpares y = []) :
    ListsOffered (owedInOrder s n ((y.tag n).offers (resolveKey y)) l) y (Machine.resolveOwed y) := by
  have hlists := resolveOwed_listsOffered (s := y) (h.queue ▸ hq)
  have hflat : (y.req.queue.flatMap fun u => (y.tag u).offers (resolveKey y)) =
      s.req.queue.flatMap fun u => if u = n then (y.tag n).offers (resolveKey y) else (owedLbn s u).toList := by
    rw [h.queue]
    refine List.flatMap_congr fun u _ => ?_
    by_cases hu : u = n
    · rw [hu, if_pos rfl]
    · rw [if_neg hu, h.others u hu, h.offers_spent ho hf]
  rw [hflat, h.refreshOffers_spent hf] at hlists
  exact hlists

theorem flatMap_single {q : List TagNo} {n : TagNo} (own : List Nat) (hq : q.Nodup) (hn : n ∈ q) :
    (q.flatMap fun u => if u = n then own else []) = own := by
  induction q with
  | nil => cases hn
  | cons u us ih =>
    obtain ⟨hu, hus⟩ := List.nodup_cons.1 hq
    rw [List.flatMap_cons]
    rcases List.mem_cons.1 hn with rfl | hn
    · have hrest : (us.flatMap fun u => if u = n then own else []) = [] :=
        List.flatMap_eq_nil_iff.2 fun v hv => if_neg fun e : v = n => hu (e ▸ hv)
      rw [if_pos rfl, hrest, List.append_nil]
    · rw [if_neg fun e : u = n => hu (e ▸ hn), List.nil_append, ih hus hn]

/-- While a spare is free only tag `n` may have something to offer. -/
theorem OnlyTag.listsOffered_kept {n : TagNo} {l : Nat} {s y : State} (h : OnlyTag n l s y) (ho : OwedOk s)
    (hq : s.req.queue.Nodup) (hn : n ∈ s.req.queue) (hf : freeSpares y ≠ []) :
    ListsOffered ((y.tag n).offers (resolveKey y)) y (Machine.resolveOwed y) := by
  have hlists := resolveOwed_listsOffered (s := y) (h.queue ▸ hq)
  have hflat : (y.req.queue.flatMap fun u => (y.tag u).offers (resolveKey y)) =
      s.req.queue.flatMap fun u => if u = n then (y.tag n).offers (resolveKey y) else [] := by
    rw [h.queue]
    refine List.flatMap_congr fun u _ => ?_
    by_cases hu : u = n
    · rw [hu, if_pos rfl]
    · rw [if_neg hu, h.others u hu, offers_eq_nil (h.resolved_kept ho hf).2]
  rw [hflat, flatMap_single _ hq hn, h.refreshOffers_kept ho hf, List.append_nil] at hlists
  exact hlists

end Sys2Proof.Machine
end

section
/-! PROOFS. The pass of a tag's program (R98), and O29. -/
namespace Sys2Proof.Machine

/-! ## A block passes -/

/-- The block counts as passed, and its slot is freed (R98, R104). -/
def blockPassed (n : TagNo) (b : BlockInProgram) (r : Bool) (s : State) : State :=
  (freeSource b.source s).modTag n (Tag.passBlock r)

theorem tagBlockPasses_eq {n : TagNo} {b : BlockInProgram} {s : State} (hb : (s.tag n).prog = some b) (r : Bool) :
    tagBlockPasses n r s = afterPass n (blockPassed n b r s) := by
  unfold tagBlockPasses
  simp only [hb] <;> rfl

theorem blockPassed_tag (n u : TagNo) (b : BlockInProgram) (r : Bool) (s : State) :
    (blockPassed n b r s).tag u = if u = n then (s.tag n).passBlock r else s.tag u := by
  unfold blockPassed
  rw [modTag_tag, (freeSource_records ..).1, (freeSource_records ..).1]

theorem freeSource_slot (p : ProgramSource) (s : State) (k : SlotNo) :
    (freeSource p s).slot k = if p = .slot k then Slot.free else s.slot k := by
  cases p with
  | slot m =>
    change (s.setSlot m Slot.free).slot k = _
    rw [setSlot_slot]
    by_cases h : k = m
    · simp [h]
    · rw [if_neg h, if_neg fun e => h (ProgramSource.slot.inj e).symm]
  | zeroSource | patrolBuffer => rfl

theorem blockPassed_slot (n : TagNo) (b : BlockInProgram) (r : Bool) (s : State) (k : SlotNo) :
    (blockPassed n b r s).slot k = if b.source = .slot k then Slot.free else s.slot k := by
  unfold blockPassed
  rw [(modTag_records ..).1, freeSource_slot]

@[simp] theorem blockPassed_keeps (n : TagNo) (b : BlockInProgram) (r : Bool) (s : State) :
    (blockPassed n b r s).map = s.map ∧ (blockPassed n b r s).cond = s.cond ∧
    (blockPassed n b r s).array = s.array ∧ (blockPassed n b r s).patrol = s.patrol ∧
    (blockPassed n b r s).jrnl = s.jrnl ∧ (blockPassed n b r s).req.queue = s.req.queue := by
  simp [blockPassed]

/-! ## What follows a pass -/

theorem afterPass_aborted {n : TagNo} {s : State} (h : (s.tag n).abortMark = true) :
    afterPass n s = finish n .aborted s := by
  unfold afterPass
  exact if_pos h

/-- A write-protect-marked tag ends, with a status that says how far it came (R18). -/
theorem afterPass_marked {n : TagNo} {s : State} (hab : (s.tag n).abortMark = false) (hw : (s.tag n).wpMark = true) :
    afterPass n s = finish n
      (if (s.tag n).completed = (s.tag n).count then
        if owesCommit s (s.tag n) then .journalFault else (s.tag n).soFar
       else .writeProtected) s := by
  unfold afterPass
  dsimp only
  rw [if_neg (by simp [hab]), hw]
  simp only [if_true]
  (repeat' split) <;> rfl

theorem afterPass_unmarked {n : TagNo} {s : State} (hab : (s.tag n).abortMark = false) (hw : (s.tag n).wpMark = false) :
    afterPass n s =
      if (s.tag n).completed = (s.tag n).count then
        if owesCommit s (s.tag n) then becomeEnding n s else finish n (s.tag n).soFar s
      else s := by
  unfold afterPass
  dsimp only
  rw [if_neg (by simp [hab]), hw]
  (repeat' split) <;> simp_all

/-- The tag is finished, is ENDING, or is as before. -/
theorem afterPass_cases (n : TagNo) (s : State) :
    (∃ st, afterPass n s = finish n st s) ∨ afterPass n s = becomeEnding n s ∨ afterPass n s = s := by
  unfold afterPass
  dsimp only
  split
  · exact .inl ⟨_, rfl⟩
  · split
    · split
      · split
        · exact .inl ⟨_, rfl⟩
        · exact .inr (.inl rfl)
      · exact .inl ⟨_, rfl⟩
    · split
      · exact .inl ⟨_, rfl⟩
      · exact .inr (.inr rfl)

@[simp] theorem afterPass_keeps (n : TagNo) (s : State) :
    (afterPass n s).map = s.map ∧ (afterPass n s).cond = s.cond ∧
    (afterPass n s).patrol = s.patrol ∧ (afterPass n s).jrnl = s.jrnl ∧ (afterPass n s).req.queue = s.req.queue := by
  rcases afterPass_cases n s with ⟨st, e⟩ | e | e <;> rw [e] <;> simp

theorem afterPass_tag_other (n u : TagNo) (s : State) (h : u ≠ n) : (afterPass n s).tag u = s.tag u := by
  rcases afterPass_cases n s with ⟨st, e⟩ | e | e <;> rw [e]
  · rw [finish_tag_eq, if_neg h]
  · rw [becomeEnding_tag, if_neg h]

theorem afterPass_fields (n : TagNo) (s : State) :
    ((afterPass n s).tag n).completed = (s.tag n).completed ∧ ((afterPass n s).tag n).passed = (s.tag n).passed ∧
    ((afterPass n s).tag n).reallocs = (s.tag n).reallocs ∧ ((afterPass n s).tag n).soFar = (s.tag n).soFar ∧
    ((afterPass n s).tag n).firstFail = (s.tag n).firstFail ∧ ((afterPass n s).tag n).needed = (s.tag n).needed ∧
    ((afterPass n s).tag n).issued = (s.tag n).issued := by
  rcases afterPass_cases n s with ⟨st, e⟩ | e | e <;> rw [e]
  · rw [finish_tag_eq, if_pos rfl]
    exact ⟨rfl, rfl, rfl, rfl, rfl, rfl, rfl⟩
  · rw [becomeEnding_tag, if_pos rfl]
    exact ⟨rfl, rfl, rfl, rfl, rfl, rfl, rfl⟩
  · exact ⟨rfl, rfl, rfl, rfl, rfl, rfl, rfl⟩

theorem afterPass_slot (n : TagNo) (s : State) (k : SlotNo) :
    (afterPass n s).slot k = s.slot k ∨ (afterPass n s).slot k = Slot.free := by
  rcases afterPass_cases n s with ⟨st, e⟩ | e | e <;> rw [e]
  · rw [finish_slot_eq]
    split
    · exact .inr rfl
    · exact .inl rfl
  · exact .inl ((becomeEnding_records ..).1 k)
  · exact .inl rfl

theorem afterPass_slot_free {n : TagNo} {s : State} {k : SlotNo} (h : s.slot k = Slot.free) :
    (afterPass n s).slot k = Slot.free := by
  rcases afterPass_slot n s k with e | e
  · rw [e, h]
  · exact e

/-! ## The lists and the other tags after a pass in place -/

theorem clearLists_lists (l : Nat) (s : State) :
    (clearLists l s).map.pendingLbns = s.map.pendingLbns.erase l ∧ (clearLists l s).map.overflow = s.map.overflow ∧
      (clearLists l s).map.refresh = s.map.refresh.erase l := by
  have h := removePending_list l s
  refine ⟨by simp [clearLists, removeRefresh, h], by simp [clearLists], by simp [clearLists, removeRefresh]⟩

theorem listsCleared_settle {l : Nat} {s₀ s x : State} (hp : x.map.pendingLbns = s.map.pendingLbns.erase l)
    (ho : x.map.overflow = s.map.overflow) (hr : x.map.refresh = s.map.refresh.erase l) :
    ListsCleared l s (settle s₀ x) := by
  obtain ⟨hp', ho'⟩ := Prod.mk.inj (settle_pending s₀ x)
  exact ⟨hp'.trans hp, ho'.trans ho, hr ▸ settle_refresh s₀ x⟩

/-- The machine after a pass in place, before what follows for the tag. -/
def passedInPlace (n : TagNo) (b : BlockInProgram) (l : Nat) (o : ArrayOp) (s : State) : State :=
  blockPassed n b false (cancelPatrol l (clearLists l (programmed o .pass s)))

theorem exec_programPass_inPlace {n : TagNo} {l : Nat} {o : ArrayOp} {b : BlockInProgram} {s : State}
    (ho : s.array.op = some o) (hreq : o.requester = .tag n) (hop : o.operation = .programBlock)
    (hpur : o.purpose ≠ .reallocation) (hl : o.lbn = some l) (hb : (s.tag n).prog = some b) :
    exec (.programBlockCompletion .pass) s = .next (settle s (afterPass n (passedInPlace n b l o s))) := by
  rw [exec_programCompletion ho hop]
  have hz : ((cancelPatrol l (clearLists l (programmed o .pass s))).tag n).prog = some b := by simpa using hb
  have hp : (o.purpose == .reallocation) = false := beq_eq_false_iff_ne.2 hpur
  unfold programDone
  simp only [hreq, hp, hl, Option.getD_some, tagProgramDone]
  rw [tagBlockPasses_eq hz]
  rfl

theorem passedInPlace_tag (n u : TagNo) (b : BlockInProgram) (l : Nat) (o : ArrayOp) (s : State) :
    (passedInPlace n b l o s).tag u = if u = n then (s.tag n).passBlock false else s.tag u := by
  unfold passedInPlace
  rw [blockPassed_tag]
  simp

theorem passedInPlace_slot (n : TagNo) (b : BlockInProgram) (l : Nat) (o : ArrayOp) (s : State) (k : SlotNo) :
    (passedInPlace n b l o s).slot k = if b.source = .slot k then Slot.free else s.slot k := by
  have hk : (cancelPatrol l (clearLists l (programmed o .pass s))).slot k = s.slot k := slot_eq_of_pool (by simp) k
  unfold passedInPlace
  rw [blockPassed_slot, hk]

theorem passedInPlace_keeps (n : TagNo) (b : BlockInProgram) (l : Nat) (o : ArrayOp) (s : State) :
    (passedInPlace n b l o s).map = (clearLists l (programmed o .pass s)).map ∧
    (passedInPlace n b l o s).cond = (clearLists l (programmed o .pass s)).cond ∧
    (passedInPlace n b l o s).patrol = (cancelPatrol l s).patrol ∧ (passedInPlace n b l o s).jrnl = s.jrnl ∧
    (passedInPlace n b l o s).req.queue = s.req.queue := by
  refine ⟨by simp [passedInPlace], by simp [passedInPlace], ?_, by simp [passedInPlace], by simp [passedInPlace]⟩
  simp only [passedInPlace, blockPassed_keeps, cancelPatrol_eq]
  simp

theorem afterPass_onlyTag {n : TagNo} {l : Nat} {s y : State} (h : OnlyTag n l s y) : OnlyTag n l s (afterPass n y) where
  others u hne := (afterPass_tag_other n u y hne).trans (h.others u hne)
  queue := by simpa using h.queue
  slots k := by
    rcases afterPass_slot n y k with e | e
    · rw [e]
      exact h.slots k
    · exact .inr e
  patrol := by simpa using h.patrol
  mode := by simpa using h.mode
  lastDone := by simpa using h.lastDone

theorem passedInPlace_onlyTag (n : TagNo) (b : BlockInProgram) (l : Nat) (o : ArrayOp) (s : State) :
    OnlyTag n l s (passedInPlace n b l o s) := by
  obtain ⟨-, -, hpatrol, hjrnl, hqueue⟩ := passedInPlace_keeps n b l o s
  refine ⟨fun u hne => by rw [passedInPlace_tag, if_neg hne], hqueue, fun k => ?_, hpatrol, by rw [hjrnl], by rw [hjrnl]⟩
  rw [passedInPlace_slot]
  split
  · exact .inr rfl
  · exact .inl rfl

theorem passedInPlace_cleared (n : TagNo) (b : BlockInProgram) (l : Nat) (o : ArrayOp) (s : State) :
    ListsCleared l s (settle s (afterPass n (passedInPlace n b l o s))) ∧
      RemapKept s (settle s (afterPass n (passedInPlace n b l o s))) ∧
      RawKept [CondId.pendingBlocks] s (settle s (afterPass n (passedInPlace n b l o s))) := by
  obtain ⟨hmap, hcond, -⟩ := passedInPlace_keeps n b l o s
  obtain ⟨hp, ho, hr⟩ := clearLists_lists l (programmed o .pass s)
  refine ⟨listsCleared_settle ?_ ?_ ?_, ⟨by simp [hmap], by simp [hmap]⟩, ?_⟩
  · rw [(afterPass_keeps ..).1, hmap, hp]
    rfl
  · rw [(afterPass_keeps ..).1, hmap, ho]
    rfl
  · rw [(afterPass_keeps ..).1, hmap, hr]
    rfl
  · have hraw : RawKept [CondId.pendingBlocks] s (clearLists l (programmed o .pass s)) := clearLists_rawKept l _
    exact hraw.trans (rawKept_of_cond (by simp [hcond]) _)

/-- Settles O29. -/
theorem programInPlacePasses : Obligations.ProgramInPlacePasses := by
  rintro n l o b s ⟨ho, hreq, hact, hq, hab, hw⟩ hop hpur hl hb waits last
  obtain ⟨-, -, hpatrol, hjrnl, hqueue⟩ := passedInPlace_keeps n b l o s
  obtain ⟨hcleared, hremap, hraw⟩ := passedInPlace_cleared n b l o s
  obtain ⟨hcompleted, hpassed, hreallocs, hsoFar, hfirst, -, -⟩ := afterPass_fields n (passedInPlace n b l o s)
  have htag : (passedInPlace n b l o s).tag n = (s.tag n).passBlock false := by rw [passedInPlace_tag, if_pos rfl]
  have hpass := afterPass_unmarked (n := n) (s := passedInPlace n b l o s) (by rw [htag]; exact hab) (by rw [htag]; exact hw)
  have howes : owesCommit (passedInPlace n b l o s) ((passedInPlace n b l o s).tag n) = true ↔ waits := by
    rw [owesCommit_eq, waitsAbove_iff, hjrnl, htag]
    rfl
  have hlast : ((passedInPlace n b l o s).tag n).completed = ((passedInPlace n b l o s).tag n).count ↔ last := by
    rw [htag]
    rfl
  rw [htag] at hcompleted hpassed hreallocs hsoFar hfirst
  refine ⟨_, exec_programPass_inPlace ho hreq hop (by simp [hpur]) hl hb, by simp [hcompleted, Tag.passBlock],
    by simp [hpassed, Tag.passBlock], by simp [hreallocs, Tag.passBlock], by simp [hsoFar, Tag.passBlock],
    by simp [hfirst, Tag.passBlock], hcleared, hremap, hraw, fun k hk => settle_slotFreed _ _ k (afterPass_slot_free ?_),
    patrolCancelled_settle (by simp [hpatrol]), fun hno => ?_, fun ⟨hlast', hwaits⟩ => ?_, fun ⟨hlast', hno⟩ => ?_⟩
  · rw [passedInPlace_slot, if_pos hk]
  · rw [hpass, if_neg fun h => hno (hlast.1 h)]
    exact settle_staysIn_active s _ n (hqueue ▸ hq) (by rw [htag]; exact hact)
  · rw [hpass, if_pos (hlast.2 hlast'), if_pos (howes.2 hwaits)]
    refine settle_staysIn_ending s _ n ?_ (by rw [becomeEnding_tag, if_pos rfl])
    simpa [becomeEnding, hqueue] using hq
  · rw [hpass, if_pos (hlast.2 hlast'), if_neg fun h => hno (howes.1 h), htag]
    exact settle_doneWith s _ n _ hq (by rw [finish_tag_eq, if_pos rfl]; rfl) (by rw [finish_tag_eq, if_pos rfl]; rfl)
      (ownsNoSlot_finish _ _ _)

end Sys2Proof.Machine
end

section
/-! PROOFS. The failure of a tag's program (R99, R103, R106), and O30. -/
namespace Sys2Proof.Machine

/-! ## What is given up -/

theorem resolveOwedTag_of_kept {s : State} {u : TagNo} (h : (s.tag u).resolvedFrees (resolveKey s) = false) :
    resolveOwedTag s u = s := by
  by_cases howes : ∃ b, (s.tag u).prog = some b ∧ b.owed = true
  · obtain ⟨b, hb, ho⟩ := howes
    have hno : ((s.tag u).abortMark || (s.tag u).wpMark || s.jrnl.mode == .readOnly || (freeSpares s).isEmpty) = false := by
      simpa only [Tag.resolvedFrees, hb, ho, resolveKey, Bool.true_and] using h
    simp only [Bool.or_eq_false_iff] at hno
    obtain ⟨⟨⟨hab, hw⟩, hm⟩, hf⟩ := hno
    rw [resolveOwedTag_owed hb ho]
    simp [hab, hw, hm, hf]
  · exact resolveOwedTag_unowed fun b hb => Bool.eq_false_iff.2 fun ho => howes ⟨b, hb, ho⟩

/-- With nothing to give up the machine is as before. -/
theorem resolveOwed_eq_self {s : State} (h : ∀ u ∈ s.req.queue, (s.tag u).resolvedFrees (resolveKey s) = false)
    (hr : refreshOffers s = []) : resolveOwed s = s := by
  have hfold : ∀ l : List TagNo, (∀ u ∈ l, (s.tag u).resolvedFrees (resolveKey s) = false) →
      l.foldl resolveOwedTag s = s := fun l hl => by
    induction l with
    | nil => rfl
    | cons u us ih =>
      rw [List.foldl_cons, resolveOwedTag_of_kept (hl u (List.mem_cons_self ..))]
      exact ih fun v hv => hl v (List.mem_cons_of_mem _ hv)
  unfold resolveOwed
  rw [hfold _ h]
  unfold resolveOwedRefresh
  unfold refreshOffers at hr
  cases hb : s.patrol.refreshBlock with
  | none => rfl
  | some b =>
    simp only [hb] at hr
    refine if_neg fun hc => ?_
    rw [if_pos hc] at hr
    cases hr

theorem exhaust_rawKept (n : TagNo) (l : Nat) (s : State) : RawKept [CondId.pendingBlocks] s (exhaust n l s) := by
  refine RawKept.trans (offerPending_rawKept l s) (rawKept_of_cond ?_ _)
  unfold exhaust
  dsimp only
  split <;> simp

theorem resolveOwedTag_rawKept (s : State) (u : TagNo) : RawKept [CondId.pendingBlocks] s (resolveOwedTag s u) := by
  by_cases howes : ∃ b, (s.tag u).prog = some b ∧ b.owed = true
  · obtain ⟨b, hb, ho⟩ := howes
    rw [resolveOwedTag_owed hb ho]
    split
    · exact (endUnresolved_condKept u b.lbn _ s).raw
    · split
      · exact (endUnresolved_condKept u b.lbn _ s).raw
      · split
        · exact exhaust_rawKept u b.lbn s
        · exact fun _ _ => rfl
  · rw [resolveOwedTag_unowed fun b hb => Bool.eq_false_iff.2 fun ho => howes ⟨b, hb, ho⟩]
    exact fun _ _ => rfl

theorem foldl_rawKept {ids : List CondId} (g : State → TagNo → State) (h : ∀ s a, RawKept ids s (g s a))
    (l : List TagNo) (s : State) : RawKept ids s (l.foldl g s) := by
  induction l generalizing s with
  | nil => exact fun _ _ => rfl
  | cons a as ih => exact RawKept.trans (h s a) (ih (g s a))

theorem resolveOwed_rawKept (s : State) : RawKept [CondId.pendingBlocks] s (resolveOwed s) :=
  RawKept.trans (foldl_rawKept resolveOwedTag resolveOwedTag_rawKept s.req.queue s)
    (resolveOwedRefresh_condKept _).raw

/-! ## A block fails -/

/-- The machine after tag `n`'s block of LBN `l` failed, before what is owed is resolved. -/
def blockFailed (n : TagNo) (l : Nat) (s : State) : State := (cancelPatrol l s).modTag n Tag.owing

theorem blockFailed_tag (n u : TagNo) (l : Nat) (s : State) :
    (blockFailed n l s).tag u = if u = n then (s.tag n).owing else s.tag u := by
  unfold blockFailed
  rw [modTag_tag, (cancelPatrol_records ..).1, (cancelPatrol_records ..).1]

@[simp] theorem blockFailed_keeps (n : TagNo) (l : Nat) (s : State) :
    (blockFailed n l s).map = s.map ∧ (blockFailed n l s).cond = s.cond ∧ (blockFailed n l s).array = s.array ∧
    (blockFailed n l s).pool = s.pool ∧ (blockFailed n l s).jrnl = s.jrnl ∧
    (blockFailed n l s).patrol = (cancelPatrol l s).patrol ∧ (blockFailed n l s).req.queue = s.req.queue := by
  simp [blockFailed]

theorem owing_prog {x : Tag} {b : BlockInProgram} (hb : x.prog = some b) :
    x.owing.prog = some { b with inFlight := false, owed := true } := by
  simp [Tag.owing, hb]

/-- The block of a marked tag, or of one that no spare can serve, is offered; else nothing is (R18, R106). -/
theorem owing_offers {c : ResolveKey} {x : Tag} {b : BlockInProgram} (hb : x.prog = some b) :
    x.owing.offers c = if x.abortMark || x.wpMark || c.readOnly || c.spent then [b.lbn] else [] := by
  simp [Tag.offers, Tag.resolvedFrees, Tag.owing, hb]

/-- The machine after the failure of a program in place. -/
def failedInPlace (n : TagNo) (l : Nat) (o : ArrayOp) (s : State) : State :=
  blockFailed n l ((programmed o .fail s).bump CondId.programFailures)

theorem exec_programFail_inPlace {n : TagNo} {l : Nat} {o : ArrayOp} {s : State} (ho : s.array.op = some o)
    (hreq : o.requester = .tag n) (hop : o.operation = .programBlock) (hpur : o.purpose ≠ .reallocation)
    (hl : o.lbn = some l) :
    exec (.programBlockCompletion .fail) s = .next (settle s (resolveOwed (failedInPlace n l o s))) := by
  rw [exec_programCompletion ho hop]
  have hp : (o.purpose == .reallocation) = false := beq_eq_false_iff_ne.2 hpur
  unfold programDone
  simp only [hreq, hp, hl, Option.getD_some, tagProgramDone]
  rfl

theorem failedInPlace_tag (n u : TagNo) (l : Nat) (o : ArrayOp) (s : State) :
    (failedInPlace n l o s).tag u = if u = n then (s.tag n).owing else s.tag u := by
  unfold failedInPlace
  rw [blockFailed_tag]
  simp

theorem failedInPlace_keeps (n : TagNo) (l : Nat) (o : ArrayOp) (s : State) :
    (failedInPlace n l o s).map = s.map ∧
    (failedInPlace n l o s).cond = ((programmed o .fail s).bump CondId.programFailures).cond ∧
    (failedInPlace n l o s).pool = s.pool ∧ (failedInPlace n l o s).jrnl = s.jrnl ∧
    (failedInPlace n l o s).patrol = (cancelPatrol l s).patrol ∧ (failedInPlace n l o s).req.queue = s.req.queue := by
  refine ⟨by simp [failedInPlace], by simp [failedInPlace], by simp [failedInPlace], by simp [failedInPlace], ?_,
    by simp [failedInPlace]⟩
  simp only [failedInPlace, blockFailed_keeps, cancelPatrol_eq]
  simp

theorem failedInPlace_onlyTag (n : TagNo) (l : Nat) (o : ArrayOp) (s : State) : OnlyTag n l s (failedInPlace n l o s) := by
  obtain ⟨-, -, hpool, hjrnl, hpatrol, hqueue⟩ := failedInPlace_keeps n l o s
  exact ⟨fun u hne => by rw [failedInPlace_tag, if_neg hne], hqueue, fun k => .inl (slot_eq_of_pool hpool k), hpatrol,
    by rw [hjrnl], by rw [hjrnl]⟩

theorem failedInPlace_freeSpares (n : TagNo) (l : Nat) (o : ArrayOp) (s : State) :
    freeSpares (failedInPlace n l o s) = freeSpares s := by
  obtain ⟨hmap, -⟩ := failedInPlace_keeps n l o s
  exact freeSpares_of_remapKept ⟨by rw [hmap], by rw [hmap]⟩

theorem failedInPlace_counted (n : TagNo) (l : Nat) (o : ArrayOp) (s : State) (ids : List CondId) :
    RawCounted CondId.programFailures ids s (failedInPlace n l o s) := by
  obtain ⟨-, hcond, -⟩ := failedInPlace_keeps n l o s
  have h : RawCounted CondId.programFailures ids s ((programmed o .fail s).bump CondId.programFailures) :=
    bump_rawCounted (programmed o .fail s) _ ids
  unfold RawCounted RawKept at *
  rwa [hcond]

/-! ## A spare is free: the block owes its reallocation -/

/-- While a spare is free an unmarked tag's failure gives nothing up. -/
theorem failedInPlace_kept {n : TagNo} {l : Nat} {o : ArrayOp} {b : BlockInProgram} {s : State} (ho : OwedOk s)
    (hb : (s.tag n).prog = some b) (hab : (s.tag n).abortMark = false) (hw : (s.tag n).wpMark = false)
    (hm : s.jrnl.mode ≠ .readOnly) (hf : freeSpares s ≠ []) :
    resolveOwed (failedInPlace n l o s) = failedInPlace n l o s := by
  have honly := failedInPlace_onlyTag n l o s
  have hf' : freeSpares (failedInPlace n l o s) ≠ [] := by rwa [failedInPlace_freeSpares]
  have hspent : (resolveKey (failedInPlace n l o s)).spent = false :=
    Bool.eq_false_iff.2 fun e => hf' ((resolveKey_spent _).1 e)
  refine resolveOwed_eq_self (fun u _ => ?_) (honly.refreshOffers_kept ho hf')
  by_cases hu : u = n
  · rw [hu, failedInPlace_tag, if_pos rfl]
    exact (resolved_kept (owing_prog hb) hab hw (honly.readOnly_eq hm) hspent).2
  · rw [honly.others u hu]
    exact (honly.resolved_kept ho hf').2

theorem failedInPlace_owes {n : TagNo} {l : Nat} {o : ArrayOp} {b : BlockInProgram} {s : State} (ho : OwedOk s)
    (hb : (s.tag n).prog = some b) (hact : (s.tag n).state = .active) :
    OwesOrGranted (settle s (failedInPlace n l o s)) n b := by
  have htag : (failedInPlace n l o s).tag n = (s.tag n).owing := by rw [failedInPlace_tag, if_pos rfl]
  refine owesOrGranted_settle ?_ ?_ ?_
  · rw [htag]
    exact (ho.1 n b hb).1
  · rw [htag]
    exact hact
  · rw [htag, owing_prog hb]

/-! ## No spare is free: the block is exhausted -/

theorem failedInPlace_spent {n : TagNo} {l : Nat} {o : ArrayOp} {b : BlockInProgram} {s : State} 
    (hb : (s.tag n).prog = some b) (hq : n ∈ s.req.queue) (hab : (s.tag n).abortMark = false)
    (hw : (s.tag n).wpMark = false) (hm : s.jrnl.mode ≠ .readOnly) (hf : freeSpares s = []) :
    Exhausted s (settle s (resolveOwed (failedInPlace n l o s))) n b.lbn ∧
      ((settle s (resolveOwed (failedInPlace n l o s))).tag n).needed = (s.tag n).needed := by
  have honly := failedInPlace_onlyTag n l o s
  obtain ⟨hmap, -, hpool, hjrnl, -, hqueue⟩ := failedInPlace_keeps n l o s
  have hq' : n ∈ (failedInPlace n l o s).req.queue := by rwa [hqueue]
  have htag : (failedInPlace n l o s).tag n = (s.tag n).owing := by rw [failedInPlace_tag, if_pos rfl]
  have hspent : (resolveKey (failedInPlace n l o s)).spent = true :=
    (resolveKey_spent _).2 (by rwa [failedInPlace_freeSpares])
  have hkey : (resolveKey (failedInPlace n l o s)).lastDone = s.jrnl.lastDone := honly.lastDone
  obtain ⟨hres, hfrees⟩ := resolved_exhausted (x := (s.tag n).owing) (owing_prog hb) rfl hab hw (honly.readOnly_eq hm) hspent
  rw [hkey] at hres
  have hx : (resolveOwed (failedInPlace n l o s)).tag n =
      (s.tag n).owing.exhausted b.lbn ((s.tag n).owing.waitsAbove s.jrnl.lastDone) := by
    rw [resolveOwed_tag, if_pos hq', htag, hres]
  refine ⟨exhausted_settle hx ⟨rfl, rfl, rfl, rfl, rfl⟩ hq (by simpa using hq')
    (resolveOwed_ownsNoSlot hq' (by rw [htag, hfrees])) fun k hk =>
      freed_of_cases (honly.slots k) hq' (by rw [htag, hfrees]) hk, ?_⟩
  rw [settle_tag_needed, hx]
  unfold Tag.exhausted
  dsimp only
  split <;> rfl

/-- Settles O30. -/
theorem programInPlaceFails : Obligations.ProgramInPlaceFails := by
  rintro n l o b s ⟨ho, hreq, hact, hq, hab, hw⟩ hop hpur hl hb hready hnodup howed
  have hm : s.jrnl.mode ≠ .readOnly := by simp [hready]
  have honly := failedInPlace_onlyTag n l o s
  have htag : (failedInPlace n l o s).tag n = (s.tag n).owing := by rw [failedInPlace_tag, if_pos rfl]
  obtain ⟨hmap, hcond, hpool, hjrnl, -, hqueue⟩ := failedInPlace_keeps n l o s
  have hexec := exec_programFail_inPlace ho hreq hop (by simp [hpur]) hl
  refine ⟨fun hf => ?_, fun hf hbl => ?_⟩
  · rw [failedInPlace_kept howed hb hab hw hm hf] at hexec
    have hactive : ((failedInPlace n l o s).tag n).state = .active := by
      rw [htag]
      exact hact
    have hq' : n ∈ (failedInPlace n l o s).req.queue := by rwa [hqueue]
    refine ⟨_, hexec, failedInPlace_owes howed hb hact, by simp [htag, Tag.owing], by simp [htag, Tag.owing],
      settle_staysIn_active s _ n hq' hactive, ?_, ?_, fun k _ hk => ?_, honly.othersOwed howed s⟩
    · exact (failedInPlace_counted n l o s []).of_kept (fun _ _ => rfl) (rawKept_of_cond (by simp) _) (by simp)
    · rw [(settle_of_live s _ n hq' (by rw [hactive]; rfl)).2.1, hmap]
    · have hslot : (failedInPlace n l o s).slot k = s.slot k := slot_eq_of_pool hpool k
      rw [settle_slot_of_busy s _ k (by simp [hslot, hk]) (by simp [hslot, hk]) (by simp [hslot, hk]), hslot]
  · subst hbl
    obtain ⟨hex, hneeded⟩ := failedInPlace_spent (o := o) (l := b.lbn) hb hq hab hw hm hf
    have hf' : freeSpares (failedInPlace n b.lbn o s) = [] := by rwa [failedInPlace_freeSpares]
    have hlists := honly.listsOffered_spent howed hnodup hf'
    rw [htag, owing_offers hb, if_pos (by simp [(resolveKey_spent _).2 hf'])] at hlists
    have hoff := offered_settle (s₀ := s) (s := s) hlists (by rw [hmap])
    rw [hmap] at hoff
    refine ⟨_, hexec, hex, hneeded, by simp [RemapKept, hmap], honly.othersExhausted howed hf', hoff, ?_⟩
    exact (failedInPlace_counted n b.lbn o s _).of_kept (fun _ _ => rfl)
      ((resolveOwed_rawKept _).trans (rawKept_of_cond (by simp) _)) (by decide)

end Sys2Proof.Machine
end

section
/-! PROOFS. Marked tags whose operation ends (R18, R22): what their end has in common. -/
namespace Sys2Proof.Machine

/-! ## The tag is DONE -/

/-- A tag that the event finished, with its slots freed, when the event closes. -/
theorem finished_settle {s x : State} {n : TagNo} {y : Tag} {st : Status} (htag : x.tag n = y.finished st)
    (hq : n ∈ s.req.queue) (hown : ownsNoSlot x n)
    (hfree : ∀ k, (s.slot k).owner = some n → x.slot k = Slot.free) :
    DoneWith (settle s x) n st ∧ (settle s x).tag n = y.finished st ∧
      ∀ k, (s.slot k).owner = some n → slotFreed (settle s x) k := by
  have hd : (x.tag n).state = .done := by
    rw [htag]
    rfl
  refine ⟨settle_doneWith s x n st hq hd (by rw [htag]; rfl) hown, ?_, fun k hk => settle_slotFreed s x k (hfree k hk)⟩
  rw [settle_tag_of_over s x n (by simp [hd]) (by simp [hd]) (by simp [hd]), htag]

/-! ## A read -/

theorem readTaken_slot (n : TagNo) (l : Nat) (c : ReadClass) (s : State) (k : SlotNo) :
    (readTaken n l c s).slot k = s.slot k := slot_eq_of_pool (by simp) k

/-- The machine after the read of an abort-marked tag ended (R18). -/
theorem exec_markedRead {n : TagNo} {o : ArrayOp} {c : CurrentBlock} {s : State} (h : MarkedOpInFlight s o n)
    (hop : o.operation = .readBlock) (hab : (s.tag n).abortMark = true) (hc : (s.tag n).cur = some c)
    (out : ReadOutcome) :
    exec (.readBlockCompletion out) s = .next (settle s (finish n .aborted
      (readTaken n c.lbn (classify (decide (0 < c.retries)) out) (idleUnit s)))) := by
  obtain ⟨ho, hreq, -⟩ := h
  rw [exec_readCompletion ho hop hreq, tagReadDone_final (s := idleUnit s) (c := c) (by simpa using hc)
    (.inl (by simpa using hab)), tagReadFinal_aborted (by simpa using hab)]

theorem markedRead_ends {n : TagNo} {o : ArrayOp} {c : CurrentBlock} {s : State} (h : MarkedOpInFlight s o n)
    (hop : o.operation = .readBlock) (hab : (s.tag n).abortMark = true) (hc : (s.tag n).cur = some c)
    (out : ReadOutcome) :
    Completes (.readBlockCompletion out) s fun t =>
       DoneWith t n .aborted ∧ (t.tag n).completed = (s.tag n).completed + 1 ∧ (t.tag n).moved = (s.tag n).moved ∧
       (t.tag n).worst = max (s.tag n).worst (corrections out) ∧ (t.tag n).issued = (s.tag n).issued ∧
       (t.tag n).firstFail = (if out = .uncorrectable then some ((s.tag n).firstFail.getD c.lbn)
         else (s.tag n).firstFail) ∧
       (∀ k, (s.slot k).owner = some n → slotFreed t k) ∧
       ListsAfterRead c.lbn c.retries out s t ∧ CountsAfterRead c.retries out s t ∧ RemapKept s t ∧ ArrayKept s t := by
  have hq : n ∈ s.req.queue := h.2.2.2.1
  have htag : (finish n .aborted (readTaken n c.lbn (classify (decide (0 < c.retries)) out) (idleUnit s))).tag n =
      ((s.tag n).takeRead c.lbn s.cfg.refreshLevel (classify (decide (0 < c.retries)) out)).finished .aborted := by
    rw [finish_tag_eq, if_pos rfl, readTaken_tag, if_pos rfl]
    rfl
  obtain ⟨hdone, hsame, hfreed⟩ := finished_settle htag hq (ownsNoSlot_finish _ _ _) fun k hk => by
    rw [finish_slot_eq, readTaken_slot]
    exact if_pos hk
  refine ⟨_, exec_markedRead h hop hab hc out, hdone, by rw [hsame]; rfl, by rw [hsame]; rfl, ?_, by rw [hsame]; rfl, ?_,
    hfreed, listsAfterRead_settle (l := c.lbn) (s := idleUnit s) (by simp),
    countsAfterRead_settle (l := c.lbn) (retries := c.retries) (out := out) (s := idleUnit s) (by simp),
    by simp [RemapKept], arrayKept_of_eq (by simp) (by simp)⟩
  · rw [hsame, ← classify_corrections (decide (0 < c.retries)) out]
    rfl
  · rw [hsame]
    change (if (classify (decide (0 < c.retries)) out).success then _ else _) = _
    by_cases hout : out = .uncorrectable
    · rw [if_pos hout, if_neg fun hs => (classify_success _ out).1 hs hout]
    · rw [if_neg hout, if_pos ((classify_success _ out).2 hout)]

/-! ## A program that fails -/

/-- What a marked tag's block owes is given up (R18, R106). -/
theorem resolved_marked {c : ResolveKey} {x : Tag} {b : BlockInProgram} (hb : x.prog = some b) (ho : b.owed = true)
    (hm : x.abortMark = true ∨ x.wpMark = true) :
    x.resolved c = x.counted.finished (if x.abortMark then .aborted else .writeProtected) ∧
      x.resolvedFrees c = true := by
  by_cases hab : x.abortMark = true
  · simp [Tag.resolved, Tag.resolvedFrees, hb, ho, hab]
  · have hw : x.wpMark = true := hm.resolve_left hab
    simp [Tag.resolved, Tag.resolvedFrees, hb, ho, hab, hw]

/-- A marked tag's program fails: the tag ends, and no reallocation follows (R18). -/
theorem marked_fails {n : TagNo} {l : Nat} {s y : State} {x : Tag} {b : BlockInProgram} (honly : OnlyTag n l s y)
    (hq : n ∈ s.req.queue) (htag : y.tag n = x.owing) (hb : x.prog = some b)
    (hm : x.abortMark = true ∨ x.wpMark = true) :
    DoneWith (settle s (resolveOwed y)) n (if x.abortMark then .aborted else .writeProtected) ∧
    (settle s (resolveOwed y)).tag n =
      x.owing.counted.finished (if x.abortMark then .aborted else .writeProtected) ∧
    ∀ k, (s.slot k).owner = some n → slotFreed (settle s (resolveOwed y)) k := by
  have hyq : n ∈ y.req.queue := by rwa [honly.queue]
  obtain ⟨hres, hfrees⟩ := resolved_marked (c := resolveKey y) (x := x.owing) (owing_prog hb) rfl hm
  rw [← htag] at hfrees
  refine finished_settle ?_ hq (resolveOwed_ownsNoSlot hyq hfrees) fun k hk => freed_of_cases (honly.slots k) hyq hfrees hk
  rw [resolveOwed_tag, if_pos hyq, htag, hres]
  rfl

/-- The lists and the other blocks after the failure of a marked tag's program (R18, R107). -/
theorem marked_fails_others {n : TagNo} {l : Nat} {s y : State} {x : Tag} {b : BlockInProgram} (honly : OnlyTag n l s y)
    (howed : OwedOk s) (hnodup : s.req.queue.Nodup) (hq : n ∈ s.req.queue) (htag : y.tag n = x.owing)
    (hb : x.prog = some b) (hbl : b.lbn = l) (hm : x.abortMark = true ∨ x.wpMark = true)
    (hpend : y.map.pendingLbns = s.map.pendingLbns) (hover : y.map.overflow = s.map.overflow)
    (hrefresh : y.map.refresh = s.map.refresh) :
    OthersOwed (freeSpares (settle s (resolveOwed y)) = []) n l s (settle s (resolveOwed y)) ∧
    (freeSpares (settle s (resolveOwed y)) ≠ [] → OfferedPending l s (settle s (resolveOwed y))) ∧
    (freeSpares (settle s (resolveOwed y)) = [] →
      Offered (owedInOrder s n [l] l) s.map.pendingLbns s.map.refresh s (settle s (resolveOwed y))) := by
  have hspares : freeSpares (settle s (resolveOwed y)) = freeSpares y := by
    rw [settle_freeSpares]
    exact freeSpares_of_remapKept ⟨by simp, by simp⟩
  have hoffers : (y.tag n).offers (resolveKey y) = [l] := by
    rw [htag, owing_offers hb, hbl, if_pos]
    rcases hm with e | e <;> simp [e]
  rw [hspares]
  by_cases hf : freeSpares y = []
  · have hlists := honly.listsOffered_spent howed hnodup hf
    rw [hoffers] at hlists
    have h := offered_settle (s₀ := s) hlists hover
    rw [hpend, hrefresh] at h
    exact ⟨by rw [eq_true hf]; exact honly.othersExhausted howed hf, fun hno => absurd hf hno, fun _ => h⟩
  · have hlists := honly.listsOffered_kept howed hnodup hq hf
    rw [hoffers] at hlists
    have h := offered_settle (s₀ := s) hlists hover
    rw [hpend, hrefresh] at h
    exact ⟨by rw [eq_false hf]; exact (honly.resolveOwed howed hf).othersOwed howed s, fun _ => h,
      fun hyes => absurd hyes hf⟩

/-! ## A program that passes -/

/-- The status of a marked tag whose block has passed (R18, R22). -/
def Tag.markedStatus (lastDone : Nat) (x : Tag) : Status :=
  if x.abortMark then .aborted
  else if x.completed = x.count then if x.waitsAbove lastDone then .journalFault else x.soFar
  else .writeProtected

theorem afterPass_of_marked {n : TagNo} {s : State} (hm : (s.tag n).abortMark = true ∨ (s.tag n).wpMark = true) :
    afterPass n s = finish n ((s.tag n).markedStatus s.jrnl.lastDone) s := by
  unfold Tag.markedStatus
  by_cases hab : (s.tag n).abortMark = true
  · rw [afterPass_aborted hab, if_pos hab]
  · rw [afterPass_marked (Bool.eq_false_iff.2 hab) (hm.resolve_left hab), if_neg hab]
    rfl

/-- A marked tag's block passes: the tag ends, whether or not the event resolves what other blocks owe. -/
theorem marked_passes {n : TagNo} {l : Nat} {s z w : State} {x : Tag} {r : Bool} (honly : OnlyTag n l s z)
    (hq : n ∈ s.req.queue) (htag : z.tag n = x.passBlock r) (hm : x.abortMark = true ∨ x.wpMark = true)
    (hw : w = afterPass n z ∨ w = resolveOwed (afterPass n z)) :
    DoneWith (settle s w) n ((x.passBlock r).markedStatus s.jrnl.lastDone) ∧
    (settle s w).tag n = (x.passBlock r).finished ((x.passBlock r).markedStatus s.jrnl.lastDone) ∧
    ∀ k, (s.slot k).owner = some n → slotFreed (settle s w) k := by
  have hpass : afterPass n z = finish n ((x.passBlock r).markedStatus s.jrnl.lastDone) z := by
    rw [afterPass_of_marked (by rw [htag]; exact hm), htag, honly.lastDone]
  have htag' : (afterPass n z).tag n = (x.passBlock r).finished ((x.passBlock r).markedStatus s.jrnl.lastDone) := by
    rw [hpass, finish_tag_eq, if_pos rfl, htag]
  have hown : ownsNoSlot (afterPass n z) n := by
    rw [hpass]
    exact ownsNoSlot_finish _ _ _
  have hfree : ∀ k, (s.slot k).owner = some n → (afterPass n z).slot k = Slot.free := fun k hk => by
    rcases honly.slots k with e | e
    · rw [hpass, finish_slot_eq, if_pos (by rw [e, hk])]
    · exact afterPass_slot_free e
  rcases hw with rfl | rfl
  · exact finished_settle htag' hq hown hfree
  · refine finished_settle ?_ hq (fun k hk => ?_) fun k hk => ?_
    · rw [resolveOwed_tag, htag', resolved_of_prog_none _ _ rfl, ite_self]
    · rcases resolveOwed_slot_cases (afterPass n z) k with e | e
      · rw [e] at hk
        exact hown k hk
      · rw [e] at hk
        cases hk
    · rcases resolveOwed_slot_cases (afterPass n z) k with e | e
      · rw [e, hfree k hk]
      · exact e

end Sys2Proof.Machine
end

section
/-! PROOFS. The end of a tag's program on a spare (R104, R105), and O35. -/
namespace Sys2Proof.Machine

/-! ## The needed sequence and the remap table -/

/-- The needed sequence is recorded, unless the tag carries the abort mark (R104, R105). -/
def Tag.needing (q : Nat) (x : Tag) : Tag :=
  if x.abortMark then x else { x with needed := some (max (x.needed.getD 0) q) }

theorem needing_keeps (q : Nat) (x : Tag) :
    (x.needing q).completed = x.completed ∧ (x.needing q).passed = x.passed ∧ (x.needing q).issued = x.issued ∧
    (x.needing q).reallocs = x.reallocs ∧ (x.needing q).soFar = x.soFar ∧ (x.needing q).count = x.count ∧
    (x.needing q).abortMark = x.abortMark ∧ (x.needing q).wpMark = x.wpMark ∧ (x.needing q).prog = x.prog := by
  unfold Tag.needing
  split <;> exact ⟨rfl, rfl, rfl, rfl, rfl, rfl, rfl, rfl, rfl⟩

theorem needing_needed (q : Nat) (x : Tag) :
    (x.needing q).needed = if x.abortMark = false then some (max (x.needed.getD 0) q) else x.needed := by
  unfold Tag.needing
  cases x.abortMark <;> rfl

theorem commitReasonFor_tag (n u : TagNo) (s : State) :
    (commitReasonFor n s).tag u = if u = n then (s.tag n).needing (s.jrnl.lastStarted + 1) else s.tag u := by
  unfold commitReasonFor
  dsimp only
  rw [modTag_tag, (commitReason_records ..).1, (commitReason_records ..).1]
  rfl

theorem commitReasonFor_needed (n : TagNo) (s : State) : (commitReasonFor n s).jrnl.commitNeeded = true := rfl

theorem checkSequence_eq_self {s : State} (h : s.jrnl.mode = .ready → s.jrnl.lastStarted < 4294967295) :
    checkSequence s = s := by
  unfold checkSequence
  refine if_neg fun hc => ?_
  simp only [Bool.and_eq_true, decide_eq_true_eq, beq_iff_eq] at hc
  exact absurd (h hc.2) (Nat.not_lt.2 hc.1.2)

theorem remapTo_mapped (l pbn : Nat) (s : State) : MappedTo l pbn s (remapTo l pbn s) := by
  unfold remapTo
  cases hold : Memory.find s.map.remap l with
  | none =>
    refine ⟨Memory.find_put_same .., fun m hm => Memory.find_put_other _ _ _ _ hm, fun q => ?_⟩
    simp [hold]
  | some p =>
    refine ⟨Memory.find_put_same .., fun m hm => Memory.find_put_other _ _ _ _ hm, fun q => ?_⟩
    rw [hold, Option.some.injEq]
    exact (mem_insertSorted p q _).trans (or_comm.trans (or_congr Iff.rfl eq_comm))

theorem MappedTo.congr {l pbn : Nat} {s t u : State} (h : MappedTo l pbn s t) (hr : RemapKept t u) : MappedTo l pbn s u := by
  unfold MappedTo at *
  rwa [hr.1, hr.2]

theorem retire_spare (pbn : Nat) (s : State) : SpareRetired pbn s (retire pbn s) :=
  ⟨rfl, fun q => (mem_insertSorted pbn q _).trans or_comm⟩

theorem SpareRetired.congr {pbn : Nat} {s t u : State} (h : SpareRetired pbn s t) (hr : RemapKept t u) :
    SpareRetired pbn s u := by
  unfold SpareRetired at *
  rwa [hr.1, hr.2]

/-! ## A pass on a spare -/

/-- The LBN is mapped to the spare, and the commit reason made (R104 steps 1 to 3). -/
def remapped (n : TagNo) (l : Nat) (o : ArrayOp) (s : State) : State :=
  reportSpares ((commitReasonFor n (remapTo l o.pbn (programmed o .pass s))).bump CondId.reallocations)

/-- The machine after a pass on a spare, before what follows for the tag (R104). -/
def passedOnSpare (n : TagNo) (b : BlockInProgram) (l : Nat) (o : ArrayOp) (s : State) : State :=
  blockPassed n b true (cancelPatrol l (clearLists l (remapped n l o s)))

theorem remapped_tag (n u : TagNo) (l : Nat) (o : ArrayOp) (s : State) :
    (remapped n l o s).tag u = if u = n then (s.tag n).needing (s.jrnl.lastStarted + 1) else s.tag u := by
  unfold remapped
  rw [(reportSpares_records ..).1, (bump_records ..).1, commitReasonFor_tag]
  simp

@[simp] theorem remapped_keeps (n : TagNo) (l : Nat) (o : ArrayOp) (s : State) :
    (remapped n l o s).pool = s.pool ∧ (remapped n l o s).patrol = s.patrol ∧
    (remapped n l o s).req.queue = s.req.queue ∧ (remapped n l o s).jrnl.mode = s.jrnl.mode ∧
    (remapped n l o s).jrnl.lastDone = s.jrnl.lastDone ∧ (remapped n l o s).jrnl.lastStarted = s.jrnl.lastStarted ∧
    (remapped n l o s).map.pendingLbns = s.map.pendingLbns ∧ (remapped n l o s).map.overflow = s.map.overflow ∧
    (remapped n l o s).map.refresh = s.map.refresh ∧ (remapped n l o s).jrnl.commitNeeded = true := by
  simp [remapped, commitReasonFor_needed]

theorem remapped_mapped (n : TagNo) (l : Nat) (o : ArrayOp) (s : State) : MappedTo l o.pbn s (remapped n l o s) :=
  MappedTo.congr (t := remapTo l o.pbn (programmed o .pass s)) (remapTo_mapped l o.pbn (programmed o .pass s))
    ⟨by simp [remapped], by simp [remapped]⟩

theorem remapped_counted (n : TagNo) (l : Nat) (o : ArrayOp) (s : State) :
    RawCounted CondId.reallocations [CondId.sparesRemaining, CondId.pendingBlocks] s (remapped n l o s) := by
  have hraw : RawKept [CondId.sparesRemaining] _ (remapped n l o s) :=
    reportSpares_rawKept ((commitReasonFor n (remapTo l o.pbn (programmed o .pass s))).bump CondId.reallocations)
  exact (bump_rawCounted _ _ _).of_kept (rawKept_of_cond (by simp) _) (hraw.mono (by decide)) (by decide)

theorem exec_programPass_onSpare {n : TagNo} {l : Nat} {o : ArrayOp} {b : BlockInProgram} {s : State}
    (ho : s.array.op = some o) (hreq : o.requester = .tag n) (hop : o.operation = .programBlock)
    (hpur : o.purpose = .reallocation) (hl : o.lbn = some l) (hb : (s.tag n).prog = some b)
    (hlt : s.jrnl.mode = .ready → s.jrnl.lastStarted < 4294967295) :
    exec (.programBlockCompletion .pass) s =
      .next (settle s (resolveOwed (afterPass n (passedOnSpare n b l o s)))) := by
  rw [exec_programCompletion ho hop]
  have hz : ((cancelPatrol l (clearLists l (remapped n l o s))).tag n).prog = some b := by
    rw [(cancelPatrol_records ..).1, (clearLists_records ..).1, remapped_tag, if_pos rfl,
      (needing_keeps ..).2.2.2.2.2.2.2.2, hb]
  have hp : (o.purpose == .reallocation) = true := beq_iff_eq.2 hpur
  have hdone : programDone o .pass (programmed o .pass s) =
      checkSequence (resolveOwed (tagBlockPasses n true (cancelPatrol l (clearLists l (remapped n l o s))))) := by
    unfold programDone
    simp only [hreq, hp, hl, Option.getD_some, tagProgramDone]
    rfl
  rw [hdone, tagBlockPasses_eq hz, checkSequence_eq_self]
  · rfl
  · simpa using hlt

theorem passedOnSpare_tag (n u : TagNo) (b : BlockInProgram) (l : Nat) (o : ArrayOp) (s : State) :
    (passedOnSpare n b l o s).tag u =
      if u = n then ((s.tag n).needing (s.jrnl.lastStarted + 1)).passBlock true else s.tag u := by
  unfold passedOnSpare
  rw [blockPassed_tag, (cancelPatrol_records ..).1, (clearLists_records ..).1, (cancelPatrol_records ..).1,
    (clearLists_records ..).1, remapped_tag, remapped_tag, if_pos rfl]
  by_cases hu : u = n
  · rw [if_pos hu, if_pos hu]
  · rw [if_neg hu, if_neg hu, if_neg hu]

theorem passedOnSpare_keeps (n : TagNo) (b : BlockInProgram) (l : Nat) (o : ArrayOp) (s : State) :
    (passedOnSpare n b l o s).map = (clearLists l (remapped n l o s)).map ∧
    (passedOnSpare n b l o s).cond = (clearLists l (remapped n l o s)).cond ∧
    (passedOnSpare n b l o s).jrnl = (remapped n l o s).jrnl ∧
    (passedOnSpare n b l o s).patrol = (cancelPatrol l s).patrol ∧
    (passedOnSpare n b l o s).req.queue = s.req.queue := by
  refine ⟨by simp [passedOnSpare], by simp [passedOnSpare], by simp [passedOnSpare], ?_, by simp [passedOnSpare]⟩
  simp only [passedOnSpare, blockPassed_keeps, cancelPatrol_eq]
  simp

theorem passedOnSpare_onlyTag (n : TagNo) (b : BlockInProgram) (l : Nat) (o : ArrayOp) (s : State) :
    OnlyTag n l s (passedOnSpare n b l o s) := by
  obtain ⟨-, -, hjrnl, hpatrol, hqueue⟩ := passedOnSpare_keeps n b l o s
  refine ⟨fun u hne => by rw [passedOnSpare_tag, if_neg hne], hqueue, fun k => ?_, hpatrol, by simp [hjrnl],
    by simp [hjrnl]⟩
  have hk : (cancelPatrol l (clearLists l (remapped n l o s))).slot k = s.slot k := slot_eq_of_pool (by simp) k
  unfold passedOnSpare
  rw [blockPassed_slot, hk]
  split
  · exact .inr rfl
  · exact .inl rfl

theorem passedOnSpare_lists (n : TagNo) (b : BlockInProgram) (l : Nat) (o : ArrayOp) (s : State) :
    (afterPass n (passedOnSpare n b l o s)).map.pendingLbns = s.map.pendingLbns.erase l ∧
    (afterPass n (passedOnSpare n b l o s)).map.overflow = s.map.overflow ∧
    (afterPass n (passedOnSpare n b l o s)).map.refresh = s.map.refresh.erase l := by
  obtain ⟨hmap, -⟩ := passedOnSpare_keeps n b l o s
  obtain ⟨hp, ho, hr⟩ := clearLists_lists l (remapped n l o s)
  rw [(afterPass_keeps ..).1, hmap, hp, ho, hr]
  simp

/-- The lists and the other blocks after a marked tag's pass on a spare (R104, R107). -/
theorem passedOnSpare_others {n : TagNo} {b : BlockInProgram} {l : Nat} {o : ArrayOp} {s : State} (howed : OwedOk s)
    (hnodup : s.req.queue.Nodup) (hq : n ∈ s.req.queue)
    (hprog : ((afterPass n (passedOnSpare n b l o s)).tag n).prog = none) :
    let t := settle s (resolveOwed (afterPass n (passedOnSpare n b l o s)))
    OthersOwed (freeSpares t = []) n l s t ∧ (freeSpares t ≠ [] → ListsCleared l s t) ∧
    (freeSpares t = [] →
      Offered (owedInOrder s n [] l) (s.map.pendingLbns.erase l) (s.map.refresh.erase l) s t) := by
  intro t
  have honly : OnlyTag n l s (afterPass n (passedOnSpare n b l o s)) := afterPass_onlyTag (passedOnSpare_onlyTag n b l o s)
  have hspares : freeSpares t = freeSpares (afterPass n (passedOnSpare n b l o s)) := by
    rw [settle_freeSpares]
    exact freeSpares_of_remapKept ⟨by simp, by simp⟩
  have hoffers : ((afterPass n (passedOnSpare n b l o s)).tag n).offers
      (resolveKey (afterPass n (passedOnSpare n b l o s))) = [] :=
    offers_eq_nil (resolved_unowed fun b' hb' => by rw [hprog] at hb'; cases hb').2
  obtain ⟨hp, ho, hr⟩ := passedOnSpare_lists n b l o s
  rw [hspares]
  by_cases hf : freeSpares (afterPass n (passedOnSpare n b l o s)) = []
  · have hlists := honly.listsOffered_spent howed hnodup hf
    rw [hoffers] at hlists
    have h := offered_settle (s₀ := s) hlists ho
    rw [hp, hr] at h
    exact ⟨by rw [eq_true hf]; exact honly.othersExhausted howed hf, fun hno => absurd hf hno, fun _ => h⟩
  · have hlists := honly.listsOffered_kept howed hnodup hq hf
    rw [hoffers] at hlists
    obtain ⟨hpo, hre⟩ := hlists
    obtain ⟨hpend, hover⟩ := Prod.mk.inj hpo
    exact ⟨by rw [eq_false hf]; exact (honly.resolveOwed howed hf).othersOwed howed s,
      fun _ => listsCleared_settle (hpend.trans hp) (hover.trans ho) (hre.trans hr), fun hyes => absurd hyes hf⟩

theorem passedOnSpare_counted (n : TagNo) (b : BlockInProgram) (l : Nat) (o : ArrayOp) (s : State) :
    RawCounted CondId.reallocations [CondId.sparesRemaining, CondId.pendingBlocks] s
        (settle s (resolveOwed (afterPass n (passedOnSpare n b l o s)))) ∧
      MappedTo l o.pbn s (settle s (resolveOwed (afterPass n (passedOnSpare n b l o s)))) ∧
      reasonMade s (settle s (resolveOwed (afterPass n (passedOnSpare n b l o s)))) := by
  obtain ⟨hmap, hcond, hjrnl, -⟩ := passedOnSpare_keeps n b l o s
  have hclear : RawKept [CondId.pendingBlocks] (remapped n l o s) (clearLists l (remapped n l o s)) := clearLists_rawKept l _
  have hpass : RawKept [CondId.pendingBlocks] (remapped n l o s) (afterPass n (passedOnSpare n b l o s)) :=
    hclear.trans (rawKept_of_cond (by simp [hcond]) _)
  have hraw : RawKept [CondId.pendingBlocks] (remapped n l o s)
      (settle s (resolveOwed (afterPass n (passedOnSpare n b l o s)))) :=
    (hpass.trans (resolveOwed_rawKept _)).trans (rawKept_of_cond (by simp) _)
  refine ⟨(remapped_counted n l o s).of_kept (fun _ _ => rfl) (hraw.mono (by decide)) (by decide),
    (remapped_mapped n l o s).congr ⟨?_, ?_⟩, settle_reasonMade s _ s ?_ ?_⟩
  · simp [hmap]
  · simp [hmap]
  · simp [hjrnl]
  · simp [hjrnl]

/-! ## A failure on a spare -/

/-- The spare is retired, and the commit reason made (R105 steps 1 to 4). -/
def spareFailed (n : TagNo) (o : ArrayOp) (s : State) : State :=
  commitReasonFor n (reportSpares (retire o.pbn ((programmed o .fail s).bump CondId.programFailures)))

theorem spareFailed_tag (n u : TagNo) (o : ArrayOp) (s : State) :
    (spareFailed n o s).tag u = if u = n then (s.tag n).needing (s.jrnl.lastStarted + 1) else s.tag u := by
  unfold spareFailed
  rw [commitReasonFor_tag]
  simp

@[simp] theorem spareFailed_keeps (n : TagNo) (o : ArrayOp) (s : State) :
    (spareFailed n o s).pool = s.pool ∧ (spareFailed n o s).patrol = s.patrol ∧
    (spareFailed n o s).req.queue = s.req.queue ∧ (spareFailed n o s).jrnl.mode = s.jrnl.mode ∧
    (spareFailed n o s).jrnl.lastDone = s.jrnl.lastDone ∧ (spareFailed n o s).jrnl.lastStarted = s.jrnl.lastStarted ∧
    (spareFailed n o s).map.pendingLbns = s.map.pendingLbns ∧ (spareFailed n o s).map.overflow = s.map.overflow ∧
    (spareFailed n o s).map.refresh = s.map.refresh ∧ (spareFailed n o s).jrnl.commitNeeded = true := by
  simp [spareFailed, commitReasonFor_needed]

theorem spareFailed_retired (n : TagNo) (o : ArrayOp) (s : State) : SpareRetired o.pbn s (spareFailed n o s) :=
  SpareRetired.congr (t := retire o.pbn ((programmed o .fail s).bump CondId.programFailures))
    (retire_spare o.pbn ((programmed o .fail s).bump CondId.programFailures))
    ⟨by simp [spareFailed], by simp [spareFailed]⟩

theorem spareFailed_counted (n : TagNo) (o : ArrayOp) (s : State) :
    RawCounted CondId.programFailures [CondId.sparesRemaining, CondId.pendingBlocks] s (spareFailed n o s) := by
  have hraw : RawKept [CondId.sparesRemaining] _ (reportSpares (retire o.pbn
      ((programmed o .fail s).bump CondId.programFailures))) := reportSpares_rawKept _
  have hcount : RawCounted CondId.programFailures [CondId.sparesRemaining, CondId.pendingBlocks] s
      ((programmed o .fail s).bump CondId.programFailures) := bump_rawCounted (programmed o .fail s) _ _
  exact hcount.of_kept (fun _ _ => rfl)
    ((RawKept.trans (rawKept_of_cond (by simp) _) (hraw.mono (by decide))).trans
      (rawKept_of_cond (by simp [spareFailed]) _)) (by decide)

theorem exec_programFail_onSpare {n : TagNo} {l : Nat} {o : ArrayOp} {s : State}
    (ho : s.array.op = some o) (hreq : o.requester = .tag n) (hop : o.operation = .programBlock)
    (hpur : o.purpose = .reallocation) (hl : o.lbn = some l)
    (hlt : s.jrnl.mode = .ready → s.jrnl.lastStarted < 4294967295) :
    exec (.programBlockCompletion .fail) s =
      .next (settle s (resolveOwed (blockFailed n l (spareFailed n o s)))) := by
  rw [exec_programCompletion ho hop]
  have hp : (o.purpose == .reallocation) = true := beq_iff_eq.2 hpur
  have hdone : programDone o .fail (programmed o .fail s) =
      checkSequence (resolveOwed (blockFailed n l (spareFailed n o s))) := by
    unfold programDone
    simp only [hreq, hp, hl, Option.getD_some, tagProgramDone]
    rfl
  rw [hdone, checkSequence_eq_self]
  simpa using hlt

theorem failedOnSpare_onlyTag (n : TagNo) (l : Nat) (o : ArrayOp) (s : State) :
    OnlyTag n l s (blockFailed n l (spareFailed n o s)) := by
  refine ⟨fun u hne => by rw [blockFailed_tag, if_neg hne, spareFailed_tag, if_neg hne], by simp,
    fun k => .inl (slot_eq_of_pool (by simp) k), ?_, by simp, by simp⟩
  simp only [blockFailed_keeps, cancelPatrol_eq]
  simp

theorem failedOnSpare_counted (n : TagNo) (l : Nat) (o : ArrayOp) (s : State) :
    RawCounted CondId.programFailures [CondId.sparesRemaining, CondId.pendingBlocks] s
        (settle s (resolveOwed (blockFailed n l (spareFailed n o s)))) ∧
      SpareRetired o.pbn s (settle s (resolveOwed (blockFailed n l (spareFailed n o s)))) ∧
      reasonMade s (settle s (resolveOwed (blockFailed n l (spareFailed n o s)))) := by
  have hraw : RawKept [CondId.pendingBlocks] (spareFailed n o s)
      (settle s (resolveOwed (blockFailed n l (spareFailed n o s)))) :=
    (RawKept.trans (rawKept_of_cond (by simp) _) (resolveOwed_rawKept (blockFailed n l (spareFailed n o s)))).trans
      (rawKept_of_cond (by simp) _)
  exact ⟨(spareFailed_counted n o s).of_kept (fun _ _ => rfl) (hraw.mono (by decide)) (by decide),
    (spareFailed_retired n o s).congr ⟨by simp, by simp⟩, settle_reasonMade s _ s (by simp) (by simp)⟩

/-! ## The status of a marked tag -/

theorem passedStatus_aborted {d : Nat} {r : Bool} {x : Tag} (h : x.abortMark = true) :
    (x.passBlock r).markedStatus d = .aborted := if_pos h

theorem passedStatus_more {d : Nat} {r : Bool} {x : Tag} (h : x.abortMark = false) (hl : x.completed + 1 ≠ x.count) :
    (x.passBlock r).markedStatus d = .writeProtected := by
  simp [Tag.markedStatus, Tag.passBlock, h, hl]

theorem passedStatus_last {d : Nat} {r : Bool} {x : Tag} (h : x.abortMark = false) (hl : x.completed + 1 = x.count) :
    (x.passBlock r).markedStatus d = if x.waitsAbove d then .journalFault else (x.passBlock r).soFar := by
  simp [Tag.markedStatus, Tag.passBlock, Tag.waitsAbove, h, hl]

theorem passBlock_soFar (r : Bool) (x : Tag) :
    (x.passBlock r).soFar = if r = true ∧ x.soFar = .ok then .recovered else x.soFar := by
  simp [Tag.passBlock]

/-- A tag that records a needed sequence waits for a commit (R104). -/
theorem needing_waits {d q : Nat} {x : Tag} (hab : x.abortMark = false) (h : d < q) : (x.needing q).waitsAbove d = true := by
  rw [waitsAbove_iff, needing_needed, if_pos hab]
  exact ⟨_, rfl, by omega⟩

/-! ## The four ends of a marked tag's program -/

theorem markedPass_inPlace {n : TagNo} {l : Nat} {o : ArrayOp} {b : BlockInProgram} {s : State}
    (hflight : MarkedOpInFlight s o n) (hop : o.operation = .programBlock) (hpur : o.purpose ≠ .reallocation)
    (hl : o.lbn = some l) (hb : (s.tag n).prog = some b) (howed : OwedOk s)
    (hm : (s.tag n).abortMark = true ∨ (s.tag n).wpMark = true) :
    Completes (.programBlockCompletion .pass) s fun t =>
      DoneWith t n (((s.tag n).passBlock false).markedStatus s.jrnl.lastDone) ∧
      t.tag n = ((s.tag n).passBlock false).finished (((s.tag n).passBlock false).markedStatus s.jrnl.lastDone) ∧
      (∀ k, (s.slot k).owner = some n → slotFreed t k) ∧ t.jrnl.mode = s.jrnl.mode ∧ RemapKept s t ∧
      OthersOwed False n l s t ∧ ListsCleared l s t ∧ RawKept [CondId.pendingBlocks] s t := by
  obtain ⟨ho, hreq, -, hq, -⟩ := hflight
  have honly := passedInPlace_onlyTag n b l o s
  obtain ⟨hcleared, hremap, hraw⟩ := passedInPlace_cleared n b l o s
  obtain ⟨hdone, htag, hfreed⟩ := marked_passes honly hq (by rw [passedInPlace_tag, if_pos rfl]) hm (.inl rfl)
  refine ⟨_, exec_programPass_inPlace ho hreq hop hpur hl hb, hdone, htag, hfreed, ?_, hremap,
    (afterPass_onlyTag honly).othersOwed howed s, hcleared, hraw⟩
  rw [settle_mode, (afterPass_onlyTag honly).mode]

theorem markedPass_onSpare {n : TagNo} {l : Nat} {o : ArrayOp} {b : BlockInProgram} {s : State}
    (hflight : MarkedOpInFlight s o n) (hop : o.operation = .programBlock) (hpur : o.purpose = .reallocation)
    (hl : o.lbn = some l) (hb : (s.tag n).prog = some b) (hnodup : s.req.queue.Nodup) (howed : OwedOk s)
    (hlt : s.jrnl.mode = .ready → s.jrnl.lastStarted < 4294967295)
    (hm : (s.tag n).abortMark = true ∨ (s.tag n).wpMark = true) :
    let y := ((s.tag n).needing (s.jrnl.lastStarted + 1)).passBlock true
    Completes (.programBlockCompletion .pass) s fun t =>
      DoneWith t n (y.markedStatus s.jrnl.lastDone) ∧ t.tag n = y.finished (y.markedStatus s.jrnl.lastDone) ∧
      (∀ k, (s.slot k).owner = some n → slotFreed t k) ∧ t.jrnl.mode = s.jrnl.mode ∧ reasonMade s t ∧
      MappedTo l o.pbn s t ∧ OthersOwed (freeSpares t = []) n l s t ∧ (freeSpares t ≠ [] → ListsCleared l s t) ∧
      (freeSpares t = [] →
        Offered (owedInOrder s n [] l) (s.map.pendingLbns.erase l) (s.map.refresh.erase l) s t) ∧
      RawCounted CondId.reallocations [CondId.sparesRemaining, CondId.pendingBlocks] s t := by
  intro y
  obtain ⟨ho, hreq, -, hq, -⟩ := hflight
  have honly := passedOnSpare_onlyTag n b l o s
  have hmy : ((s.tag n).needing (s.jrnl.lastStarted + 1)).abortMark = true ∨
      ((s.tag n).needing (s.jrnl.lastStarted + 1)).wpMark = true := by
    obtain ⟨-, -, -, -, -, -, hab, hw, -⟩ := needing_keeps (s.jrnl.lastStarted + 1) (s.tag n)
    rwa [hab, hw]
  have hz : (passedOnSpare n b l o s).tag n = y := by rw [passedOnSpare_tag, if_pos rfl]
  obtain ⟨hdone, htag, hfreed⟩ := marked_passes honly hq hz hmy (.inr rfl)
  have hprog : ((afterPass n (passedOnSpare n b l o s)).tag n).prog = none := by
    rw [afterPass_of_marked (by rw [hz]; exact hmy), finish_tag_eq, if_pos rfl]
    rfl
  obtain ⟨hothers, hcleared, hoffered⟩ := passedOnSpare_others howed hnodup hq hprog
  obtain ⟨hcount, hmapped, hreason⟩ := passedOnSpare_counted n b l o s
  refine ⟨_, exec_programPass_onSpare ho hreq hop hpur hl hb hlt, hdone, htag, hfreed, ?_, hreason, hmapped, hothers,
    hcleared, hoffered, hcount⟩
  have hmode := (afterPass_onlyTag honly).mode
  simpa using hmode

theorem markedFail_inPlace {n : TagNo} {l : Nat} {o : ArrayOp} {b : BlockInProgram} {s : State}
    (hflight : MarkedOpInFlight s o n) (hop : o.operation = .programBlock) (hpur : o.purpose ≠ .reallocation)
    (hl : o.lbn = some l) (hb : (s.tag n).prog = some b) (hbl : b.lbn = l) (hnodup : s.req.queue.Nodup)
    (howed : OwedOk s) (hm : (s.tag n).abortMark = true ∨ (s.tag n).wpMark = true) :
    Completes (.programBlockCompletion .fail) s fun t =>
      DoneWith t n (if (s.tag n).abortMark then .aborted else .writeProtected) ∧
      t.tag n = (s.tag n).owing.counted.finished (if (s.tag n).abortMark then .aborted else .writeProtected) ∧
      (∀ k, (s.slot k).owner = some n → slotFreed t k) ∧ t.jrnl.mode = s.jrnl.mode ∧ RemapKept s t ∧
      OthersOwed (freeSpares t = []) n l s t ∧ (freeSpares t ≠ [] → OfferedPending l s t) ∧
      (freeSpares t = [] → Offered (owedInOrder s n [l] l) s.map.pendingLbns s.map.refresh s t) ∧
      RawCounted CondId.programFailures [CondId.pendingBlocks] s t := by
  obtain ⟨ho, hreq, -, hq, -⟩ := hflight
  have honly := failedInPlace_onlyTag n l o s
  have htag : (failedInPlace n l o s).tag n = (s.tag n).owing := by rw [failedInPlace_tag, if_pos rfl]
  obtain ⟨hmap, -, -, hjrnl, -⟩ := failedInPlace_keeps n l o s
  obtain ⟨hdone, hsame, hfreed⟩ := marked_fails honly hq htag hb hm
  obtain ⟨hothers, hpending, hoffered⟩ := marked_fails_others honly howed hnodup hq htag hb hbl hm (by rw [hmap])
    (by rw [hmap]) (by rw [hmap])
  refine ⟨_, exec_programFail_inPlace ho hreq hop hpur hl, hdone, hsame, hfreed, by simp [hjrnl], by simp [RemapKept, hmap],
    hothers, hpending, hoffered, ?_⟩
  exact (failedInPlace_counted n l o s _).of_kept (fun _ _ => rfl)
    ((resolveOwed_rawKept _).trans (rawKept_of_cond (by simp) _)) (by decide)

theorem markedFail_onSpare {n : TagNo} {l : Nat} {o : ArrayOp} {b : BlockInProgram} {s : State}
    (hflight : MarkedOpInFlight s o n) (hop : o.operation = .programBlock) (hpur : o.purpose = .reallocation)
    (hl : o.lbn = some l) (hb : (s.tag n).prog = some b) (hbl : b.lbn = l) (hnodup : s.req.queue.Nodup)
    (howed : OwedOk s) (hlt : s.jrnl.mode = .ready → s.jrnl.lastStarted < 4294967295)
    (hm : (s.tag n).abortMark = true ∨ (s.tag n).wpMark = true) :
    let y := (s.tag n).needing (s.jrnl.lastStarted + 1)
    Completes (.programBlockCompletion .fail) s fun t =>
      DoneWith t n (if y.abortMark then .aborted else .writeProtected) ∧
      t.tag n = y.owing.counted.finished (if y.abortMark then .aborted else .writeProtected) ∧
      (∀ k, (s.slot k).owner = some n → slotFreed t k) ∧ t.jrnl.mode = s.jrnl.mode ∧ reasonMade s t ∧
      SpareRetired o.pbn s t ∧ OthersOwed (freeSpares t = []) n l s t ∧ (freeSpares t ≠ [] → OfferedPending l s t) ∧
      (freeSpares t = [] → Offered (owedInOrder s n [l] l) s.map.pendingLbns s.map.refresh s t) ∧
      RawCounted CondId.programFailures [CondId.sparesRemaining, CondId.pendingBlocks] s t := by
  intro y
  obtain ⟨ho, hreq, -, hq, -⟩ := hflight
  have honly := failedOnSpare_onlyTag n l o s
  obtain ⟨-, -, -, -, -, -, hab, hw, hprog⟩ := needing_keeps (s.jrnl.lastStarted + 1) (s.tag n)
  have htag : (blockFailed n l (spareFailed n o s)).tag n = y.owing := by
    rw [blockFailed_tag, if_pos rfl, spareFailed_tag, if_pos rfl]
  have hmy : y.abortMark = true ∨ y.wpMark = true := by rwa [hab, hw]
  have hby : y.prog = some b := hprog.trans hb
  obtain ⟨hdone, hsame, hfreed⟩ := marked_fails honly hq htag hby hmy
  obtain ⟨hothers, hpending, hoffered⟩ := marked_fails_others honly howed hnodup hq htag hby hbl hmy (by simp) (by simp)
    (by simp)
  obtain ⟨hcount, hretired, hreason⟩ := failedOnSpare_counted n l o s
  exact ⟨_, exec_programFail_onSpare ho hreq hop hpur hl hlt, hdone, hsame, hfreed, by simp, hreason, hretired, hothers,
    hpending, hoffered, hcount⟩

end Sys2Proof.Machine
end

section
/-! PROOFS. O35: the operation in flight of a marked tag ends. -/
namespace Sys2Proof.Machine

theorem Completes.mono {c : Instr} {s : State} {P Q : State → Prop} (h : Completes c s P) (hpq : ∀ t, P t → Q t) :
    Completes c s Q := by
  obtain ⟨t, ht, hp⟩ := h
  exact ⟨t, ht, hpq t hp⟩

/-- Settles O35. -/
theorem markedTagsEnd : Obligations.MarkedTagsEnd := by
  refine ⟨fun n o c out s h hop hab hc => markedRead_ends h hop hab hc out, ?_⟩
  intro n l o b s hflight hop hl hb hbl hnodup howed hseq hlt x last onSpare waits status spent ends
  have hm : (s.tag n).abortMark = true ∨ (s.tag n).wpMark = true := by
    have hmark : (s.tag n).abortMark = !(s.tag n).wpMark := hflight.2.2.2.2
    cases hw : (s.tag n).wpMark <;> simp [hmark, hw]
  by_cases hpur : o.purpose = .reallocation
  · have hkeeps := needing_keeps (s.jrnl.lastStarted + 1) x
    obtain ⟨hcompleted, hpassed, hissued, hreallocs, hsoFar, hcount, hab, -, -⟩ := hkeeps
    have hneeded : (x.needing (s.jrnl.lastStarted + 1)).needed =
        if o.purpose = .reallocation ∧ x.abortMark = false then some (max (x.needed.getD 0) (s.jrnl.lastStarted + 1))
        else x.needed := by
      rw [needing_needed]
      simp [hpur]
    refine ⟨(markedPass_onSpare hflight hop hpur hl hb hnodup howed hlt hm).mono fun t ht => ?_,
      (markedFail_onSpare hflight hop hpur hl hb hbl hnodup howed hlt hm).mono fun t ht => ?_⟩
    · obtain ⟨hdone, htag, hfreed, hmode, hreason, hmapped, hothers, hcleared, hoffered, hraw⟩ := ht
      have hsp : (onSpare ∧ spent t) = (freeSpares t = []) := by
        rw [show onSpare = True from eq_true hpur, true_and]
      have hstatus : (((x.needing (s.jrnl.lastStarted + 1)).passBlock true)).soFar = status := by
        rw [passBlock_soFar, hsoFar]
        simp [status, hpur]
      refine ⟨⟨?_, ?_, hfreed, hmode, fun _ => hreason, fun hno => absurd hpur hno, ?_⟩, by rwa [hsp],
        by rwa [hsp], by rwa [hsp], fun hab' => ?_, fun hab' => ⟨fun hboth => ?_, fun hboth => absurd (.inl hpur) hboth.2,
          fun hno => ?_⟩, ?_, ?_, fun hno => absurd hpur hno, fun _ => ⟨?_, hmapped, hraw⟩⟩
      · rw [htag, ← hcompleted]; rfl
      · rw [htag, ← hissued]; rfl
      · rw [htag, ← hneeded]; rfl
      · rw [passedStatus_aborted (hab.trans hab')] at hdone
        exact hdone
      · rw [passedStatus_last (hab.trans hab') (by rw [hcompleted, hcount]; exact hboth.1),
          if_pos (needing_waits hab' (Nat.lt_succ_of_le hseq))] at hdone
        exact hdone
      · rw [passedStatus_more (hab.trans hab') (by rw [hcompleted, hcount]; exact hno)] at hdone
        exact hdone
      · rw [htag, ← hpassed]; rfl
      · rw [htag, ← hstatus]; rfl
      · rw [htag, ← hreallocs]; rfl
    · obtain ⟨hdone, htag, hfreed, hmode, hreason, hretired, hothers, hpending, hoffered, hraw⟩ := ht
      refine ⟨⟨?_, ?_, hfreed, hmode, fun _ => hreason, fun hno => absurd hpur hno, ?_⟩, hothers, hpending, hoffered, ?_, ?_,
        ?_, ?_, fun hno => absurd hpur hno, fun _ => ⟨hretired, hraw⟩⟩
      · rw [htag, ← hcompleted]; rfl
      · rw [htag, ← hissued]; rfl
      · rw [htag, ← hneeded]; rfl
      · rw [← hab]; exact hdone
      · rw [htag, ← hpassed]; rfl
      · rw [htag, ← hsoFar]; rfl
      · rw [htag, ← hreallocs]; rfl
  · have hneeded : x.needed = if o.purpose = .reallocation ∧ x.abortMark = false then
        some (max (x.needed.getD 0) (s.jrnl.lastStarted + 1)) else x.needed := by simp [hpur]
    refine ⟨(markedPass_inPlace hflight hop hpur hl hb howed hm).mono fun t ht => ?_,
      (markedFail_inPlace hflight hop hpur hl hb hbl hnodup howed hm).mono fun t ht => ?_⟩
    · obtain ⟨hdone, htag, hfreed, hmode, hremap, hothers, hcleared, hraw⟩ := ht
      have hsp : (onSpare ∧ spent t) = False := eq_false fun h => hpur h.1
      have hstatus : (x.passBlock false).soFar = status := by simp [status, hpur, passBlock_soFar]
      have hwaits : x.waitsAbove s.jrnl.lastDone = true ↔ waits := by
        rw [waitsAbove_iff]
        exact ⟨.inr, fun h => h.resolve_left hpur⟩
      refine ⟨⟨?_, ?_, hfreed, hmode, fun hyes => absurd hyes hpur, fun _ => hremap, ?_⟩, by rwa [hsp],
        fun _ => hcleared, fun hyes => absurd hyes.1 hpur, fun hab' => ?_, fun hab' => ⟨fun hboth => ?_, fun hboth => ?_,
          fun hno => ?_⟩, ?_, ?_, fun _ => ⟨?_, hraw⟩, fun hyes => absurd hyes hpur⟩
      · rw [htag]; rfl
      · rw [htag]; rfl
      · rw [htag, ← hneeded]; rfl
      · rw [passedStatus_aborted hab'] at hdone
        exact hdone
      · rw [passedStatus_last hab' hboth.1, if_pos (hwaits.2 hboth.2)] at hdone
        exact hdone
      · rw [passedStatus_last hab' hboth.1, if_neg fun e => hboth.2 (hwaits.1 e), hstatus] at hdone
        exact hdone
      · rw [passedStatus_more hab' hno] at hdone
        exact hdone
      · rw [htag]; rfl
      · rw [htag, ← hstatus]; rfl
      · rw [htag]; rfl
    · obtain ⟨hdone, htag, hfreed, hmode, hremap, hothers, hpending, hoffered, hraw⟩ := ht
      refine ⟨⟨?_, ?_, hfreed, hmode, fun hyes => absurd hyes hpur, fun _ => hremap, ?_⟩, hothers, hpending, hoffered, hdone,
        ?_, ?_, ?_, fun _ => hraw, fun hyes => absurd hyes hpur⟩
      · rw [htag]; rfl
      · rw [htag]; rfl
      · rw [htag, ← hneeded]; rfl
      · rw [htag]; rfl
      · rw [htag]; rfl
      · rw [htag]; rfl

end Sys2Proof.Machine
end

section
/-! PROOFS. The arbiter's moment: every operation that a command grants is the choice of one idle unit (R68). -/
namespace Sys2Proof.Machine

/-- What the effects of an event leave to the arbiter: an idle unit stays idle, and a commit is kept or ended. -/
structure Spared (s t : State) : Prop where
  op : s.array.op = none → t.array.op = none
  commit : ∀ k, t.jrnl.commit = some k → s.jrnl.commit = some k

theorem Spared.of_eq {s t : State} (ha : t.array = s.array) (hc : t.jrnl.commit = s.jrnl.commit) : Spared s t :=
  ⟨fun h => by rw [ha, h], fun k h => by rw [← hc, h]⟩

theorem Spared.of_none {s t : State} (ha : t.array = s.array) (hc : t.jrnl.commit = none) : Spared s t :=
  ⟨fun h => by rw [ha, h], fun k h => by rw [hc] at h; cases h⟩

theorem Spared.refl (s : State) : Spared s s := .of_eq rfl rfl

theorem Spared.trans {s t u : State} (h : Spared s t) (h' : Spared t u) : Spared s u :=
  ⟨fun e => h'.op (h.op e), fun k e => h.commit k (h'.commit k e)⟩

/-- After a command the arbiter has had its choice at most once, as the command's last act (R68). -/
def Arbitrated (s t : State) : Prop := Spared s t ∨ ∃ x, Spared s x ∧ t = arbitrate x

theorem Arbitrated.refl (s : State) : Arbitrated s s := .inl (.refl s)

theorem Spared.arbitrate {s x : State} (h : Spared s x) : Arbitrated s (arbitrate x) := .inr ⟨x, h, rfl⟩

theorem Spared.settle {s x : State} (h : Spared s x) (s₀ : State) : Arbitrated s (settle s₀ x) :=
  (h.trans (.of_eq (t := closedEvent s₀ x) (by simp) (by simp))).arbitrate

/-! ## The shared operations -/

theorem becomeReadOnly_spared (s : State) : Spared s (becomeReadOnly s) := .of_eq (by simp) (by simp)

theorem checkSequence_spared (s : State) : Spared s (checkSequence s) := .of_eq (by simp) (by simp)

theorem completeCommand_spared (code : BitVec 8) (r : CmdResult) (s : State) : Spared s (completeCommand code r s) :=
  .of_eq (by simp) (by simp)

/-! ## Requests, port and service list -/

theorem submit_arbitrated (v : Word) (s : State) : Arbitrated s (submit v s) := by
  unfold submit
  split
  · exact .inl (.of_eq rfl rfl)
  · refine Spared.settle (.of_eq ?_ ?_) _ <;>
      simp [accept_eq, setQResult, enqueued, numbered, endQuiet, apply_ite State.array, apply_ite State.jrnl, renumber]

theorem requestAbort_arbitrated (v : Word) (s : State) : Arbitrated s (requestAbort v s) := by
  unfold requestAbort abortEvery abortOne setAbortIgnored
  dsimp only
  refine Spared.settle (.of_eq ?_ ?_) _ <;> (repeat' split) <;> simp

theorem readPort_arbitrated (s : State) : Arbitrated s (readPort s) := by
  unfold readPort
  split
  · exact .inl (.of_eq (by simp) (by simp))
  · dsimp only
    split
    · exact .inl (.of_eq (by simp) (by simp))
    · refine Spared.settle (.of_eq ?_ ?_) _ <;> unfold deliver <;> dsimp only <;> split <;> simp

theorem writePort_arbitrated (v : Word) (s : State) : Arbitrated s (writePort v s) := by
  unfold writePort
  split
  · exact .inl (.of_eq (by simp) (by simp))
  · dsimp only
    split
    · exact .inl (.of_eq (by simp) (by simp))
    · refine Spared.settle (.of_eq ?_ ?_) _ <;> simp [receive]

theorem pop_spared (s : State) : Spared s (pop s) := by
  unfold pop
  refine .of_eq ?_ ?_ <;> dsimp only <;> split <;> simp [collect]

/-! ## The Command Unit -/

theorem requestCommand_arbitrated (c : Command) (take : State → State) (s : State) (h : Arbitrated s (take s)) :
    Arbitrated s (requestCommand c take s) := by
  unfold requestCommand
  split
  · exact .inl (.of_eq (by simp) (by simp))
  · split
    · exact .inl (completeCommand_spared ..)
    · split
      · exact .inl (completeCommand_spared ..)
      · exact h

theorem takeStart_arbitrated (c : Command) (m : PatrolMode) (s : State) : Arbitrated s (takeStart c m s) :=
  Spared.arbitrate (.of_eq (by simp) (by simp))

theorem requestStop_arbitrated (s : State) : Arbitrated s (requestStop s) :=
  requestCommand_arbitrated _ _ s (.inl (.of_eq (by simp) (by simp)))

theorem requestReport_arbitrated (s : State) : Arbitrated s (requestReport s) :=
  requestCommand_arbitrated _ _ s (.inl (.of_eq rfl rfl))

theorem waitForCommit_spared (r : Nat → Running) (s : State) : Spared s (waitForCommit r s) :=
  Spared.trans (t := commitReason { s with cmd := { s.cmd with running := some (r (neededNow s)) } })
    (.of_eq rfl rfl) (checkSequence_spared _)

theorem requestThresholds_arbitrated (s : State) : Arbitrated s (requestThresholds s) := by
  refine requestCommand_arbitrated _ _ s ?_
  unfold takeThresholds
  split
  · have h : Spared s (loadThresholds s) := .of_eq rfl rfl
    exact (h.trans (waitForCommit_spared ..)).settle _
  · exact .inl (completeCommand_spared ..)

theorem requestSave_arbitrated (s : State) : Arbitrated s (requestSave s) :=
  requestCommand_arbitrated _ _ s ((waitForCommit_spared ..).settle _)

theorem writeCmd_arbitrated (v : Word) (s : State) : Arbitrated s (writeCmd v s) := by
  unfold writeCmd
  cases commandOf (lowByte v) with
  | none =>
    unfold refuseCode
    dsimp only
    split
    · exact .inl (.of_eq (by simp) (by simp))
    · exact .inl (completeCommand_spared ..)
  | some c =>
    cases c with
    | patrolSegment | patrolPass | patrolAuto => exact requestCommand_arbitrated _ _ s (takeStart_arbitrated ..)
    | patrolStop => exact requestStop_arbitrated s
    | reportBuild => exact requestReport_arbitrated s
    | thresholdLoad => exact requestThresholds_arbitrated s
    | conditionSave => exact requestSave_arbitrated s

theorem readReport_spared (s : State) : Spared s (readReport s) := by
  unfold readReport
  refine .of_eq ?_ ?_ <;> split <;> simp [advancePointer]

theorem writeReport_spared (v : Word) (s : State) : Spared s (writeReport v s) := by
  unfold writeReport
  refine .of_eq ?_ ?_ <;> split <;> simp [advancePointer]

/-! ## Registers, timers and resets -/

theorem writeCfga_arbitrated (v : Word) (s : State) : Arbitrated s (writeCfga v s) := by
  unfold writeCfga
  dsimp only
  split
  · exact .inl (.of_eq rfl rfl)
  · exact Spared.arbitrate (.of_eq (by simp) (by simp))

/-- A soft reset orphans the operation in flight; an idle unit stays idle (R75, R198). -/
theorem resetBlocks_spared (s : State) : Spared s (resetBlocks s) :=
  ⟨fun h => by simp [resetBlocks, h], fun _ h => h⟩

theorem softReset_arbitrated (s : State) : Arbitrated s (softReset s) := by
  unfold softReset
  split
  · exact .refl s
  · exact ((resetBlocks_spared s).trans (.of_eq (by simp) (by simp))).arbitrate

theorem writeRegister_arbitrated (a : RegAddr) (v : Word) (s : State) : Arbitrated s (writeRegister a v s) := by
  unfold writeRegister
  split
  case h_5 => exact submit_arbitrated v s
  case h_7 => exact writePort_arbitrated v s
  case h_8 => exact requestAbort_arbitrated v s
  case h_9 => exact writeCmd_arbitrated v s
  case h_11 => exact .inl (writeReport_spared v s)
  case h_12 => exact writeCfga_arbitrated v s
  case h_15 =>
    split
    · exact softReset_arbitrated s
    · exact .refl s
  case h_16 => exact .refl s
  all_goals exact .inl (.of_eq rfl rfl)

theorem startUp_arbitrated {s t : State} (ht : execStartUp s = .next t) : Arbitrated s t := by
  cases next_inj ht
  split
  · exact Spared.arbitrate (.of_none rfl rfl)
  · exact .refl s

/-! ## The completions of the array's operations -/

theorem tagReadDone_spared (n : TagNo) (o : ArrayOp) (out : ReadOutcome) (s : State) :
    Spared s (tagReadDone n o out s) := by
  unfold tagReadDone tagReadFinal readTagFinal endRead
  dsimp only
  refine .of_eq ?_ ?_ <;> (repeat' split) <;> simp

theorem patrolReadDone_spared (o : ArrayOp) (out : ReadOutcome) (s : State) : Spared s (patrolReadDone o out s) := by
  unfold patrolReadDone
  dsimp only
  refine .of_eq ?_ ?_ <;> (repeat' split) <;> simp [fillBuffer_eq]

theorem ringTaken_spared (o : ArrayOp) (out : ReadOutcome) (s : State) : Spared s (ringTaken o out s) := by
  have hconsider : ∀ p i t, Spared t (considerImage p i t) := fun p i t => by
    rcases considerImage_cases p i t with e | e <;> rw [e] <;> exact .of_eq rfl rfl
  have hbuf : ∀ b, Spared s { s with jrnl := { s.jrnl with imageBuffer := b } } := fun b => .of_eq rfl rfl
  unfold ringTaken
  split
  · exact .refl s
  · split
    · exact (hbuf _).trans (hconsider ..)
    · exact hbuf _
    · exact hbuf _

theorem endScan_spared (s : State) : Spared s (endScan s) := by
  unfold endScan
  refine .of_eq ?_ ?_ <;> split <;> simp [loadImage, endStartUp, freshState]

theorem ringReadDone_spared (o : ArrayOp) (out : ReadOutcome) (s : State) : Spared s (ringReadDone o out s) := by
  rw [ringReadDone_eq]
  split
  · exact (ringTaken_spared o out s).trans (.of_eq rfl rfl)
  · exact (ringTaken_spared o out s).trans (endScan_spared _)

theorem readDone_spared (o : ArrayOp) (out : ReadOutcome) (s : State) : Spared s (readDone o out s) := by
  unfold readDone
  split
  · exact tagReadDone_spared ..
  · exact patrolReadDone_spared ..
  · exact ringReadDone_spared ..
  · unfold orphanReadDone
    refine .of_eq ?_ ?_ <;> split <;> simp

theorem tagBlockPasses_spared (n : TagNo) (r : Bool) (s : State) : Spared s (tagBlockPasses n r s) := by
  unfold tagBlockPasses afterPass
  dsimp only
  refine .of_eq ?_ ?_ <;> (repeat' split) <;> simp

theorem tagProgramDone_spared (n : TagNo) (l pbn : Nat) (r : Bool) (out : ProgramOutcome) (s : State) :
    Spared s (tagProgramDone n l pbn r out s) := by
  have howes : ∀ t, Spared t (tagOwes n t) := fun t => .of_eq (by simp [tagOwes]) (by simp [tagOwes])
  cases out <;> cases r
  case pass.false => exact Spared.trans (.of_eq (by simp) (by simp)) (tagBlockPasses_spared n false _)
  case fail.false => exact Spared.trans (.of_eq (by simp) (by simp)) (howes _)
  case pass.true =>
    refine Spared.trans ?_ (checkSequence_spared _)
    refine Spared.trans ?_ (.of_eq (resolveOwed_keeps _).2.2.2.2.1 (by simp))
    exact Spared.trans (.of_eq (by simp) (by simp)) (tagBlockPasses_spared n true _)
  case fail.true =>
    refine Spared.trans ?_ (checkSequence_spared _)
    exact Spared.trans (.of_eq (by simp) (by simp)) (howes _)

theorem orphanProgramDone_spared (l pbn : Nat) (r : Bool) (d : DataPlace) (out : ProgramOutcome) (s : State) :
    Spared s (orphanProgramDone l pbn r d out s) := by
  refine .of_eq ?_ ?_ <;> cases out <;> cases r <;> simp [orphanProgramDone]

theorem patrolProgramDone_spared (l pbn : Nat) (r : Bool) (out : ProgramOutcome) (s : State) :
    Spared s (patrolProgramDone l pbn r out s) := by
  unfold patrolProgramDone
  split
  · refine .of_eq ?_ ?_ <;> cases out <;> cases r <;> simp [refreshDone, refreshOwes, endRefresh]
  · dsimp only
    split
    · exact (orphanProgramDone_spared l pbn r .none out s).trans (.of_eq (by simp) (by simp))
    · exact orphanProgramDone_spared l pbn r .none out s

theorem endStartUp_spared (s : State) : Spared s (endStartUp s) := .of_eq (by simp [endStartUp]) (by simp [endStartUp])

/-- A passed commit is ended (R155). -/
theorem commitPass_spared (s : State) : Spared s (commitPass s) := by
  cases hc : s.jrnl.commit with
  | none =>
    simp only [commitPass, hc]
    exact .refl s
  | some c =>
    have h : Spared s (commitReleased c s) :=
      .of_none (by simp [commitReleased]) (by simp [commitReleased, Journal.passed])
    rw [commitPass_eq hc]
    split
    · exact h.trans (endStartUp_spared _)
    · exact h

/-- A failed attempt skips a position, or ends the commit (R156, R157). -/
theorem commitFail_spared (s : State) : Spared s (commitFail s) := by
  have hdrop : Spared s (commitDropped s) := .of_none (by simp [commitDropped, commitSkipped]) rfl
  have hskip : Spared s (commitSkipped s) := .of_eq (by simp [commitSkipped]) (by simp [commitSkipped])
  cases hc : s.jrnl.commit with
  | none =>
    simp only [commitFail, hc]
    exact .refl s
  | some c =>
    rw [commitFail_eq hc]
    split
    · exact hdrop
    · split
      · exact hskip
      · have hro := hdrop.trans (becomeReadOnly_spared _)
        split
        · exact hro.trans (endStartUp_spared _)
        · exact hro

theorem programDone_spared (o : ArrayOp) (out : ProgramOutcome) (s : State) : Spared s (programDone o out s) := by
  unfold programDone
  dsimp only
  split
  · exact tagProgramDone_spared ..
  · exact patrolProgramDone_spared ..
  · split
    · exact commitPass_spared s
    · exact commitFail_spared s
  · exact orphanProgramDone_spared ..

/-! ## Every command -/

theorem busAccess_arbitrated {s t : State} {f : State → State} (h : Arbitrated s (f s)) (ht : busAccess s f = .next t) :
    Arbitrated s t := by
  cases hr : s.rstnLow with
  | true =>
    rw [busAccess_low s f hr] at ht
    cases next_inj ht
    exact .refl s
  | false =>
    rw [busAccess_high s f hr] at ht
    cases next_inj ht
    exact h

/-- Every command leaves the choice of the next operation to the arbiter; a completion does so from the idled unit. -/
theorem exec_arbitrated {c : Instr} {s t : State} (ht : exec c s = .next t) (hr : ∀ out, c ≠ .readBlockCompletion out)
    (hp : ∀ out, c ≠ .programBlockCompletion out) : Arbitrated s t := by
  cases c with
  | submission v => exact busAccess_arbitrated (submit_arbitrated v s) ht
  | abortRequest v => exact busAccess_arbitrated (requestAbort_arbitrated v s) ht
  | ptagWrite v => exact busAccess_arbitrated (.inl (.of_eq rfl rfl)) ht
  | pdataRead => exact busAccess_arbitrated (readPort_arbitrated s) ht
  | pdataWrite v => exact busAccess_arbitrated (writePort_arbitrated v s) ht
  | svcnextPop => exact busAccess_arbitrated (.inl (pop_spared s)) ht
  | patrolSegment | patrolPass | patrolAuto =>
    exact busAccess_arbitrated (requestCommand_arbitrated _ _ s (takeStart_arbitrated ..)) ht
  | patrolStop => exact busAccess_arbitrated (requestStop_arbitrated s) ht
  | reportBuild => exact busAccess_arbitrated (requestReport_arbitrated s) ht
  | reportBuildCompletion =>
    cases next_inj ht
    split
    · exact .inl (.of_eq (by simp [finishReport]) (by simp [finishReport]))
    all_goals exact .refl s
  | thresholdLoad => exact busAccess_arbitrated (requestThresholds_arbitrated s) ht
  | conditionSave => exact busAccess_arbitrated (requestSave_arbitrated s) ht
  | badCommand v => exact busAccess_arbitrated (writeCmd_arbitrated v s) ht
  | rdataRead => exact busAccess_arbitrated (.inl (readReport_spared s)) ht
  | rdataWrite v => exact busAccess_arbitrated (.inl (writeReport_spared v s)) ht
  | acauseWrite v => exact busAccess_arbitrated (.inl (.of_eq rfl rfl)) ht
  | aenableWrite v => exact busAccess_arbitrated (.inl (.of_eq rfl rfl)) ht
  | cfgaWrite v => exact busAccess_arbitrated (writeCfga_arbitrated v s) ht
  | cfgbWrite v => exact busAccess_arbitrated (.inl (.of_eq rfl rfl)) ht
  | registerWrite a v => exact busAccess_arbitrated (writeRegister_arbitrated a v s) ht
  | softReset => exact busAccess_arbitrated (softReset_arbitrated s) ht
  | powerOnReset =>
    cases next_inj ht
    exact .inl ⟨fun _ => losePower_op s.array, nofun⟩
  | startUp => exact startUp_arbitrated ht
  | readBlockCompletion out => exact absurd rfl (hr out)
  | programBlockCompletion out => exact absurd rfl (hp out)
  | quietTimerExpiry =>
    cases next_inj ht
    split
    · exact Spared.arbitrate (.of_eq (by simp) (by simp))
    · exact .refl s
  | gapTimerExpiry =>
    cases next_inj ht
    split
    · exact Spared.arbitrate (.of_eq (by simp) (by simp))
    · exact .refl s

/-- A grant is the arbiter's choice in a state with the unit idle, whose commit is the one before the command. -/
structure GrantedIn (s x : State) (g : Grant) : Prop where
  chosen : choose x = some g
  idle : x.array.op = none
  commit : ∀ k, x.jrnl.commit = some k → s.jrnl.commit = some k

theorem Arbitrated.granted {s s' t : State} {o : ArrayOp} (h : Arbitrated s t) (hs : s.array.op = none)
    (hc : s.jrnl.commit = s'.jrnl.commit) (ho : t.array.op = some o) : ∃ x g, GrantedIn s' x g ∧ t = applyGrant g x := by
  rcases h with h | ⟨x, h, rfl⟩
  · exact absurd ((h.op hs).symm.trans ho) nofun
  · have hx := h.op hs
    unfold Machine.arbitrate at ho ⊢
    simp only [hx, Option.isSome_none, Bool.false_eq_true, if_false] at ho ⊢
    cases hg : choose x with
    | none =>
      simp only [hg, hx] at ho
      cases ho
    | some g => exact ⟨x, g, ⟨hg, hx, fun k hk => hc ▸ h.commit k hk⟩, rfl⟩

/-- Every new grant is the arbiter's choice (R68). -/
theorem NewGrant.granted {c : Instr} {s t : State} {o : ArrayOp} (h : NewGrant c s t o) :
    ∃ x g, GrantedIn s x g ∧ t = applyGrant g x := by
  obtain ⟨ht, ho, hfree⟩ := h
  cases hop : s.array.op with
  | none =>
    refine Arbitrated.granted ?_ hop rfl ho
    by_cases hr : ∃ out, c = .readBlockCompletion out
    · obtain ⟨out, rfl⟩ := hr
      cases next_inj ht
      simp only [hop]
      exact .refl s
    · by_cases hp : ∃ out, c = .programBlockCompletion out
      · obtain ⟨out, rfl⟩ := hp
        cases next_inj ht
        simp only [hop]
        exact .refl s
      · exact exec_arbitrated ht (fun out e => hr ⟨out, e⟩) (fun out e => hp ⟨out, e⟩)
  | some p =>
    rcases hfree p hop with ⟨out, rfl, hk⟩ | ⟨out, rfl, hk⟩
    · cases next_inj ht
      simp only [hop, hk, if_true] at ho ⊢
      exact ((readDone_spared p out (idleUnit s)).settle s).granted rfl rfl ho
    · cases next_inj ht
      simp only [hop, hk, if_true] at ho ⊢
      refine ((programDone_spared p out _).settle s).granted rfl rfl ho

end Sys2Proof.Machine
end

section
/-! PROOFS. O15: the arbiter's order (R68, R70, R72, R73). -/
namespace Sys2Proof.Machine

/-! ## What a grant leaves of the other work -/

theorem journalDue_congr {s t : State} (h : t.jrnl = s.jrnl) : journalDue t ↔ journalDue s := by
  unfold journalDue
  rw [h]

theorem slotIn_of_effect {s t : State} {p : SlotState} (hp : p ≠ .loading ∧ p ≠ .programming) {u : TagNo}
    (hslot : ∀ k, t.slot k = s.slot k ∨ SlotEffect s k (t.slot k))
    (h : ∃ k, (t.slot k).owner = some u ∧ (t.slot k).state = p) :
    ∃ k, (s.slot k).owner = some u ∧ (s.slot k).state = p := by
  obtain ⟨k, ho, hk⟩ := h
  rcases hslot k with e | e
  · exact ⟨k, e ▸ ho, e ▸ hk⟩
  · generalize t.slot k = y at e hk
    cases e with
    | loading n l => exact absurd hk.symm hp.1
    | programming n => exact absurd hk.symm hp.2

/-- A tag whose record no grant touched, and whose slots none took, can run after the grant only if it could before. -/
theorem canRun_of_effect {s t : State} {u : TagNo} (ht : t.tag u = s.tag u)
    (hslot : ∀ k, t.slot k = s.slot k ∨ SlotEffect s k (t.slot k)) (hm : t.jrnl.mode = s.jrnl.mode)
    (hf : freeSpares t = freeSpares s) (h : canRun t u) : canRun s u := by
  unfold canRun canReallocate at h ⊢
  rw [ht, hm, hf] at h
  obtain ⟨hst, ha, hw, h⟩ := h
  refine ⟨hst, ha, hw, ?_⟩
  cases hk : (s.tag u).kind with
  | read =>
    simp only [hk] at h ⊢
    exact h.imp id fun ⟨hc, hs⟩ => ⟨hc, slotIn_of_effect (p := .reserved) ⟨nofun, nofun⟩ hslot hs⟩
  | check =>
    simp only [hk] at h ⊢
    exact h
  | write =>
    simp only [hk] at h ⊢
    exact ⟨h.1, h.2.imp id fun ⟨hp, hs⟩ => ⟨hp, slotIn_of_effect (p := .full) ⟨nofun, nofun⟩ hslot hs⟩⟩
  | zero =>
    simp only [hk] at h ⊢
    exact h

/-- A tag that has a grant can run. -/
theorem TagGrant.canRun {s : State} {n : TagNo} {g : Grant} (h : TagGrant s n g) (hr : Runnable (s.tag n)) :
    canRun s n := by
  obtain ⟨hst, ha, hw⟩ := hr
  refine ⟨hst, ha, hw, ?_⟩
  cases h with
  | load k rest hk hc hs =>
    have hm : k ∈ slotsOf s n (· == .reserved) := by simp [hs]
    simp only [mem_slotsOf, beq_iff_eq] at hm
    simp only [hk]
    exact .inr ⟨hc, k, hm⟩
  | retry c hk hc ho => rcases hk with hk | hk <;> simp only [hk] <;> exact .inl ⟨c, hc, ho⟩
  | checkRead hk hc hi =>
    simp only [hk]
    exact .inr ⟨hc, hi⟩
  | programSlot k hk hm hp hl =>
    have hf := lowestBound_mem hl
    simp only [mem_slotsOf, beq_iff_eq] at hf
    simp only [hk]
    exact ⟨hm, .inr ⟨hp, k, hf⟩⟩
  | programZero hk hm hp hi =>
    simp only [hk]
    exact ⟨hm, .inr ⟨hp, hi⟩⟩
  | reallocate b p ps hk hm hb ho hf =>
    have hre : canReallocate s n := ⟨⟨b, hb, ho⟩, by simp [hf]⟩
    cases hkind : (s.tag n).kind with
    | write | zero => exact ⟨hm, .inl hre⟩
    | read | check => simp [hkind, Kind.writes] at hk

theorem TagGrant.jrnl {s : State} {n : TagNo} {g : Grant} (h : TagGrant s n g) : (applyGrant g s).jrnl = s.jrnl := by
  cases h <;> simp [applyGrant]

theorem BackgroundGrant.jrnl {s : State} {g : Grant} (h : BackgroundGrant s g) : (applyGrant g s).jrnl = s.jrnl := by
  cases h <;> simp [applyGrant]

/-- In READ_ONLY no tag is granted a program (R73). -/
theorem TagGrant.mode {s : State} {n : TagNo} {g : Grant} {o : ArrayOp} (h : TagGrant s n g)
    (ho : (applyGrant g s).array.op = some o) (hp : o.operation = .programBlock) : s.jrnl.mode ≠ .readOnly := by
  cases h with
  | load k rest hk hc hs =>
    simp only [applyGrant, grantLoad_eq n s k rest hs, begin_op, Option.some.injEq] at ho
    cases ho
    cases hp
  | retry c hk hc hr =>
    simp only [applyGrant, grantRetry_eq n s c hc, begin_op, Option.some.injEq] at ho
    cases ho
    cases hp
  | checkRead =>
    simp only [applyGrant, grantCheckRead_eq, begin_op, Option.some.injEq] at ho
    cases ho
    cases hp
  | programSlot k hk hm => exact hm
  | programZero hk hm => exact hm
  | reallocate b p ps hk hm => exact hm

/-! ## The operation that the Patrol Engine is granted -/

theorem grantPatrolRetry_eq {s : State} {r : BackgroundRead} (h : s.patrol.bgRead = some r) :
    grantPatrolRetry s = begin (readOp s r.lbn .patrol .retry .patrolBuffer)
      { s with patrol := { s.patrol with
          bgRead := some { r with retries := r.retries + 1, retryOwed := false, inFlight := true } } } := by
  unfold grantPatrolRetry
  simp only [h]

theorem grantRefreshReallocate_eq {s : State} {b : BlockInProgram} {p : Nat} {ps : List Nat}
    (h : s.patrol.refreshBlock = some b) (hf : freeSpares s = p :: ps) :
    grantRefreshReallocate s = begin (programOp b.lbn p .patrol .reallocation .patrolBuffer s.patrol.buf.words)
      { s with patrol := { s.patrol with refreshBlock := some (b.onSpare p) } } := by
  unfold grantRefreshReallocate
  simp only [h, hf]

theorem grantRefreshRead_eq {s : State} {l : Nat} {rest : List Nat} (h : s.map.refresh = l :: rest) :
    grantRefreshRead s = begin (readOp s l .patrol .refreshRead .patrolBuffer)
      { s with map := { s.map with refresh := rest }
               patrol := { s.patrol with bgRead := some (newBgRead l false) } } := by
  unfold grantRefreshRead
  simp only [h]

/-! ## The order of a grant -/

/-- What the arbiter's order says of a granted operation `o`, in the state `t` after the grant. -/
def Ordered (t : State) (o : ArrayOp) : Prop :=
  o.requester ≠ .none ∧ (o.requester ≠ .journal → ¬ journalDue t) ∧
  (∀ n, o.requester = .tag n →
    (∃ pre post, t.req.queue = pre ++ n :: post ∧ ∀ u ∈ pre, ¬ canRun t u) ∧
    ((t.tag n).state = .queued ∨ (t.tag n).state = .active) ∧ (t.tag n).abortMark = false ∧
    (t.tag n).wpMark = false) ∧
  (o.operation = .programBlock → t.jrnl.mode ≠ .readOnly) ∧
  (o.requester = .patrol → t.jrnl.mode = .ready ∧ t.req.queue = [] ∧ t.patrol.quietElapsed = true)

theorem ordered_of_journal {t : State} {o : ArrayOp} (hr : o.requester = .journal)
    (hm : o.operation = .programBlock → t.jrnl.mode ≠ .readOnly) : Ordered t o :=
  ⟨by simp [hr], fun h => absurd hr h, fun n h => by simp [hr] at h, hm, fun h => by simp [hr] at h⟩

theorem TagGrant.ordered {s : State} {n : TagNo} {g : Grant} {o : ArrayOp} {pre post : List TagNo} (h : TagGrant s n g)
    (hr : Runnable (s.tag n)) (hd : ¬ journalDue s) (hq : s.req.queue = pre ++ n :: post)
    (hpre : ∀ u ∈ pre, tagWork s u = none) (ho : (applyGrant g s).array.op = some o) : Ordered (applyGrant g s) o := by
  obtain ⟨hop, hother, heff, hslot⟩ := h.effect hr
  obtain ⟨o', ho', hreq⟩ := op_of_opTag hop
  cases ho.symm.trans ho'
  have hkeeps := tagEffect_keeps heff
  have hidle : ∀ u ∈ pre, ¬ Machine.canRun s u := fun u hu hc => by
    simp [← tagWork_isSome, hpre u hu] at hc
  refine ⟨by simp [hreq], fun _ => (journalDue_congr h.jrnl).not.2 hd, fun m hm => ?_, fun hp => ?_, fun h' => ?_⟩
  · cases hreq.symm.trans hm
    refine ⟨⟨pre, post, by simpa using hq, fun u hu hc => hidle u hu ?_⟩, ?_, ?_⟩
    · refine canRun_of_effect (hother u fun e => ?_) hslot (by simp) (freeSpares_of_remapKept ⟨by simp, by simp⟩) hc
      exact hidle u hu (e ▸ h.canRun hr)
    · exact (tagEffect_state heff hr).elim .inr fun e => e ▸ hr.1
    · exact ⟨by simp [hkeeps, hr.2.1], by simp [hkeeps, hr.2.2]⟩
  · simpa using h.mode ho hp
  · simp [hreq] at h'

theorem Choice.ordered {s : State} {g : Grant} {o : ArrayOp} (h : Choice s g)
    (ho : (applyGrant g s).array.op = some o) : Ordered (applyGrant g s) o := by
  cases h with
  | ringRead =>
    cases ho
    exact ordered_of_journal rfl nofun
  | commitFirst _ hm =>
    cases ho
    exact ordered_of_journal rfl fun _ => hm
  | commitNext _ _ hm =>
    cases ho
    exact ordered_of_journal rfl fun _ => hm
  | tag n g pre post hd hq hpre hr hg => exact hg.ordered hr hd hq hpre ho
  | background g hd hq he hm hg =>
    obtain ⟨o', ho', hp⟩ := hg.requester
    cases ho.symm.trans ho'
    refine ⟨by simp [hp], fun _ => (journalDue_congr hg.jrnl).not.2 hd, fun n h => by simp [hp] at h,
      fun _ => by simp [hm], fun _ => by simp [hm, hq, he]⟩

/-! ## The order of background work -/

/-- A state in which background work is all that the arbiter can choose (R72, R134). -/
structure OnlyBackground (s : State) : Prop where
  idle : s.array.op = none
  journal : ¬ journalDue s
  queue : s.req.queue = []
  quiet : s.patrol.quietElapsed = true
  mode : s.jrnl.mode = .ready

theorem OnlyBackground.arbitrate {s : State} (h : OnlyBackground s) :
    arbitrate s = (backgroundWork s).elim s fun g => applyGrant g s := by
  have hj : journalWork s = none := by
    cases hw : journalWork s with
    | none => rfl
    | some g => exact absurd ((journalWork_isSome s).1 (by simp [hw])) h.journal
  have hc : choose s = backgroundWork s := by simp [choose, hj, foregroundWork, h.queue]
  unfold Machine.arbitrate
  rw [hc]
  simp only [h.idle, Option.isSome_none, Bool.false_eq_true, if_false]
  cases backgroundWork s <;> rfl

theorem OnlyBackground.permitted {s : State} (h : OnlyBackground s) :
    (!(bgPermitted s && s.jrnl.mode == .ready)) = false := by
  simp [bgPermitted, foregroundIdle, h.queue, h.quiet, h.mode]

theorem OnlyBackground.of_bgRead {s : State} (h : OnlyBackground s) {r : BackgroundRead}
    (hr : s.patrol.bgRead = some r) :
    (Machine.arbitrate s).array.op = if r.retryOwed then some (readOp s r.lbn .patrol .retry .patrolBuffer) else none := by
  have hw : backgroundWork s = if r.retryOwed then some .patrolRetry else none := by
    unfold backgroundWork
    simp only [h.permitted, hr, Bool.false_eq_true, if_false]
  rw [h.arbitrate, hw]
  split
  · simp [applyGrant, grantPatrolRetry_eq hr]
  · exact h.idle

theorem OnlyBackground.of_refreshBlock {s : State} (h : OnlyBackground s) {b : BlockInProgram}
    (hr : s.patrol.bgRead = none) (hb : s.patrol.refreshBlock = some b) :
    (Machine.arbitrate s).array.op = if b.owed then (freeSpares s).head?.map fun q =>
      programOp b.lbn q .patrol .reallocation .patrolBuffer s.patrol.buf.words else none := by
  have hw : backgroundWork s = if b.owed && !(freeSpares s).isEmpty then some .refreshReallocate else none := by
    unfold backgroundWork
    simp only [h.permitted, hr, hb, Bool.false_eq_true, if_false]
  rw [h.arbitrate, hw]
  cases ho : b.owed with
  | false => simpa using h.idle
  | true =>
    cases hf : freeSpares s with
    | nil => simpa using h.idle
    | cons p ps => simp [applyGrant, grantRefreshReallocate_eq hb hf]

theorem OnlyBackground.of_noBlock {s : State} (h : OnlyBackground s) (hr : s.patrol.bgRead = none)
    (hb : s.patrol.refreshBlock = none) :
    backgroundWork s =
      if s.patrol.buf.valid then some .refreshProgram
      else if !s.map.refresh.isEmpty then some .refreshRead
      else if s.patrol.state == .running then some .patrolRead
      else none := by
  unfold backgroundWork
  simp only [h.permitted, hr, hb, Bool.false_eq_true, if_false]

theorem OnlyBackground.of_buffer {s : State} (h : OnlyBackground s) (hr : s.patrol.bgRead = none)
    (hb : s.patrol.refreshBlock = none) (hv : s.patrol.buf.valid = true) {l : Nat} (hl : s.patrol.buf.lbn = some l) :
    (Machine.arbitrate s).array.op =
      some (programOp l (translate s l) .patrol .refreshProgram .patrolBuffer s.patrol.buf.words) := by
  rw [h.arbitrate, h.of_noBlock hr hb]
  simp [hv, applyGrant, grantRefreshProgram, hl]

theorem OnlyBackground.of_refresh {s : State} (h : OnlyBackground s) (hr : s.patrol.bgRead = none)
    (hb : s.patrol.refreshBlock = none) (hv : s.patrol.buf.valid = false) {l : Nat} {rest : List Nat}
    (hl : s.map.refresh = l :: rest) :
    (Machine.arbitrate s).array.op = some (readOp s l .patrol .refreshRead .patrolBuffer) ∧
      (Machine.arbitrate s).map.refresh = rest := by
  rw [h.arbitrate, h.of_noBlock hr hb]
  simp [hv, hl, applyGrant, grantRefreshRead_eq hl]

theorem OnlyBackground.of_patrol {s : State} (h : OnlyBackground s) (hr : s.patrol.bgRead = none)
    (hb : s.patrol.refreshBlock = none) (hv : s.patrol.buf.valid = false) (hl : s.map.refresh = []) :
    (Machine.arbitrate s).array.op =
      if s.patrol.state = .running then some (readOp s s.patrol.resume .patrol .patrolRead .patrolBuffer) else none := by
  rw [h.arbitrate, h.of_noBlock hr hb]
  by_cases hs : s.patrol.state = .running
  · simp [hv, hl, hs, applyGrant, grantPatrolRead]
  · simpa [hv, hl, hs] using h.idle

/-- When the quiet time has run out, a WAITING engine runs (R135). -/
theorem quietOver_state {s : State} (hq : s.req.queue = []) (hm : s.jrnl.mode = .ready) :
    (quietOver s).patrol.quietElapsed = true ∧
      ((quietOver s).patrol.state = .running ↔ s.patrol.state = .running ∨ s.patrol.state = .waiting) := by
  unfold quietOver
  cases hs : s.patrol.state <;> simp [bgPermitted, foregroundIdle, hq, hm, hs]

theorem exec_quietTimerExpiry {s : State} (h : s.patrol.quietTimer ≠ none) :
    exec .quietTimerExpiry s = .next (arbitrate (quietOver s)) := by
  have hs : s.patrol.quietTimer.isSome = true := Option.isSome_iff_ne_none.2 h
  change execQuietTimerExpiry s = _
  simp only [execQuietTimerExpiry, hs, if_true]

/-- Settles O15: a granted operation is the arbiter's choice (`NewGrant.granted`), and each choice stands in the order
(`Choice.ordered`); after the quiet timer only background work is left to choose. -/
theorem arbiterOrder : Obligations.ArbiterOrder := by
  refine ⟨fun c s t o h => ?_, fun s hop ht hq hm hd => ?_⟩
  · obtain ⟨x, g, hx, rfl⟩ := h.granted
    exact (choose_cases hx.chosen).ordered h.2.1
  · intro p home read program
    obtain ⟨hquiet, hrun⟩ := quietOver_state hq hm
    have hx : OnlyBackground (quietOver s) :=
      ⟨by simpa using hop, by simpa [journalDue] using hd, by simpa using hq, hquiet, by simpa using hm⟩
    have htr : ∀ l, translate (quietOver s) l = home l := fun l => by simp [translate, home]
    have hfs : freeSpares (quietOver s) = freeSpares s := freeSpares_of_remapKept ⟨by simp, by simp⟩
    refine ⟨_, exec_quietTimerExpiry ht, fun r hr => ?_, fun hr => ⟨fun b hb => ?_, fun hb => ⟨fun hv l hl => ?_,
      fun hv => ⟨fun l rest hl => ?_, fun hl => ?_⟩⟩⟩⟩
    · rw [hx.of_bgRead (r := r) (by simpa using hr)]
      simp [readOp, htr, read]
    · rw [hx.of_refreshBlock (b := b) (by simpa using hr) (by simpa using hb), hfs]
      cases (freeSpares s).head? <;> simp [programOp, program, p]
    · rw [hx.of_buffer (l := l) (by simpa using hr) (by simpa using hb) (by simpa using hv) (by simpa using hl)]
      simp [programOp, htr, program, p]
    · obtain ⟨h₁, h₂⟩ := hx.of_refresh (by simpa using hr) (by simpa using hb) (by simpa using hv) (by simpa using hl)
      exact ⟨by simp [h₁, readOp, htr, read], h₂⟩
    · rw [hx.of_patrol (by simpa using hr) (by simpa using hb) (by simpa using hv) (by simpa using hl)]
      simp [hrun, readOp, htr, read, p]

end Sys2Proof.Machine
end

section
/-! PROOFS. O16: what a grant binds (R2, R36, R63, R78, R80, R97, R103, R140, R143, R146, R154). -/
namespace Sys2Proof.Machine

/-! ## What is bound -/

/-- The read `o` binds the block `b` of tag `n`, and is its retry. -/
def RetryBound (t : State) (n : TagNo) (o : ArrayOp) (b : CurrentBlock) : Prop :=
  1 ≤ b.retries ∧
  (∀ k, (t.slot k).owner = some n → (t.slot k).state = .loading →
    ∃ m, o.data = .slot m ∧ (t.slot m).owner = some n ∧ (t.slot m).state = .loading) ∧
  ((∀ k, (t.slot k).owner = some n → (t.slot k).state ≠ .loading) → o.data = .none)

/-- The read `o` binds the block `b` of tag `n`, its newest, for the first time. -/
def FirstReadBound (t : State) (n : TagNo) (o : ArrayOp) (b : CurrentBlock) : Prop :=
  (t.tag n).state = .active ∧ 1 ≤ (t.tag n).issued ∧ b.lbn = (t.tag n).firstLbn + ((t.tag n).issued - 1) ∧
  b.retries = 0 ∧ o.purpose = (if (t.tag n).kind = .read then .load else .checkRead) ∧
  ((t.tag n).kind = .check → o.data = .none) ∧
  ((t.tag n).kind = .read → ∃ k, o.data = .slot k ∧ (t.slot k).owner = some n ∧ (t.slot k).state = .loading ∧
    (t.slot k).lbn = some b.lbn ∧ ∀ m, m.val < k.val → (t.slot m).owner = some n → (t.slot m).state ≠ .reserved)

/-- What a read granted to tag `n` binds. -/
def ReadBound (t : State) (n : TagNo) (o : ArrayOp) : Prop :=
  ∃ b, (t.tag n).cur = some b ∧ b.inFlight = true ∧ b.retryOwed = false ∧ o.lbn = some b.lbn ∧
    o.pbn = translate t b.lbn ∧ o.payload = .none ∧ ((t.tag n).kind = .read ∨ (t.tag n).kind = .check) ∧
    (o.purpose = .retry → RetryBound t n o b) ∧ (o.purpose ≠ .retry → FirstReadBound t n o b)

/-- The program `o` of tag `n` is in place, of its newest block or of its FULL slot with the lowest LBN. -/
def InPlaceBound (t : State) (n : TagNo) (o : ArrayOp) (b : BlockInProgram) : Prop :=
  o.purpose = .programInPlace ∧ b.stage = .inPlace ∧ b.target = translate t b.lbn ∧
  (t.tag n).state = .active ∧ 1 ≤ (t.tag n).issued ∧ ((t.tag n).kind = .write ∨ (t.tag n).kind = .zero) ∧
  ((t.tag n).kind = .zero →
    b.source = .zeroSource ∧ b.lbn = (t.tag n).firstLbn + ((t.tag n).issued - 1)) ∧
  ((t.tag n).kind = .write → ∃ k, b.source = .slot k ∧ (t.slot k).owner = some n ∧ (t.slot k).state = .programming ∧
    ∀ l, (t.slot k).lbn = some l → b.lbn = l ∧ ∀ m j, (t.slot m).owner = some n → (t.slot m).state = .full →
      (t.slot m).lbn = some j → l ≤ j)

/-- What a program granted to tag `n` binds. -/
def ProgramBound (t : State) (n : TagNo) (o : ArrayOp) : Prop :=
  ∃ b, (t.tag n).prog = some b ∧ b.inFlight = true ∧ b.owed = false ∧ o.lbn = some b.lbn ∧ o.pbn = b.target ∧
    (∀ k, b.source = .slot k → o.data = .slot k ∧ o.payload = .words (t.slot k).data) ∧
    (b.source = .zeroSource → o.data = .zeroSource ∧ o.payload = .words (List.replicate 256 0)) ∧
    (o.purpose = .reallocation → b.stage = .spare ∧ (freeSpares t).head? = some b.target) ∧
    (o.purpose ≠ .reallocation → InPlaceBound t n o b)

/-- What a read granted to the Patrol Engine binds. -/
def PatrolReadBound (t : State) (o : ArrayOp) : Prop :=
  ∃ r, t.patrol.bgRead = some r ∧ r.inFlight = true ∧ r.retryOwed = false ∧
    o.lbn = some r.lbn ∧ o.pbn = translate t r.lbn ∧ o.data = .patrolBuffer ∧ (o.purpose = .retry → 1 ≤ r.retries) ∧
    (o.purpose ≠ .retry → r.retries = 0 ∧ r.cancelled = false ∧ t.patrol.refreshBlock = none ∧
      t.patrol.buf.valid = false ∧ o.purpose = (if r.patrolRead then .patrolRead else .refreshRead) ∧
      (r.patrolRead = true → r.lbn = t.patrol.resume ∧ t.patrol.state = .running ∧ t.map.refresh = []))

/-- What a program granted to the Patrol Engine binds. -/
def PatrolProgramBound (t : State) (o : ArrayOp) : Prop :=
  ∃ b, t.patrol.refreshBlock = some b ∧ b.inFlight = true ∧ b.owed = false ∧
    o.lbn = some b.lbn ∧ o.pbn = b.target ∧ o.payload = .words t.patrol.buf.words ∧ t.patrol.bgRead = none ∧
    (o.purpose = .reallocation → b.stage = .spare ∧ (freeSpares t).head? = some b.target) ∧
    (o.purpose ≠ .reallocation → o.purpose = .refreshProgram ∧ b.stage = .inPlace ∧ b.target = translate t b.lbn ∧
      t.patrol.buf.valid = true ∧ ∀ l, t.patrol.buf.lbn = some l → b.lbn = l)

/-- The image `i` is the state's snapshot. -/
def SnapshotOf (t : State) (i : StateImage) : Prop :=
  i.remap = t.map.remap ∧ i.retired = t.map.retired ∧ i.pendingLbns = t.map.pendingLbns ∧ i.resume = t.patrol.resume ∧
  i.thresholds = t.cond.toList.map (·.threshold) ∧ i.worst = t.cond.toList.map (·.worst) ∧
  i.raws = [0, 1, 2, 3, 6, 7, 8, 9, 10, 11].map fun j : CondId => (t.cond[j]).raw

/-- What a program granted to the Journal binds. -/
def CommitBound (t : State) (o : ArrayOp) : Prop :=
  o.pbn = 4064 + t.jrnl.nextPos ∧
    ∃ k, t.jrnl.commit = some k ∧ (k.attempts ≠ 1 → o.payload = t.jrnl.imageBuffer.payload) ∧
      (k.attempts = 1 → k.sequence = t.jrnl.lastStarted ∧ t.jrnl.commitNeeded = false ∧
        ∃ i, o.payload = .image i ∧ t.jrnl.imageBuffer = .image i ∧ i.sequence = k.sequence ∧ SnapshotOf t i)

/-- What the granted operation `o` binds, by its requester. -/
def Bound (t : State) (o : ArrayOp) : Prop :=
  (∀ n, o.requester = .tag n → (o.operation = .readBlock → ReadBound t n o) ∧
    (o.operation = .programBlock → ProgramBound t n o)) ∧
  (o.requester = .patrol → (o.operation = .readBlock → PatrolReadBound t o) ∧
    (o.operation = .programBlock → PatrolProgramBound t o)) ∧
  (o.requester = .journal → o.operation = .programBlock → CommitBound t o)

theorem bound_of_tagRead {t : State} {o : ArrayOp} {n : TagNo} (hr : o.requester = .tag n)
    (hop : o.operation = .readBlock) (h : ReadBound t n o) : Bound t o := by
  refine ⟨fun m hm => ?_, by simp [hr], by simp [hr]⟩
  cases hr.symm.trans hm
  exact ⟨fun _ => h, by simp [hop]⟩

theorem bound_of_tagProgram {t : State} {o : ArrayOp} {n : TagNo} (hr : o.requester = .tag n)
    (hop : o.operation = .programBlock) (h : ProgramBound t n o) : Bound t o := by
  refine ⟨fun m hm => ?_, by simp [hr], by simp [hr]⟩
  cases hr.symm.trans hm
  exact ⟨by simp [hop], fun _ => h⟩

theorem bound_of_patrolRead {t : State} {o : ArrayOp} (hr : o.requester = .patrol) (hop : o.operation = .readBlock)
    (h : PatrolReadBound t o) : Bound t o :=
  ⟨by simp [hr], fun _ => ⟨fun _ => h, by simp [hop]⟩, by simp [hr]⟩

theorem bound_of_patrolProgram {t : State} {o : ArrayOp} (hr : o.requester = .patrol) (hop : o.operation = .programBlock)
    (h : PatrolProgramBound t o) : Bound t o :=
  ⟨by simp [hr], fun _ => ⟨by simp [hop], fun _ => h⟩, by simp [hr]⟩

theorem bound_of_commit {t : State} {o : ArrayOp} (hr : o.requester = .journal) (h : CommitBound t o) : Bound t o :=
  ⟨by simp [hr], by simp [hr], fun _ _ => h⟩

/-! ## The reads of a tag -/

@[simp] theorem begin_translate (o : ArrayOp) (s : State) (l : Nat) : translate (begin o s) l = translate s l := rfl

@[simp] theorem setTag_translate (s : State) (n : TagNo) (x : Tag) (l : Nat) :
    translate (s.setTag n x) l = translate s l := rfl

@[simp] theorem setSlot_translate (s : State) (k : SlotNo) (x : Slot) (l : Nat) :
    translate (s.setSlot k x) l = translate s l := rfl

/-- The head of a tag's slots in some states is the lowest-numbered of them. -/
theorem slotsOf_head_lowest {s : State} {n : TagNo} {p : SlotState → Bool} {k : SlotNo} {rest : List SlotNo}
    (h : slotsOf s n p = k :: rest) {m : SlotNo} (hm : m < k) :
    ¬ ((s.slot m).owner = some n ∧ p (s.slot m).state = true) := by
  intro hmem
  have hs : (slotsOf s n p).Pairwise (· < ·) := (List.pairwise_lt_finRange 8).filter _
  have hin : m ∈ slotsOf s n p := (mem_slotsOf s n p m).2 hmem
  rw [h] at hs hin
  rcases List.mem_cons.1 hin with rfl | hin
  · exact lt_irrefl _ hm
  · exact lt_asymm hm ((List.pairwise_cons.1 hs).1 m hin)

theorem reading_shows (x : Tag) :
    x.reading.kind = x.kind ∧ x.reading.firstLbn = x.firstLbn ∧ x.reading.state = x.activate.state ∧
    x.reading.issued = x.issued + 1 ∧
    x.reading.cur = some { lbn := x.firstLbn + x.issued, retries := 0, retryOwed := false, inFlight := true } := by
  simp [Tag.reading]

theorem programming_shows (x : Tag) (l : Nat) (src : ProgramSource) (p : Nat) :
    (x.programming l src p).kind = x.kind ∧ (x.programming l src p).firstLbn = x.firstLbn ∧
    (x.programming l src p).state = x.activate.state ∧ (x.programming l src p).issued = x.issued + 1 ∧
    (x.programming l src p).prog =
      some { lbn := l, source := src, stage := .inPlace, target := p, inFlight := true, owed := false } := by
  simp [Tag.programming]

theorem reading_bound {s t : State} {n : TagNo} {p : Purpose} {d : DataPlace} (hr : Runnable (s.tag n))
    (hk : (s.tag n).kind = .read ∨ (s.tag n).kind = .check) (ht : t.tag n = (s.tag n).reading)
    (hm : ∀ l, translate t l = translate s l) (hpk : p = if (s.tag n).kind = .read then .load else .checkRead)
    (hd : (s.tag n).kind = .check → d = .none)
    (hs : (s.tag n).kind = .read → ∃ k, d = .slot k ∧ (t.slot k).owner = some n ∧ (t.slot k).state = .loading ∧
      (t.slot k).lbn = some ((s.tag n).firstLbn + (s.tag n).issued) ∧
      ∀ m, m.val < k.val → (t.slot m).owner = some n → (t.slot m).state ≠ .reserved) :
    ReadBound t n (readOp s ((s.tag n).firstLbn + (s.tag n).issued) (.tag n) p d) := by
  obtain ⟨hkind, hfirst, hstate, hissued, hcur⟩ := reading_shows (s.tag n)
  rw [← ht] at hkind hfirst hstate hissued hcur
  have hp : p ≠ .retry := by
    rw [hpk]
    split <;> exact nofun
  refine ⟨_, hcur, rfl, rfl, rfl, (hm _).symm, rfl, by rw [hkind]; exact hk, fun h => absurd h hp, fun _ => ?_⟩
  refine ⟨by rw [hstate]; exact activate_state _ hr, by omega, ?_, rfl, by rw [hkind]; exact hpk,
    by rw [hkind]; exact hd, by rw [hkind]; exact hs⟩
  rw [hfirst, hissued, Nat.add_sub_cancel]

theorem programming_bound {s t : State} {n : TagNo} {l : Nat} {src : ProgramSource} {d : DataPlace} {ws : Words}
    (hr : Runnable (s.tag n)) (hk : (s.tag n).kind = .write ∨ (s.tag n).kind = .zero)
    (ht : t.tag n = (s.tag n).programming l src (translate s l)) (hm : translate t l = translate s l)
    (hslot : ∀ k, src = .slot k → d = .slot k ∧ ws = (t.slot k).data)
    (hzero : src = .zeroSource → d = .zeroSource ∧ ws = zeroWords)
    (hz : (s.tag n).kind = .zero → src = .zeroSource ∧ l = (s.tag n).firstLbn + (s.tag n).issued)
    (hw : (s.tag n).kind = .write → ∃ k, src = .slot k ∧ (t.slot k).owner = some n ∧ (t.slot k).state = .programming ∧
      ∀ j, (t.slot k).lbn = some j → l = j ∧ ∀ m i, (t.slot m).owner = some n → (t.slot m).state = .full →
        (t.slot m).lbn = some i → j ≤ i) :
    ProgramBound t n (programOp l (translate s l) (.tag n) .programInPlace d ws) := by
  obtain ⟨hkind, hfirst, hstate, hissued, hprog⟩ := programming_shows (s.tag n) l src (translate s l)
  rw [← ht] at hkind hfirst hstate hissued hprog
  refine ⟨_, hprog, rfl, rfl, rfl, rfl, fun k e => ?_, fun e => ?_, nofun, fun _ => ⟨rfl, rfl, hm.symm,
    by rw [hstate]; exact activate_state _ hr, by omega, by rw [hkind]; exact hk, fun h => ?_, by rw [hkind]; exact hw⟩⟩
  · obtain ⟨rfl, rfl⟩ := hslot k e
    exact ⟨rfl, rfl⟩
  · obtain ⟨rfl, rfl⟩ := hzero e
    exact ⟨rfl, rfl⟩
  · obtain ⟨hsrc, hl⟩ := hz (hkind ▸ h)
    exact ⟨hsrc, by rw [hfirst, hissued, Nat.add_sub_cancel]; exact hl⟩

theorem retryPlace_bound {s t : State} {n : TagNo} (hs : ∀ k, t.slot k = s.slot k) :
    (∀ k, (t.slot k).owner = some n → (t.slot k).state = .loading →
      ∃ m, retryPlace s n = .slot m ∧ (t.slot m).owner = some n ∧ (t.slot m).state = .loading) ∧
    ((∀ k, (t.slot k).owner = some n → (t.slot k).state ≠ .loading) → retryPlace s n = .none) := by
  simp only [hs]
  have hmem := fun k => mem_slotsOf s n (· == .loading) k
  unfold retryPlace
  split
  · rename_i he
    refine ⟨fun k ho hl => ?_, fun _ => rfl⟩
    exact absurd ((hmem k).2 ⟨ho, by simp [hl]⟩) (by simp [he])
  · rename_i k rest he
    have hk := (hmem k).1 (by simp [he])
    have hl : (s.slot k).state = .loading := by simpa using hk.2
    exact ⟨fun _ _ _ => ⟨k, rfl, hk.1, hl⟩, fun h => absurd hl (h k hk.1)⟩

/-! ## The grants of a tag -/

theorem TagGrant.bound {s : State} {n : TagNo} {g : Grant} {o : ArrayOp} (h : TagGrant s n g) (hr : Runnable (s.tag n))
    (ho : (applyGrant g s).array.op = some o) : Bound (applyGrant g s) o := by
  cases h with
  | load k rest hk hc hs =>
    simp only [applyGrant, grantLoad_eq n s k rest hs, begin_op, Option.some.injEq] at ho ⊢
    subst ho
    have hown : (s.slot k).owner = some n := ((mem_slotsOf s n (· == .reserved) k).1 (by simp [hs])).1
    refine bound_of_tagRead rfl rfl (reading_bound hr (.inl hk) (by simp) (by simp) (by simp [hk])
      (by simp [hk]) fun _ => ⟨k, rfl, by simpa [Slot.loadingOf] using hown, by simp [Slot.loadingOf],
        by simp [Slot.loadingOf], fun m hm ho hm' => ?_⟩)
    have hne : m ≠ k := fun e => by simp [e] at hm
    simp only [begin_records, setTag_slot, setSlot_slot, if_neg hne] at ho hm'
    exact slotsOf_head_lowest hs hm ⟨ho, by simp [hm']⟩
  | checkRead hk hc hi =>
    simp only [applyGrant, grantCheckRead_eq, begin_op, Option.some.injEq] at ho ⊢
    subst ho
    exact bound_of_tagRead rfl rfl (reading_bound hr (.inr hk) (by simp) (by simp) (by simp [hk])
      (fun _ => rfl) (by simp [hk]))
  | retry c hk hc hw =>
    simp only [applyGrant, grantRetry_eq n s c hc, begin_op, Option.some.injEq] at ho ⊢
    subst ho
    obtain ⟨hd, hd'⟩ := retryPlace_bound (s := s) (n := n) (t := begin (readOp s c.lbn (.tag n) .retry (retryPlace s n))
      (s.setTag n ((s.tag n).retrying c))) (by simp)
    exact bound_of_tagRead rfl rfl ⟨{ c with retries := c.retries + 1, retryOwed := false, inFlight := true },
      by simp [Tag.retrying], rfl, rfl, rfl, rfl, rfl, by simpa [Tag.retrying] using hk,
      fun _ => ⟨by simp, hd, hd'⟩, fun h => absurd rfl h⟩
  | programSlot k hk hm hp hl =>
    simp only [applyGrant, grantProgram_write_eq n s k hk hl, begin_op, Option.some.injEq] at ho ⊢
    subst ho
    have hown : (s.slot k).owner = some n := ((mem_slotsOf s n (· == .full) k).1 (lowestBound_mem hl)).1
    refine bound_of_tagProgram rfl rfl (programming_bound (src := .slot k) hr (.inl hk) (by simp) (by simp)
      (fun m hm => ?_) nofun (by simp [hk]) fun _ => ⟨k, rfl, by simpa using hown, by simp, fun j hj => ⟨?_, fun m i ho hf hi => ?_⟩⟩)
    · cases hm
      simp
    · have hj : (s.slot k).lbn = some j := by simpa using hj
      simp [hj]
    · have hj : (s.slot k).lbn = some j := by simpa using hj
      have hne : m ≠ k := fun e => by simp [e] at hf
      simp only [begin_records, setTag_slot, setSlot_slot, if_neg hne] at ho hf hi
      have hle := lowestBound_le hl m ((mem_slotsOf s n (· == .full) m).2 ⟨ho, by simp [hf]⟩)
      simpa [hj, hi] using hle
  | programZero hk hm hp hi =>
    simp only [applyGrant, grantProgram_zero_eq n s hk, begin_op, Option.some.injEq] at ho ⊢
    subst ho
    exact bound_of_tagProgram rfl rfl (programming_bound (src := .zeroSource) hr (.inr hk) (by simp) (by simp) nofun
      (fun _ => ⟨rfl, rfl⟩) (fun _ => ⟨rfl, rfl⟩) (by simp [hk]))
  | reallocate b p ps hk hm hb hw hf =>
    simp only [applyGrant, grantReallocate_eq n s b p ps hb hf, begin_op, Option.some.injEq] at ho ⊢
    subst ho
    refine bound_of_tagProgram rfl rfl ⟨b.onSpare p, by simp, rfl, rfl, rfl, rfl, fun k e => ?_, fun e => ?_,
      fun _ => ⟨rfl, ?_⟩, fun h => absurd rfl h⟩
    · have e : b.source = .slot k := e
      simp [programOp, e, sourceData]
    · have e : b.source = .zeroSource := e
      rw [e]
      exact ⟨rfl, rfl⟩
    · rw [freeSpares_of_remapKept (s := s) ⟨by simp, by simp⟩, hf]
      rfl

/-! ## The grants of the Patrol Engine and of the Journal -/

theorem BackgroundGrant.bound {s : State} {g : Grant} {o : ArrayOp} (h : BackgroundGrant s g)
    (ho : (applyGrant g s).array.op = some o) : Bound (applyGrant g s) o := by
  cases h with
  | retry r hr =>
    simp only [applyGrant, grantPatrolRetry_eq hr, begin_op, Option.some.injEq] at ho ⊢
    subst ho
    exact bound_of_patrolRead rfl rfl ⟨_, rfl, rfl, rfl, rfl, rfl, rfl, fun _ => by simp, fun h => absurd rfl h⟩
  | reallocate b p ps hr hb hw hf =>
    simp only [applyGrant, grantRefreshReallocate_eq hb hf, begin_op, Option.some.injEq] at ho ⊢
    subst ho
    refine bound_of_patrolProgram rfl rfl ⟨b.onSpare p, rfl, rfl, rfl, rfl, rfl, rfl, hr, fun _ => ⟨rfl, ?_⟩,
      fun h => absurd rfl h⟩
    rw [freeSpares_of_remapKept (s := s) ⟨by simp, by simp⟩, hf]
    rfl
  | program hr hb hv =>
    cases ho
    refine bound_of_patrolProgram rfl rfl ⟨_, rfl, rfl, rfl, rfl, rfl, rfl, hr, nofun, fun _ => ⟨rfl, rfl, rfl, hv,
      fun l hl => ?_⟩⟩
    have hl : s.patrol.buf.lbn = some l := hl
    simp [hl]
  | refreshRead l rest hr hb hv hl =>
    simp only [applyGrant, grantRefreshRead_eq hl, begin_op, Option.some.injEq] at ho ⊢
    subst ho
    exact bound_of_patrolRead rfl rfl ⟨_, rfl, rfl, rfl, rfl, rfl, rfl, nofun, fun _ => ⟨rfl, rfl, hb, hv, rfl, nofun⟩⟩
  | patrolRead hr hb hv hl hs =>
    cases ho
    exact bound_of_patrolRead rfl rfl ⟨_, rfl, rfl, rfl, rfl, rfl, rfl, nofun,
      fun _ => ⟨rfl, rfl, hb, hv, rfl, fun _ => ⟨rfl, hs, hl⟩⟩⟩

theorem map_cond_toList {α : Type} (s : State) (f : Condition → α) :
    (List.finRange 12).map (fun i => f (s.cond[i])) = s.cond.toList.map f :=
  List.ext_getElem (by simp) (by simp)

/-- The snapshot of a commit is of the state as it stands (R150, R154). -/
theorem snapshot_snapshotOf (s : State) (q : Nat) : SnapshotOf s (snapshot s q) :=
  ⟨rfl, rfl, rfl, rfl, map_cond_toList s _, map_cond_toList s _, rfl⟩

theorem Choice.bound {s : State} {g : Grant} {o : ArrayOp} (h : Choice s g)
    (hk : ∀ k, s.jrnl.commit = some k → 1 ≤ k.attempts) (ho : (applyGrant g s).array.op = some o) :
    Bound (applyGrant g s) o := by
  cases h with
  | ringRead =>
    cases ho
    exact ⟨nofun, nofun, fun _ => nofun⟩
  | commitFirst =>
    cases ho
    exact bound_of_commit rfl ⟨rfl, _, rfl, fun h => absurd rfl h,
      fun _ => ⟨rfl, rfl, _, rfl, rfl, rfl, snapshot_snapshotOf s _⟩⟩
  | commitNext c _ _ hc =>
    cases ho
    have := hk c hc
    refine bound_of_commit rfl ⟨rfl, { c with attempts := c.attempts + 1 }, ?_, fun _ => rfl, fun h => ?_⟩
    · simp [applyGrant, grantCommitNext, hc]
    · simp only at h
      omega
  | tag n g pre post _ _ _ hr hg => exact hg.bound hr ho
  | background g _ _ _ _ hg => exact hg.bound ho

/-- Settles O16: a granted operation is the arbiter's choice (`NewGrant.granted`), and each choice binds its block
(`Choice.bound`); a commit in progress has had an attempt, so its next one is not its first. -/
theorem grantsBindTheirBlocks : Obligations.GrantsBindTheirBlocks := by
  intro c s t o h hk
  obtain ⟨x, g, hx, rfl⟩ := h.granted
  exact (choose_cases hx.chosen).bound (fun k hc => hk k (hx.commit k hc)) h.2.1

end Sys2Proof.Machine
end

section
/-! PROOFS. O49: the registers show the state (R24, R44, R185, R186, R187, R200). -/
namespace Sys2Proof.Machine

/-! ## Fields of a word -/

theorem at16_toNat {lo v : Nat} (h : v * 2 ^ lo < 65536) : (at16 lo v).toNat = v * 2 ^ lo := by
  have hv : v < 2 ^ 16 := lt_of_le_of_lt (Nat.le_mul_of_pos_right v (Nat.two_pow_pos lo)) h
  unfold at16
  rw [BitVec.toNat_shiftLeft, BitVec.toNat_ofNat, Nat.mod_eq_of_lt hv, Nat.shiftLeft_eq, Nat.mod_eq_of_lt h]

/-- A field placed above the bits of a word adds its value at that place. -/
theorem or_at16_toNat {w : Word} {m lo v : Nat} (hw : w.toNat = m) (hm : m < 2 ^ lo) (hv : v * 2 ^ lo < 65536) :
    (w ||| at16 lo v).toNat = m + v * 2 ^ lo := by
  rw [BitVec.toNat_or, at16_toNat hv, hw, Nat.or_comm, Nat.mul_comm v, ← Nat.two_pow_add_eq_or_of_lt hm, Nat.add_comm]

theorem or_bit16_toNat {w : Word} {m lo : Nat} {b : Bool} (hw : w.toNat = m) (hm : m < 2 ^ lo)
    (hv : b.toNat * 2 ^ lo < 65536) : (w ||| bit16 lo b).toNat = m + b.toNat * 2 ^ lo := or_at16_toNat hw hm hv

theorem getLsbD_eq_decide (w : Word) (k : Nat) : w.getLsbD k = decide (w.toNat / 2 ^ k % 2 = 1) := by
  rw [← BitVec.testBit_toNat, Nat.testBit_eq_decide_div_mod_eq]

/-- The bit of a word that a flag sets shows the flag. -/
theorem getLsbD_eq_flag {w : Word} {k : Nat} {b : Bool} (h : w.toNat / 2 ^ k % 2 = b.toNat) : w.getLsbD k = b := by
  rw [getLsbD_eq_decide, h]
  cases b <;> rfl

/-! ## The codes fit their fields -/

theorem storeMode_code_lt (m : StoreMode) : m.code < 4 := by cases m <;> decide
theorem verdict_code_lt (v : Verdict) : v.code < 4 := by cases v <;> decide
theorem patrolStatus_code_lt (p : PatrolStatus) : p.code < 8 := by cases p <;> decide
theorem patrolState_code_lt (p : PatrolState) : p.code < 4 := by cases p <;> decide
theorem qResult_code_lt (r : QResult) : r.code < 8 := by cases r <;> decide
theorem cmdResult_code_lt (r : CmdResult) : r.code < 8 := by cases r <;> decide
theorem kind_code_lt (k : Kind) : k.code < 8 := by cases k <;> decide
theorem status_code_lt (st : Status) : st.code < 8 := by cases st <;> decide

/-! ## STAT -/

/-- STAT is the sum of its fields (R186). -/
theorem statWord_toNat (s : State) :
    (statWord s).toNat = s.jrnl.mode.code + (verdict s).code * 4 + s.patrol.status.code * 16 +
      s.patrol.state.code * 128 + s.array.op.isSome.toNat * 512 + s.cmd.running.isSome.toNat * 1024 +
      (foregroundIdle s).toNat * 2048 + s.req.abortIgnored.toNat * 4096 + s.cfg.cfgReject.toNat * 8192 := by
  have h₁ := storeMode_code_lt s.jrnl.mode
  have h₂ := verdict_code_lt (verdict s)
  have h₃ := patrolStatus_code_lt s.patrol.status
  have h₄ := patrolState_code_lt s.patrol.state
  have h₅ := Bool.toNat_lt s.array.op.isSome
  have h₆ := Bool.toNat_lt s.cmd.running.isSome
  have h₇ := Bool.toNat_lt (foregroundIdle s)
  have h₈ := Bool.toNat_lt s.req.abortIgnored
  have h₉ := Bool.toNat_lt s.cfg.cfgReject
  have e₁ : (at16 0 s.jrnl.mode.code).toNat = s.jrnl.mode.code * 2 ^ 0 := at16_toNat (by omega)
  have e₂ := or_at16_toNat (lo := 2) (v := (verdict s).code) e₁ (by omega) (by omega)
  have e₃ := or_at16_toNat (lo := 4) (v := s.patrol.status.code) e₂ (by omega) (by omega)
  have e₄ := or_at16_toNat (lo := 7) (v := s.patrol.state.code) e₃ (by omega) (by omega)
  have e₅ := or_bit16_toNat (lo := 9) (b := s.array.op.isSome) e₄ (by omega) (by omega)
  have e₆ := or_bit16_toNat (lo := 10) (b := s.cmd.running.isSome) e₅ (by omega) (by omega)
  have e₇ := or_bit16_toNat (lo := 11) (b := foregroundIdle s) e₆ (by omega) (by omega)
  have e₈ := or_bit16_toNat (lo := 12) (b := s.req.abortIgnored) e₇ (by omega) (by omega)
  have e₉ := or_bit16_toNat (lo := 13) (b := s.cfg.cfgReject) e₈ (by omega) (by omega)
  unfold statWord
  omega

/-- The fields of STAT (R186). -/
theorem statWord_shows (s : State) :
    (statWord s).toNat % 4 = s.jrnl.mode.code ∧ (statWord s).toNat / 4 % 4 = (verdict s).code ∧
    (statWord s).toNat / 16 % 8 = s.patrol.status.code ∧ (statWord s).toNat / 128 % 4 = s.patrol.state.code ∧
    (statWord s).getLsbD 9 = s.array.op.isSome ∧ (statWord s).getLsbD 10 = s.cmd.running.isSome ∧
    (statWord s).getLsbD 11 = foregroundIdle s ∧ (statWord s).getLsbD 12 = s.req.abortIgnored ∧
    (statWord s).getLsbD 13 = s.cfg.cfgReject ∧ (statWord s).toNat < 16384 := by
  have h₁ := storeMode_code_lt s.jrnl.mode
  have h₂ := verdict_code_lt (verdict s)
  have h₃ := patrolStatus_code_lt s.patrol.status
  have h₄ := patrolState_code_lt s.patrol.state
  have h₅ := Bool.toNat_lt s.array.op.isSome
  have h₆ := Bool.toNat_lt s.cmd.running.isSome
  have h₇ := Bool.toNat_lt (foregroundIdle s)
  have h₈ := Bool.toNat_lt s.req.abortIgnored
  have h₉ := Bool.toNat_lt s.cfg.cfgReject
  have e := statWord_toNat s
  exact ⟨by omega, by omega, by omega, by omega, getLsbD_eq_flag (by omega), getLsbD_eq_flag (by omega),
    getLsbD_eq_flag (by omega), getLsbD_eq_flag (by omega), getLsbD_eq_flag (by omega), by omega⟩

/-! ## PSTAT -/

/-- A live READ tag with a FULL or DRAINING slot has the slot that PDATA reads (R41, R53). -/
theorem readPortSlot_isSome (s : State) (u : TagNo) : (readPortSlot s u).isSome = true ↔ hasDataIn s u := by
  have hown : slotsOf s u SlotState.readable ≠ [] ↔ ownsSlotIn s u .full .draining := by
    rw [← List.isEmpty_eq_false_iff, slotsOf_isEmpty]
    simp only [readable_iff, ownsSlotIn]
  unfold readPortSlot hasDataIn
  by_cases hs : slotsOf s u SlotState.readable = []
  · simp [hs, lowestBound, ← hown]
  · obtain ⟨k, hk⟩ := lowestBound_isSome s _ hs
    have ho := hown.1 hs
    by_cases hl : (s.tag u).state.live = true <;> by_cases hr : (s.tag u).kind = .read <;> simp [hk, hl, hr, ho]

/-- A live WRITE tag with a RESERVED or FILLING slot has the slot that PDATA fills (R42, R53). -/
theorem writePortSlot_isSome (s : State) (u : TagNo) : (writePortSlot s u).isSome = true ↔ hasDataOut s u := by
  have hown : (slotsOf s u SlotState.fillable).head?.isSome = true ↔ ownsSlotIn s u .reserved .filling := by
    rw [List.isSome_head?, ← List.isEmpty_eq_false_iff, slotsOf_isEmpty]
    simp only [fillable_iff, ownsSlotIn]
  unfold writePortSlot hasDataOut
  rw [← hown]
  by_cases hl : (s.tag u).state.live = true <;> by_cases hr : (s.tag u).kind = .write <;> simp [hl, hr]

theorem portSlot_isSome (s : State) :
    (portSlot s).isSome = true ↔ hasDataIn s s.port.attached ∨ hasDataOut s s.port.attached := by
  rw [← readPortSlot_isSome, ← writePortSlot_isSome]
  simp [portSlot]

/-- The words left in the slot that the port serves (R44). -/
def wordsLeft (s : State) : Nat := (portSlot s).elim 0 fun n => 256 - (s.slot n).pos

theorem pstatWord_toNat (s : State) :
    (pstatWord s).toNat =
      s.port.attached.val + (portSlot s).isSome.toNat * 16 + s.port.miss.toNat * 32 + wordsLeft s * 128 ∧
      wordsLeft s ≤ 256 := by
  have hl : wordsLeft s ≤ 256 := by
    unfold wordsLeft
    cases portSlot s with
    | none => exact Nat.zero_le _
    | some n => exact Nat.sub_le ..
  have h₁ := s.port.attached.isLt
  have h₂ := Bool.toNat_lt (portSlot s).isSome
  have h₃ := Bool.toNat_lt s.port.miss
  have e₁ : (at16 0 s.port.attached.val).toNat = s.port.attached.val * 2 ^ 0 := at16_toNat (by omega)
  have e₂ := or_bit16_toNat (lo := 4) (b := (portSlot s).isSome) e₁ (by omega) (by omega)
  have e₃ := or_bit16_toNat (lo := 5) (b := s.port.miss) e₂ (by omega) (by omega)
  have e₄ := or_at16_toNat (lo := 7) (v := wordsLeft s) e₃ (by omega) (by omega)
  have e : pstatWord s = at16 0 s.port.attached.val ||| bit16 4 (portSlot s).isSome ||| bit16 5 s.port.miss |||
      at16 7 (wordsLeft s) := by
    unfold pstatWord wordsLeft
    cases portSlot s <;> rfl
  rw [e]
  exact ⟨by omega, hl⟩

/-- The fields of PSTAT (R44). -/
theorem pstatWord_shows (s : State) :
    (pstatWord s).toNat % 16 = s.port.attached.val ∧ (pstatWord s).getLsbD 4 = (portSlot s).isSome ∧
    (pstatWord s).getLsbD 5 = s.port.miss ∧ (pstatWord s).getLsbD 6 = false ∧
    (pstatWord s).toNat / 128 = wordsLeft s := by
  have h₁ := s.port.attached.isLt
  have h₂ := Bool.toNat_lt (portSlot s).isSome
  have h₃ := Bool.toNat_lt s.port.miss
  obtain ⟨e, hl⟩ := pstatWord_toNat s
  exact ⟨by omega, getLsbD_eq_flag (by omega), getLsbD_eq_flag (by omega),
    getLsbD_eq_flag (by rw [Bool.toNat_false]; omega), by omega⟩

theorem wordsLeft_of_none {s : State} (hi : ¬ hasDataIn s s.port.attached) (ho : ¬ hasDataOut s s.port.attached) :
    wordsLeft s = 0 := by
  have h : portSlot s = none := Option.not_isSome_iff_eq_none.1 fun h => ((portSlot_isSome s).1 h).elim hi ho
  simp [wordsLeft, h]

theorem wordsLeft_of_read {s : State} {k : SlotNo} (h : readPortSlot s s.port.attached = some k) :
    wordsLeft s = 256 - (s.slot k).pos := by
  simp [wordsLeft, portSlot, h]

/-- A WRITE tag has no slot that PDATA reads. -/
theorem wordsLeft_of_write {s : State} {k : SlotNo} (hd : hasDataOut s s.port.attached)
    (h : writePortSlot s s.port.attached = some k) : wordsLeft s = 256 - (s.slot k).pos := by
  have hr : readPortSlot s s.port.attached = none := by
    obtain ⟨-, hk, -⟩ := hd
    simp [readPortSlot, hk]
  simp [wordsLeft, portSlot, h, hr]

/-! ## The other registers -/

theorem qresultWord_toNat (s : State) :
    (qresultWord s).toNat = s.req.qresult.code + 256 * s.req.qresultTag.val := by
  have h₁ := qResult_code_lt s.req.qresult
  have h₂ := s.req.qresultTag.isLt
  have e₁ : (at16 0 s.req.qresult.code).toNat = s.req.qresult.code * 2 ^ 0 := at16_toNat (by omega)
  have e₂ := or_at16_toNat (lo := 8) (v := s.req.qresultTag.val) e₁ (by omega) (by omega)
  unfold qresultWord
  omega

theorem cmdresWord_toNat (s : State) :
    (cmdresWord s).toNat = s.cmd.result.code + 256 * s.cmd.resultCode.toNat := by
  have h₁ := cmdResult_code_lt s.cmd.result
  have h₂ := s.cmd.resultCode.isLt
  have e₁ : (at16 0 s.cmd.result.code).toNat = s.cmd.result.code * 2 ^ 0 := at16_toNat (by omega)
  have e₂ := or_at16_toNat (lo := 8) (v := s.cmd.resultCode.toNat) e₁ (by omega) (by omega)
  have e : at16 8 s.cmd.resultCode.toNat = s.cmd.resultCode.setWidth 16 <<< 8 := by
    rw [at16, BitVec.ofNat_toNat]
  unfold cmdresWord
  rw [← e]
  omega

theorem cmdWord_of_idle {s : State} (h : s.cmd.running = none) : cmdWord s = 0 := by
  simp [cmdWord, h]

theorem cmdWord_of_running {s : State} {r : Running} (h : s.cmd.running = some r) :
    cmdWord s = r.code.setWidth 16 := by
  simp [cmdWord, h]

theorem cfgaWord_toNat {s : State} (h : ConfigOk s) :
    (cfgaWord s).toNat = s.cfg.refreshLevel + 16 * s.cfg.retryLimit + 256 * s.cfg.slotQuota := by
  obtain ⟨-, h₁, h₂, -, h₃, -, -⟩ := h
  have e₁ : (at16 0 s.cfg.refreshLevel).toNat = s.cfg.refreshLevel * 2 ^ 0 := at16_toNat (by omega)
  have e₂ := or_at16_toNat (lo := 4) (v := s.cfg.retryLimit) e₁ (by omega) (by omega)
  have e₃ := or_at16_toNat (lo := 8) (v := s.cfg.slotQuota) e₂ (by omega) (by omega)
  unfold cfgaWord
  omega

theorem cfgbWord_toNat {s : State} (h : ConfigOk s) :
    (cfgbWord s).toNat = s.cfg.quietCode + 256 * s.cfg.segCode := by
  obtain ⟨-, -, -, -, -, h₁, h₂⟩ := h
  have e₁ : (at16 0 s.cfg.quietCode).toNat = s.cfg.quietCode * 2 ^ 0 := at16_toNat (by omega)
  have e₂ := or_at16_toNat (lo := 8) (v := s.cfg.segCode) e₁ (by omega) (by omega)
  unfold cfgbWord
  omega

theorem low_toNat {v : Nat} (h : v < 65536) : (at16 0 v).toNat = v := by
  rw [at16_toNat (by omega), pow_zero, Nat.mul_one]

/-- The offsets above the resume LBN's read 0 (R185). -/
theorem regRead_above {s : State} {a : RegAddr} (h : 0x19 ≤ a.toNat) : regRead s a = 0 := by
  unfold regRead
  split
  case h_26 => rfl
  all_goals omega

/-! ## The completion registers -/

theorem cplStatWord_toNat (c : Completion) :
    (cplStatWord (some c)).toNat = c.tag.val + 16 * c.kind.code + 256 * c.status.code := by
  have h₁ := c.tag.isLt
  have h₂ := kind_code_lt c.kind
  have h₃ := status_code_lt c.status
  have e₁ : (at16 0 c.tag.val).toNat = c.tag.val * 2 ^ 0 := at16_toNat (by omega)
  have e₂ := or_at16_toNat (lo := 4) (v := c.kind.code) e₁ (by omega) (by omega)
  have e₃ := or_at16_toNat (lo := 8) (v := c.status.code) e₂ (by omega) (by omega)
  unfold cplStatWord
  dsimp only
  omega

theorem cplBlkWord_toNat {c : Completion} (h : c.blocksDone < 65536) :
    (cplBlkWord (some c)).toNat = c.blocksDone := low_toNat h

theorem cplLbnWord_toNat {c : Completion} (h : ∀ l, c.firstFail = some l → l < 65536) :
    (cplLbnWord (some c)).toNat = c.firstFail.getD 0xFFFF := by
  cases hf : c.firstFail with
  | none => simp [cplLbnWord, hf]
  | some l => simpa [cplLbnWord, hf] using low_toNat (h l hf)

/-- CPLINFO of a READ and of a CHECK (R24). -/
theorem twoFields_toNat {lo a b : Nat} (ha : a < 2 ^ lo) (hb : b * 2 ^ lo < 65536) (ha' : a < 65536) :
    (at16 0 a ||| at16 lo b).toNat = a + 2 ^ lo * b := by
  rw [or_at16_toNat (low_toNat ha') ha hb, Nat.mul_comm]

theorem blocksDone_le {x : Tag} (hm : x.moved ≤ 256) (hp : x.passed ≤ 256) (hc : x.completed ≤ 256) :
    blocksDone x ≤ 256 := by
  unfold blocksDone
  cases x.kind <;> assumption

/-- Settles O49: each register is the sum of its fields, whose codes and numbers fit (`or_at16_toNat`). -/
theorem registersShowTheState : Obligations.RegistersShowTheState := by
  refine ⟨fun s => ?_, fun s => ?_, fun n x st s hst hs hm hp hc hw hr hu hre hl => ?_⟩
  · obtain ⟨hmode, hverdict, hstatus, hstate, hbusy, hcmd, hidle, hign, hrej, hlt⟩ := statWord_shows s
    refine ⟨hmode, hverdict, hstatus, hstate, ?_, ?_, ?_, hign, hrej, hlt, rfl⟩
    · exact (Bool.eq_iff_iff.1 hbusy).trans Option.isSome_iff_ne_none
    · exact (Bool.eq_iff_iff.1 hcmd).trans Option.isSome_iff_ne_none
    · exact (Bool.eq_iff_iff.1 hidle).trans List.isEmpty_iff
  · obtain ⟨htag, hready, hmiss, hzero, hleft⟩ := pstatWord_shows s
    refine ⟨rfl, rfl, rfl, qresultWord_toNat s, rfl, cmdWord_of_idle, fun w => cmdWord_of_running,
      fun q => cmdWord_of_running, fun q => cmdWord_of_running, cmdresWord_toNat s,
      fun h => ⟨cfgaWord_toNat h, cfgbWord_toNat h⟩, rfl, fun h => low_toNat (by omega),
      fun a h => regRead_above h, htag, (Bool.eq_iff_iff.1 hready).trans (portSlot_isSome s), hmiss, hzero,
      fun hi ho => hleft.trans (wordsLeft_of_none hi ho), fun k l hd ho hk hlbn hmin => hleft.trans ?_,
      fun k hd ho hk hone => hleft.trans ?_⟩
    · obtain ⟨hlive, hkind, -⟩ := hd
      exact wordsLeft_of_read (readPortSlot_eq hlive hkind ho hk hlbn hmin)
    · exact wordsLeft_of_write hd (writePortSlot_eq hd.1 hd.2.1 ho hk hone)
  · have hblk : (completionOf n x).blocksDone < 65536 := Nat.lt_of_le_of_lt (blocksDone_le hm hp hc) (by decide)
    change (cplStatWord s.svc.readout).toNat = _ ∧ (cplBlkWord s.svc.readout).toNat = _ ∧
      (cplLbnWord s.svc.readout).toNat = _ ∧ (cplInfoWord s.svc.readout).toNat = _
    rw [hs, cplStatWord_toNat, cplBlkWord_toNat hblk,
      cplLbnWord_toNat fun l h => Nat.lt_of_le_of_lt (hl l h) (by decide)]
    refine ⟨by simp [completionOf, hst], ?_, rfl, ?_⟩
    · cases hk : x.kind <;> simp [completionOf, blocksDone, hk]
    · cases hk : x.kind with
      | read => simpa [completionOf, cplInfoWord, hk] using
          twoFields_toNat (lo := 8) (a := x.worst) (b := x.retriesUsed) (by omega) (by omega) (by omega)
      | check => simpa [completionOf, cplInfoWord, hk] using
          twoFields_toNat (lo := 4) (a := x.worst) (b := x.uncorrCount) (by omega) (by omega) (by omega)
      | write | zero =>
        simpa [completionOf, cplInfoWord, hk] using low_toNat (v := x.reallocs) (by omega)

end Sys2Proof.Machine
end

section
/-! PROOFS. What a tag's claim to a slot rests on (R30, R31, R32), and the arbiter's choice, which leaves every claim as it
was. -/
namespace Sys2Proof.Machine

/-! ## What a claim to a slot rests on -/

/-- A tag is in one of the three states that can want a slot (R30). -/
def TagState.waitsForSlot (st : TagState) : Prop := st = .held ∨ st = .queued ∨ st = .active

theorem slotsOf_eq_of_iff {s t : State} {u : TagNo} {p : SlotState → Bool}
    (h : ∀ k, ((t.slot k).owner = some u ∧ p (t.slot k).state = true) ↔
      ((s.slot k).owner = some u ∧ p (s.slot k).state = true)) : slotsOf t u p = slotsOf s u p := by
  unfold slotsOf
  refine List.filter_congr fun k _ => ?_
  rw [Bool.eq_iff_iff]
  simpa using h k

theorem heldCount_congr {s t : State} {u : TagNo}
    (h : ∀ k, (t.slot k).owner = some u ↔ (s.slot k).owner = some u) : heldCount t u = heldCount s u :=
  congrArg List.length (slotsOf_eq_of_iff fun k => and_congr_left fun _ => h k)

/-- A tag's claim to a slot rests on its record, on the quota, on which slots it owns, on its RESERVED slots beside the
blocks issued if it reads, and on its slots that the host may fill if it writes (R30, R31). -/
theorem wantsOne_congr {s t : State} {u : TagNo}
    (hst : (t.tag u).state.waitsForSlot ↔ (s.tag u).state.waitsForSlot)
    (hrec : (t.tag u).abortMark = (s.tag u).abortMark ∧ (t.tag u).wpMark = (s.tag u).wpMark ∧
      (t.tag u).moved = (s.tag u).moved ∧ (t.tag u).count = (s.tag u).count ∧ (t.tag u).kind = (s.tag u).kind)
    (hcfg : t.cfg.slotQuota = s.cfg.slotQuota)
    (hown : ∀ k, (t.slot k).owner = some u ↔ (s.slot k).owner = some u)
    (hread : (s.tag u).kind = .read → (t.tag u).issued + (slotsOf t u (· == .reserved)).length =
      (s.tag u).issued + (slotsOf s u (· == .reserved)).length)
    (hwrite : (s.tag u).kind = .write → ∀ k, (s.slot k).owner = some u →
      (t.slot k).state.fillable = (s.slot k).state.fillable) : wantsOne t u ↔ wantsOne s u := by
  obtain ⟨hab, hwp, hmoved, hcount, hkind⟩ := hrec
  have hfill : (s.tag u).kind = .write →
      ((∀ k, (t.slot k).owner = some u → (t.slot k).state ≠ .reserved ∧ (t.slot k).state ≠ .filling) ↔
        ∀ k, (s.slot k).owner = some u → (s.slot k).state ≠ .reserved ∧ (s.slot k).state ≠ .filling) := fun hk => by
    refine forall_congr' fun k => ?_
    rw [hown k]
    refine imp_congr_right fun ho => ?_
    have h := (fillable_iff (t.slot k).state).symm.trans ((Bool.eq_iff_iff.1 (hwrite hk k ho)).trans (fillable_iff _))
    rw [← not_or, ← not_or, h]
  have hs : ((t.tag u).state = .held ∨ (t.tag u).state = .queued ∨ (t.tag u).state = .active) ↔
      ((s.tag u).state = .held ∨ (s.tag u).state = .queued ∨ (s.tag u).state = .active) := hst
  unfold wantsOne
  rw [hs, hab, hwp, hmoved, hcount, hkind, hcfg, heldCount_congr hown]
  refine and_congr_right fun _ => and_congr_right fun _ => and_congr_right fun _ => or_congr ?_ ?_
  · exact and_congr_right fun hk => by rw [hread hk]
  · exact and_congr_right fun hk => by rw [hfill hk]

/-- A tag with the same record claims the same, when its slots are the same to the claim. -/
theorem wantsOne_of_tag {s t : State} {u : TagNo} (htag : t.tag u = s.tag u) (hcfg : t.cfg.slotQuota = s.cfg.slotQuota)
    (hown : ∀ k, (t.slot k).owner = some u ↔ (s.slot k).owner = some u)
    (hread : (s.tag u).kind = .read → ∀ k, (s.slot k).owner = some u →
      ((t.slot k).state = .reserved ↔ (s.slot k).state = .reserved))
    (hwrite : (s.tag u).kind = .write → ∀ k, (s.slot k).owner = some u →
      (t.slot k).state.fillable = (s.slot k).state.fillable) : wantsOne t u ↔ wantsOne s u := by
  refine wantsOne_congr (by rw [htag]) (by rw [htag]; exact ⟨rfl, rfl, rfl, rfl, rfl⟩) hcfg hown (fun hk => ?_) hwrite
  rw [htag, slotsOf_eq_of_iff fun k => ?_]
  rw [hown k]
  exact and_congr_right fun ho => by simpa using hread hk k ho

theorem eligible_congr {s t : State} (hq : t.req.queue = s.req.queue)
    (hheld : ∀ u, (t.tag u).state = .held ↔ (s.tag u).state = .held) (hw : ∀ u, wantsOne t u ↔ wantsOne s u)
    (n : TagNo) : eligible t n ↔ eligible s n := by
  unfold eligible
  simp only [hq, hw, ne_eq, hheld]

/-- Where no slot has become free and every claim is as before, no grant has become due. -/
theorem SlotsGranted.congr {s t : State} (h : SlotsGranted s) (hq : t.req.queue = s.req.queue)
    (hfree : ∀ k, (t.slot k).state = .free → (s.slot k).state = .free)
    (hheld : ∀ u, (t.tag u).state = .held ↔ (s.tag u).state = .held) (hw : ∀ u, wantsOne t u ↔ wantsOne s u) :
    SlotsGranted t :=
  h.imp (fun hs k hk => hs k (hfree k hk)) fun hs n hn => hs n ((eligible_congr hq hheld hw n).1 hn)

/-- What leaves slots, tags, queue and quota as they were leaves no grant due. -/
theorem SlotsGranted.same {s t : State} (h : SlotsGranted s) (hpool : t.pool = s.pool) (htag : ∀ u, t.tag u = s.tag u)
    (hq : t.req.queue = s.req.queue) (hcfg : t.cfg.slotQuota = s.cfg.slotQuota) : SlotsGranted t := by
  have hslot : ∀ k, t.slot k = s.slot k := slot_eq_of_pool hpool
  exact h.congr hq (fun k hk => by rwa [hslot] at hk) (fun u => by rw [htag u]) fun u =>
    wantsOne_of_tag (htag u) hcfg (fun k => by rw [hslot]) (fun _ k _ => by rw [hslot]) fun _ k _ => by rw [hslot]

/-- With an empty queue no tag is eligible. -/
theorem slotsGranted_of_nil {s : State} (h : s.req.queue = []) : SlotsGranted s :=
  .inr fun n hn => by simpa [h] using hn.1

/-! ## The arbiter's choice -/

theorem activate_waitsForSlot (x : Tag) : x.activate.state.waitsForSlot ↔ x.state.waitsForSlot := by
  unfold Tag.activate TagState.waitsForSlot
  split <;> simp_all

/-- A load takes one RESERVED slot as it issues one block. -/
theorem reserved_of_load {s t : State} {n : TagNo} {k : SlotNo} {rest : List SlotNo}
    (h : slotsOf s n (· == .reserved) = k :: rest) (hk : (t.slot k).state ≠ .reserved)
    (hother : ∀ m, m ≠ k → t.slot m = s.slot m) :
    (slotsOf t n (· == .reserved)).length + 1 = (slotsOf s n (· == .reserved)).length := by
  have hnodup : (slotsOf s n (· == .reserved)).Nodup := (List.nodup_finRange 8).filter _
  have hrest : slotsOf t n (· == .reserved) = rest := by
    have he : slotsOf t n (· == .reserved) = (slotsOf s n (· == .reserved)).filter (· ≠ k) := by
      unfold slotsOf
      rw [List.filter_filter]
      refine List.filter_congr fun m _ => ?_
      by_cases hm : m = k
      · subst hm
        simp [hk]
      · simp [hother m hm, hm]
    rw [h] at hnodup
    rw [he, h, List.filter_cons_of_neg (by simp), List.filter_eq_self.2 fun m hm => ?_]
    have hne : m ≠ k := fun e => (List.nodup_cons.1 hnodup).1 (e ▸ hm)
    simpa using hne
  rw [hrest, h]
  rfl

/-- A grant to a tag leaves every claim to a slot as it was. -/
theorem TagGrant.wantsOne_iff {s : State} {n : TagNo} {g : Grant} (h : TagGrant s n g) (u : TagNo) :
    wantsOne (applyGrant g s) u ↔ wantsOne s u := by
  cases h with
  | load k rest hk hc hs =>
    have e := grantLoad_eq n s k rest hs
    have hm : (s.slot k).owner = some n ∧ ((s.slot k).state == .reserved) = true :=
      (mem_slotsOf s n (· == .reserved) k).1 (by rw [hs]; exact List.mem_cons_self ..)
    have hslot : ∀ m, (applyGrant (.load n) s).slot m =
        if m = k then (s.slot k).loadingOf ((s.tag n).firstLbn + (s.tag n).issued) else s.slot m := fun m => by
      simp [applyGrant, e, setSlot_slot]
    have hown : ∀ m, ((applyGrant (.load n) s).slot m).owner = (s.slot m).owner := fun m => by
      rw [hslot]
      split
      · rename_i hmk
        rw [hmk]
        rfl
      · rfl
    have hcfg : (applyGrant (.load n) s).cfg.slotQuota = s.cfg.slotQuota := by simp [applyGrant]
    by_cases hu : u = n
    · subst hu
      have htag : (applyGrant (.load u) s).tag u = (s.tag u).reading := by simp [applyGrant, e]
      refine wantsOne_congr (by rw [htag]; exact activate_waitsForSlot _) (by simp [htag, Tag.reading]) hcfg
        (fun m => by rw [hown]) (fun _ => ?_) fun hk' => by rw [hk] at hk'; cases hk'
      have hlen := reserved_of_load (t := applyGrant (.load u) s) hs (by simp [hslot, Slot.loadingOf])
        fun m hm => by rw [hslot, if_neg hm]
      rw [htag, ← hlen]
      simp only [Tag.reading]
      omega
    · have hne : ∀ m, (s.slot m).owner = some u → m ≠ k := fun m ho e' => by
        rw [e', hm.1] at ho
        exact hu (Option.some.inj ho).symm
      refine wantsOne_of_tag (by simp [applyGrant, e, setTag_tag_other _ _ _ _ hu]) hcfg (fun m => by rw [hown])
        (fun _ m ho => ?_) fun _ m ho => ?_
      all_goals rw [hslot, if_neg (hne m ho)]
  | retry c hk hc ho =>
    have e := grantRetry_eq n s c hc
    refine wantsOne_congr ?_ ?_ (by simp [applyGrant]) (fun m => by simp [applyGrant, e]) ?_ ?_
    all_goals by_cases hu : u = n
    all_goals simp [applyGrant, e, hu, setTag_tag_other, Tag.retrying, slotsOf]
  | checkRead hk hc hi =>
    refine wantsOne_congr ?_ ?_ (by simp [applyGrant]) (fun m => by simp [applyGrant, grantCheckRead_eq]) ?_ ?_
    all_goals by_cases hu : u = n
    all_goals simp [applyGrant, grantCheckRead_eq, hu, setTag_tag_other, Tag.reading, slotsOf, hk,
      activate_waitsForSlot]
  | programSlot k hk hm hp hl =>
    have e := grantProgram_write_eq n s k hk hl
    have ho : (s.slot k).owner = some n ∧ ((s.slot k).state == .full) = true :=
      (mem_slotsOf s n _ k).1 (lowestBound_mem hl)
    have hslot : ∀ m, (applyGrant (.program n) s).slot m =
        if m = k then { s.slot k with state := .programming } else s.slot m := fun m => by
      simp [applyGrant, e, setSlot_slot]
    have hown : ∀ m, ((applyGrant (.program n) s).slot m).owner = (s.slot m).owner := fun m => by
      rw [hslot]
      split
      · rename_i hmk
        rw [hmk]
      · rfl
    have hfull : (s.slot k).state = .full := by simpa using ho.2
    have hcfg : (applyGrant (.program n) s).cfg.slotQuota = s.cfg.slotQuota := by simp [applyGrant]
    have hfill : ∀ m, ((applyGrant (.program n) s).slot m).state.fillable = (s.slot m).state.fillable := fun m => by
      rw [hslot]
      split
      · rename_i hmk
        rw [hmk, hfull]
        rfl
      · rfl
    have hres : ∀ m, ((applyGrant (.program n) s).slot m).state = .reserved ↔ (s.slot m).state = .reserved := fun m => by
      rw [hslot]
      split
      · rename_i hmk
        simp [hmk, hfull]
      · rfl
    by_cases hu : u = n
    · subst hu
      have htag : (applyGrant (.program u) s).tag u = (s.tag u).programming ((s.slot k).lbn.getD 0) (.slot k)
          (translate s ((s.slot k).lbn.getD 0)) := by simp [applyGrant, e]
      exact wantsOne_congr (by rw [htag]; exact activate_waitsForSlot _) (by simp [htag, Tag.programming]) hcfg
        (fun m => by rw [hown]) (fun hk' => by rw [hk] at hk'; cases hk') fun _ m _ => hfill m
    · exact wantsOne_of_tag (by simp [applyGrant, e, setTag_tag_other _ _ _ _ hu]) hcfg (fun m => by rw [hown])
        (fun _ m _ => hres m) fun _ m _ => hfill m
  | programZero hk hm hp hi =>
    refine wantsOne_congr ?_ ?_ (by simp [applyGrant]) (fun m => by simp [applyGrant, grantProgram_zero_eq, hk]) ?_ ?_
    all_goals by_cases hu : u = n
    all_goals simp [applyGrant, grantProgram_zero_eq, hu, setTag_tag_other, Tag.programming, slotsOf, hk,
      activate_waitsForSlot]
  | reallocate b p ps hk hm hb ho hf =>
    have e := grantReallocate_eq n s b p ps hb hf
    refine wantsOne_congr ?_ ?_ (by simp [applyGrant]) (fun m => by simp [applyGrant, e]) ?_ ?_
    all_goals by_cases hu : u = n
    all_goals simp [applyGrant, e, hu, setTag_tag_other, slotsOf]

/-- The arbiter leaves every claim to a slot as it was. -/
theorem arbitrate_wantsOne (s : State) (u : TagNo) : wantsOne (arbitrate s) u ↔ wantsOne s u := by
  rcases arbitrate_cases s with h | ⟨g, -, hg, h⟩
  · rw [h]
  · rw [h]
    rcases (choose_cases hg).records with ⟨n, -, -, hg⟩ | ⟨-, hreq, hpool⟩
    · exact hg.wantsOne_iff u
    · have hcfg : (arbitrate s).cfg = s.cfg := by simp
      rw [h] at hcfg
      have hslot := slot_eq_of_pool hpool
      exact wantsOne_of_tag (tag_eq_of_req hreq u) (by rw [hcfg]) (fun k => by rw [hslot]) (fun _ k _ => by rw [hslot])
        fun _ k _ => by rw [hslot]

theorem arbitrate_held (s : State) (u : TagNo) : ((arbitrate s).tag u).state = .held ↔ (s.tag u).state = .held := by
  rcases arbitrate_tag_state s u with h | ⟨hq, ha, -⟩
  · rw [h]
  · simp [hq, ha]

/-- A slot is FREE after the arbiter's choice exactly if it was before, and has the same owner. -/
theorem arbitrate_slot_owner (s : State) (k : SlotNo) :
    ((arbitrate s).slot k).owner = (s.slot k).owner ∧
      (((arbitrate s).slot k).state = .free ↔ (s.slot k).state = .free) := by
  have h := arbitrate_slot s k
  generalize (arbitrate s).slot k = y at h
  rcases h with rfl | h
  · exact ⟨rfl, .rfl⟩
  · cases h with
    | loading n l ho hs hr => exact ⟨rfl, by simp [Slot.loadingOf, hs]⟩
    | programming n ho hs hr => exact ⟨rfl, by simp [hs]⟩

theorem SlotsGranted.arbitrate {s : State} (h : SlotsGranted s) : SlotsGranted (arbitrate s) :=
  h.congr (by simp) (fun k => (arbitrate_slot_owner s k).2.1) (arbitrate_held s) (arbitrate_wantsOne s)

end Sys2Proof.Machine
end

section
/-! PROOFS. The slot grants of an event, one after another (R30 to R34, R50): what holds of a slot once it is granted, and
stays so to the end of the event. -/
namespace Sys2Proof.Machine

/-! ## One grant -/

/-- No grant raises a tag's slots by more than one, nor those of another tag (R28). -/
theorem heldCount_reserveSlot (n : SlotNo) (v u : TagNo) (s : State) :
    heldCount (reserveSlot n v s) u ≤ heldCount s u + if u = v then 1 else 0 := by
  have hsub : slotsOf (reserveSlot n v s) u (fun _ => true) ⊆
      slotsOf s u (fun _ => true) ++ if u = v then [n] else [] := fun k hk => by
    rw [mem_slotsOf, reserveSlot_slot] at hk
    rw [List.mem_append, mem_slotsOf]
    by_cases hkn : k = n
    · rw [if_pos hkn] at hk
      rw [if_pos (Option.some.inj hk.1).symm]
      exact .inr (by simp [hkn])
    · rw [if_neg hkn] at hk
      exact .inl hk
  have hnodup : (slotsOf (reserveSlot n v s) u fun _ => true).Nodup := (List.nodup_finRange 8).filter _
  have hlen := (hnodup.subperm hsub).length_le
  rw [List.length_append] at hlen
  unfold heldCount
  split at hlen <;> simpa [*] using hlen

/-- A grant takes no slot from a tag: the slots it had it has. -/
theorem slotsOf_reserveSlot_sublist {n : SlotNo} {s : State} (v u : TagNo) (p : SlotState → Bool)
    (hn : s.slot n = Slot.free) : (slotsOf s u p).Sublist (slotsOf (reserveSlot n v s) u p) := by
  unfold slotsOf
  refine List.monotone_filter_right _ fun k hk => ?_
  rw [reserveSlot_slot]
  by_cases hkn : k = n
  · rw [hkn, hn] at hk
    simp [Slot.free] at hk
  · rwa [if_neg hkn]

/-- What a tag wants after a grant it wanted before: grants only use up claims (R31). -/
theorem wantsOne_of_reserveSlot {n : SlotNo} {v u : TagNo} {s : State} (hn : s.slot n = Slot.free)
    (h : wantsOne (reserveSlot n v s) u) : wantsOne s u := by
  obtain ⟨hst, hab, hheld, hk⟩ := h
  simp only [reserveSlot_records, reserveSlot_keeps] at hst hab hheld hk
  have hcount : heldCount s u ≤ heldCount (reserveSlot n v s) u :=
    (slotsOf_reserveSlot_sublist v u (fun _ => true) hn).length_le
  refine ⟨hst, hab, by omega, hk.imp (fun ⟨hkind, hlt⟩ => ⟨hkind, ?_⟩) fun ⟨hkind, hwp, hlt, hall⟩ =>
    ⟨hkind, hwp, hlt, fun k ho => ?_⟩⟩
  · have hlen := (slotsOf_reserveSlot_sublist v u (· == .reserved) hn).length_le
    omega
  · have hkn : k ≠ n := fun e => by
      rw [e, hn] at ho
      cases ho
    have hk := hall k
    rw [reserveSlot_slot, if_neg hkn] at hk
    exact hk ho

/-! ## A slot that was granted -/

/-- A slot that is granted to a tag (R30 to R34, R50): it is RESERVED and empty, no lower slot is FREE, the tag holds no more
than the quota and is a READ tag or a WRITE tag of the service list, and no tag with a better claim still wants a slot. -/
structure GrantedTo (s : State) (k : SlotNo) (u : TagNo) : Prop where
  slot : s.slot k = reservedFor u
  lower : ∀ m, m.val < k.val → (s.slot m).state ≠ .free
  quota : heldCount s u ≤ s.cfg.slotQuota
  kind : (s.tag u).kind = .read ∨ (s.tag u).kind = .write
  service : (s.tag u).kind = .write → u ∈ s.svc.list
  place : ∃ pre post, s.req.queue = pre ++ u :: post ∧
    ∀ w ∈ pre, wantsOne s w → (s.tag w).state = .held ∧ (s.tag u).state ≠ .held
  heldLast : (s.tag u).state = .held → ∀ w ∈ s.req.queue, wantsOne s w → (s.tag w).state = .held

/-- The head of the slot-wait list in the words of R32 and R33. -/
theorem slotWait_head {s : State} {u : TagNo} {rest : List TagNo} (h : slotWait s = u :: rest) :
    wantsOne s u ∧ (∃ pre post, s.req.queue = pre ++ u :: post ∧
      ∀ w ∈ pre, wantsOne s w → (s.tag w).state = .held ∧ (s.tag u).state ≠ .held) ∧
    ((s.tag u).state = .held → ∀ w ∈ s.req.queue, wantsOne s w → (s.tag w).state = .held) := by
  have hel : eligible s u := (mem_slotWait s u).1 (h ▸ List.mem_cons_self ..)
  obtain ⟨hq, hw, hlast⟩ := hel
  refine ⟨hw, ?_, fun hheld w hwq hww => by_contra fun hne => hlast hheld w hwq hne hww⟩
  unfold slotWait at h
  dsimp only at h
  split at h
  · rename_i hrun
    have hall : ∀ w ∈ s.req.queue, wantsOne s w → (s.tag w).state = .held := fun w hwq hww => by
      have hm := List.filter_eq_nil_iff.1 (List.isEmpty_iff.1 hrun) w
        (List.mem_filter.2 ⟨hwq, (wantsSlot_iff s w).2 hww⟩)
      simpa using hm
    obtain ⟨pre, post, hsplit, hpre, -⟩ := List.filter_eq_cons_iff.1 h
    exact ⟨pre, post, hsplit, fun w hwp hww => absurd ((wantsSlot_iff s w).2 hww) (hpre w hwp)⟩
  · rw [List.filter_filter] at h
    obtain ⟨pre, post, hsplit, hpre, hu, -⟩ := List.filter_eq_cons_iff.1 h
    simp only [Bool.and_eq_true, bne_iff_ne, ne_eq] at hu hpre
    refine ⟨pre, post, hsplit, fun w hwp hww => ⟨by_contra fun hne => hpre w hwp ⟨hne, ?_⟩, hu.1⟩⟩
    exact (wantsSlot_iff s w).2 hww

/-- The free-slot list names the lowest FREE slot first (R29). -/
theorem freeSlots_head_lowest {s : State} {n : SlotNo} {ns : List SlotNo} (h : freeSlots s = n :: ns) {m : SlotNo}
    (hm : m < n) : (s.slot m).state ≠ .free := by
  intro hf
  have hs : (freeSlots s).Pairwise (· < ·) := (List.pairwise_lt_finRange 8).filter _
  have hin : m ∈ freeSlots s := (mem_freeSlots s m).2 hf
  rw [h] at hs hin
  rcases List.mem_cons.1 hin with rfl | hin
  · exact lt_irrefl _ hm
  · exact lt_asymm hm ((List.pairwise_cons.1 hs).1 m hin)

/-- A grant of the lowest FREE slot to the first tag that waits. -/
theorem grantedTo_reserveSlot {s : State} {n : SlotNo} {v : TagNo} {ns : List SlotNo} {vs : List TagNo} (hok : SlotsOk s)
    (hn : freeSlots s = n :: ns) (hv : slotWait s = v :: vs) : GrantedTo (reserveSlot n v s) n v := by
  obtain ⟨hw, ⟨pre, post, hq, hpre⟩, hlast⟩ := slotWait_head hv
  have hfree : s.slot n = Slot.free := hok n ((mem_freeSlots s n).1 (hn ▸ List.mem_cons_self ..))
  refine ⟨by rw [reserveSlot_slot, if_pos rfl]; rfl, fun m hm => ?_, ?_, ?_, fun hk => ?_, ⟨pre, post, by simpa using hq,
    fun w hwp hww => ?_⟩, fun hheld w hwq hww => ?_⟩
  · rw [reserveSlot_slot, if_neg (fun e => by rw [e] at hm; exact lt_irrefl _ hm)]
    exact fun hf => freeSlots_head_lowest hn hm hf
  · have hle := heldCount_reserveSlot n v v s
    have hlt := hw.2.2.1
    simp only [reserveSlot_keeps]
    rw [if_pos rfl] at hle
    omega
  · simpa using hw.2.2.2.imp And.left And.left
  · simp only [reserveSlot_records] at hk
    unfold reserveSlot
    simp only [setSlot_tag, hk]
    exact (mem_serviceAppend v v _).2 (.inl rfl)
  · simpa using hpre w hwp (wantsOne_of_reserveSlot hfree hww)
  · simp only [reserveSlot_records, reserveSlot_keeps] at hheld hwq ⊢
    exact hlast hheld w hwq (wantsOne_of_reserveSlot hfree hww)

/-- A later grant leaves a slot granted that was. -/
theorem GrantedTo.reserveSlot {s : State} {k n : SlotNo} {u v : TagNo} {vs : List TagNo} (h : GrantedTo s k u)
    (hfree : s.slot n = Slot.free) (hv : slotWait s = v :: vs) : GrantedTo (reserveSlot n v s) k u := by
  obtain ⟨hw, -, -⟩ := slotWait_head hv
  obtain ⟨pre, post, hq, hpre⟩ := h.place
  refine ⟨?_, fun m hm => ?_, ?_, by simpa using h.kind, fun hk => ?_, ⟨pre, post, by simpa using hq,
    fun w hwp hww => ?_⟩, fun hheld w hwq hww => ?_⟩
  · rw [reserveSlot_slot, if_neg, h.slot]
    rintro rfl
    rw [h.slot] at hfree
    cases hfree
  · rw [reserveSlot_slot]
    split
    · exact nofun
    · exact h.lower m hm
  · have hle := heldCount_reserveSlot n v u s
    have hquota := h.quota
    have hlt := hw.2.2.1
    simp only [reserveSlot_keeps]
    by_cases huv : u = v
    · subst huv
      rw [if_pos rfl] at hle
      omega
    · rw [if_neg huv] at hle
      omega
  · exact reserveSlot_svc_of_mem n v u s (h.service (by simpa using hk))
  · simpa using hpre w hwp (wantsOne_of_reserveSlot hfree hww)
  · simp only [reserveSlot_records, reserveSlot_keeps] at hheld hwq ⊢
    exact h.heldLast hheld w hwq (wantsOne_of_reserveSlot hfree hww)

theorem SlotsOk.reserveSlot {s : State} (h : SlotsOk s) (n : SlotNo) (v : TagNo) : SlotsOk (reserveSlot n v s) :=
  fun k hk => by
    rw [reserveSlot_slot] at hk ⊢
    split at hk
    · cases hk
    · rename_i hkn
      rw [if_neg hkn]
      exact h k hk

/-! ## All grants of an event -/

/-- The grants of an event, in their order: `s` leads to `t` by granting, each time, the lowest FREE slot to the first tag
that waits (R34). -/
inductive Grants : State → State → Prop
  | done (s : State) : Grants s s
  | grant {s t : State} (n : SlotNo) (v : TagNo) (ns : List SlotNo) (vs : List TagNo) : freeSlots s = n :: ns →
      slotWait s = v :: vs → Grants (reserveSlot n v s) t → Grants s t

theorem grantSlots_grants (fuel : Nat) (s : State) : Grants s (grantSlots fuel s) := by
  induction fuel generalizing s with
  | zero => exact .done s
  | succ fuel ih =>
    unfold grantSlots
    split
    · rename_i n ns v vs hn hv
      exact .grant n v ns vs hn hv (ih _)
    · exact .done s

theorem Grants.slotsOk {s t : State} (h : Grants s t) (hok : SlotsOk s) : SlotsOk t := by
  induction h with
  | done s => exact hok
  | grant n v ns vs hn hv _ ih => exact ih (hok.reserveSlot n v)

theorem Grants.granted {s t : State} (h : Grants s t) (hok : SlotsOk s) {k : SlotNo} {u : TagNo}
    (hk : GrantedTo s k u) : GrantedTo t k u := by
  induction h with
  | done s => exact hk
  | grant n v ns vs hn hv _ ih =>
    exact ih (hok.reserveSlot n v) (hk.reserveSlot (hok n ((mem_freeSlots _ n).1 (hn ▸ List.mem_cons_self ..))) hv)

/-- A slot that the grants of an event have changed is granted to a tag. -/
theorem Grants.changed {s t : State} (h : Grants s t) (hok : SlotsOk s) {k : SlotNo} (hk : t.slot k ≠ s.slot k) :
    ∃ u, GrantedTo t k u := by
  induction h with
  | done s => exact absurd rfl hk
  | @grant s t n v ns vs hn hv hrest ih =>
    by_cases hkn : k = n
    · subst hkn
      exact ⟨v, hrest.granted (hok.reserveSlot k v) (grantedTo_reserveSlot hok hn hv)⟩
    · exact ih (hok.reserveSlot n v) (by rwa [reserveSlot_slot, if_neg hkn])

/-- A slot that is not FREE is granted to no one else. -/
theorem Grants.slot_kept {s t : State} (h : Grants s t) {k : SlotNo} (hk : (s.slot k).state ≠ .free) :
    t.slot k = s.slot k := by
  induction h with
  | done s => rfl
  | @grant s t n v ns vs hn hv hrest ih =>
    have hkn : k ≠ n := fun e => hk (e ▸ (mem_freeSlots s n).1 (hn ▸ List.mem_cons_self ..))
    have hslot : (Machine.reserveSlot n v s).slot k = s.slot k := by rw [reserveSlot_slot, if_neg hkn]
    rw [ih (by rwa [hslot]), hslot]

/-- No tag that is granted a slot comes to hold more than the quota (R28), whatever the FREE slots held before. -/
theorem Grants.within_quota {s t : State} (h : Grants s t) {u : TagNo} :
    (heldCount s u ≤ s.cfg.slotQuota → heldCount t u ≤ s.cfg.slotQuota) ∧
    ∀ k, (s.slot k).state = .free → (t.slot k).state ≠ .free → (t.slot k).owner = some u →
      heldCount t u ≤ s.cfg.slotQuota := by
  induction h with
  | done s => exact ⟨id, fun k hf hn => absurd hf hn⟩
  | @grant s t n v ns vs hn hv hrest ih =>
    obtain ⟨hkeep, hnew⟩ := ih
    simp only [reserveSlot_keeps] at hkeep hnew
    have hlt := (slotWait_head hv).1.2.2.1
    have hle := heldCount_reserveSlot n v u s
    have hafter : heldCount s u ≤ s.cfg.slotQuota → heldCount (Machine.reserveSlot n v s) u ≤ s.cfg.slotQuota :=
        fun h => by
      by_cases huv : u = v
      · subst huv
        rw [if_pos rfl] at hle
        omega
      · rw [if_neg huv] at hle
        omega
    refine ⟨fun h => hkeep (hafter h), fun k hf hne ho => ?_⟩
    by_cases hkn : k = n
    · subst hkn
      have hslot : t.slot k = reservedFor v := by
        have := hrest.slot_kept (k := k) (by rw [reserveSlot_slot, if_pos rfl]; exact nofun)
        rw [this, reserveSlot_slot, if_pos rfl]
        rfl
      rw [hslot] at ho
      cases ho
      exact hkeep (hafter (by omega))
    · exact hnew k (by rwa [reserveSlot_slot, if_neg hkn]) hne ho

end Sys2Proof.Machine
end

section
/-! PROOFS. What the effects of an event can do to a slot, and that they latch causes but clear none (R29, R195). -/
namespace Sys2Proof.Machine

/-! ## Slots -/

/-- What an event's own effects can make of a slot, before the slot grants: nothing; it is freed (R29); it loses its owner at
a soft reset (R47); it is put to a use other than RESERVED, which only a slot grant makes (R34). -/
inductive Slot.Stepped (x : Slot) : Slot → Prop
  | same : Stepped x x
  | freed : Stepped x Slot.free
  | disowned : Stepped x { x with owner := none }
  | used (y : Slot) : y.state ≠ .free → y.state ≠ .reserved → Stepped x y

theorem Slot.Stepped.trans {x y z : Slot} (h : x.Stepped y) (h' : y.Stepped z) : x.Stepped z := by
  cases h' with
  | same => exact h
  | freed => exact .freed
  | used z hf hr => exact .used z hf hr
  | disowned =>
    cases h with
    | same => exact .disowned
    | freed => exact .freed
    | disowned => exact .disowned
    | used y hf hr => exact .used _ hf hr

/-- A slot that is FREE only when it is empty stays so (R29). -/
theorem Slot.Stepped.free_eq {x y : Slot} (h : x.Stepped y) (hx : x.state = .free → x = Slot.free)
    (hy : y.state = .free) : y = Slot.free := by
  cases h with
  | same => exact hx hy
  | freed => rfl
  | disowned => rw [hx hy]; rfl
  | used y hf hr => exact absurd hy hf

/-- An owned RESERVED slot is what it was before. -/
theorem Slot.Stepped.eq_of_reserved {x y : Slot} {u : TagNo} (h : x.Stepped y) (hr : y.state = .reserved)
    (ho : y.owner = some u) : y = x := by
  cases h with
  | same => rfl
  | freed => cases hr
  | disowned => cases ho
  | used y _ hne => exact absurd hr hne

/-! ## Effects -/

/-- The slots step, and no cause is cleared. -/
structure EventEffect (s t : State) : Prop where
  slots : ∀ k, (s.slot k).Stepped (t.slot k)
  causes : ∀ k, s.attn.latched.getLsbD k = true → t.attn.latched.getLsbD k = true

theorem EventEffect.refl (s : State) : EventEffect s s := ⟨fun _ => .same, fun _ => id⟩

theorem EventEffect.trans {s t u : State} (h : EventEffect s t) (h' : EventEffect t u) : EventEffect s u :=
  ⟨fun k => (h.slots k).trans (h'.slots k), fun k hk => h'.causes k (h.causes k hk)⟩

theorem EventEffect.of_pool {s t : State} (hp : t.pool = s.pool)
    (hc : ∀ k, s.attn.latched.getLsbD k = true → t.attn.latched.getLsbD k = true) : EventEffect s t :=
  ⟨fun k => slot_eq_of_pool hp k ▸ .same, hc⟩

theorem EventEffect.of_eq {s t : State} (hp : t.pool = s.pool) (ha : t.attn = s.attn) : EventEffect s t :=
  .of_pool hp fun k hk => by rwa [ha]

/-- What changes neither slots nor causes may go before an effect. -/
theorem EventEffect.after {s t u : State} (h : EventEffect t u) (hp : t.pool = s.pool) (ha : t.attn = s.attn) :
    EventEffect s u := (EventEffect.of_eq hp ha).trans h

/-- Each slot is as before or is freed. -/
theorem EventEffect.of_freed {s t : State} (hs : ∀ k, t.slot k = s.slot k ∨ t.slot k = Slot.free)
    (ha : t.attn = s.attn) : EventEffect s t := by
  refine ⟨fun k => ?_, fun k hk => by rwa [ha]⟩
  rcases hs k with e | e <;> rw [e]
  · exact .same
  · exact .freed

/-- One slot is put to use. -/
theorem setSlot_effect (s : State) (n : SlotNo) (y : Slot) (hf : y.state ≠ .free) (hr : y.state ≠ .reserved) :
    EventEffect s (s.setSlot n y) := by
  refine ⟨fun k => ?_, fun _ => id⟩
  rw [setSlot_slot]
  split
  · exact .used y hf hr
  · exact .same

/-! ## The shared operations -/

theorem latch_effect (c : Cause) (s : State) : EventEffect s (latch c s) := .of_pool rfl (latch_keeps_bits c s)

theorem completeCommand_effect (code : BitVec 8) (r : CmdResult) (s : State) :
    EventEffect s (completeCommand code r s) :=
  (latch_effect .command { s with cmd := { s.cmd with running := none, result := r, resultCode := code } }).after rfl rfl

theorem setPatrolStatus_effect (st : PatrolStatus) (s : State) : EventEffect s (setPatrolStatus st s) :=
  .of_pool (by simp) fun _ => setPatrolStatus_keeps_bits

theorem finish_effect (n : TagNo) (st : Status) (s : State) : EventEffect s (finish n st s) :=
  .of_freed (fun k => by rw [finish_slot_eq]; exact (ite_eq_or_eq ..).symm) rfl

theorem freeSlotsOf_effect (n : TagNo) (p : SlotState → Bool) (s : State) : EventEffect s (freeSlotsOf n p s) :=
  .of_freed (fun k => by rw [freeSlotsOf_slot_eq]; exact (ite_eq_or_eq ..).symm) rfl

theorem freeDataSlot_effect (d : DataPlace) (s : State) : EventEffect s (freeDataSlot d s) :=
  .of_freed (fun k => by rw [freeDataSlot_slot]; exact (ite_eq_or_eq ..).symm) (by simp)

theorem resolveOwed_effect (s : State) : EventEffect s (resolveOwed s) :=
  .of_freed (resolveOwed_slot_cases s) (by simp)

theorem becomeReadOnly_effect (s : State) : EventEffect s (becomeReadOnly s) := by
  have hcauses : ∀ k, s.attn.latched.getLsbD k = true → (becomeReadOnly s).attn.latched.getLsbD k = true := fun k hk => by
    unfold becomeReadOnly
    refine failWaitingCommand_keeps_bits (haltPatrol_keeps_bits ?_)
    rw [foldl_attn _ (fun s t => by simp)]
    exact latch_keeps_bits .fault _ k hk
  refine ⟨fun k => ?_, hcauses⟩
  rw [becomeReadOnly_slot]
  split
  · exact .freed
  · exact .same

theorem checkSequence_effect (s : State) : EventEffect s (checkSequence s) := by
  unfold checkSequence
  split
  · exact becomeReadOnly_effect s
  · exact .refl s

theorem endStartUp_effect (s : State) : EventEffect s (endStartUp s) :=
  (latch_effect .start s).trans (.of_eq (by simp [endStartUp]) (by simp [endStartUp]))

/-! ## The completion of a read -/

theorem fillSlot_effect (n : TagNo) (pbn : Nat) (d : DataPlace) (s : State) : EventEffect s (fillSlot n pbn d s) := by
  cases d with
  | slot k =>
    rw [fillSlot_eq]
    have hslot : EventEffect s (filledSlot s pbn k) :=
      (EventEffect.of_eq (t := (blockWords s pbn).2) (by simp) (by simp)).trans (setSlot_effect _ k _ nofun nofun)
    exact hslot.trans (.of_eq (by simp) (by simp))
  | patrolBuffer | imageBuffer | zeroSource | none => exact .refl s

theorem endRead_effect (n : TagNo) (s : State) : EventEffect s (endRead n s) := by
  unfold endRead
  split
  · exact finish_effect ..
  · exact .of_eq (by simp) (by simp)

theorem readTagFinal_effect (n : TagNo) (o : ArrayOp) (c : ReadClass) (s : State) :
    EventEffect s (readTagFinal n o c s) := by
  unfold readTagFinal
  dsimp only
  split
  · have hfill := fillSlot_effect n o.pbn o.data s
    split
    · exact hfill.trans (endRead_effect n _)
    · exact hfill
  · exact ((freeDataSlot_effect o.data s).trans (freeSlotsOf_effect n _ _)).trans (endRead_effect n _)

theorem tagReadFinal_effect (n : TagNo) (o : ArrayOp) (l : Nat) (c : ReadClass) (s : State) :
    EventEffect s (tagReadFinal n o l c s) := by
  have htaken : EventEffect s (readTaken n l c s) := .of_eq (by simp [readTaken]) (by simp [readTaken])
  unfold tagReadFinal
  dsimp only
  split
  · exact htaken.trans (finish_effect n _ _)
  · split
    · exact htaken.trans (readTagFinal_effect n o c _)
    · split
      · exact htaken.trans (finish_effect n _ _)
      · exact htaken
    · exact htaken
    · exact htaken

theorem tagReadDone_effect (n : TagNo) (o : ArrayOp) (out : ReadOutcome) (s : State) :
    EventEffect s (tagReadDone n o out s) := by
  unfold tagReadDone
  dsimp only
  split
  · exact .refl s
  · split
    · exact .of_eq rfl rfl
    · exact tagReadFinal_effect ..

theorem startGap_effect (s : State) : EventEffect s (startGap s) := by
  unfold startGap
  split
  · exact (setPatrolStatus_effect ..).after rfl rfl
  · exact .of_eq rfl rfl

theorem testEnds_effect (l : Nat) (s : State) : EventEffect s (testEnds l s) := by
  have hpass : EventEffect s (passEnd s) :=
    (setPatrolStatus_effect .passDone (commitReason (s.bump CondId.patrolPasses))).after rfl rfl
  unfold testEnds
  split
  · split
    · exact .refl s
    · split
      · exact (setPatrolStatus_effect .segmentDone (patrolIdle s)).after rfl rfl
      · exact .refl s
    · split
      · exact hpass.trans ((checkSequence_effect (patrolIdle (passEnd s))).after rfl rfl)
      · exact .refl s
    · split
      · exact (hpass.trans (startGap_effect _)).trans (checkSequence_effect _)
      · exact .refl s
  · exact .refl s

theorem patrolReadDone_effect (o : ArrayOp) (out : ReadOutcome) (s : State) : EventEffect s (patrolReadDone o out s) := by
  unfold patrolReadDone
  dsimp only
  split
  · exact .refl s
  · rename_i r _
    split
    · exact .of_eq rfl rfl
    · have hclose : EventEffect s
          (if keepsWords s r (classify (decide (0 < r.retries)) out) then
            fillBuffer r.lbn o.pbn (closeBgRead r (classify (decide (0 < r.retries)) out) s)
          else closeBgRead r (classify (decide (0 < r.retries)) out) s) := by
        split
        · exact .of_eq (by simp [fillBuffer_eq]) (by simp [fillBuffer_eq])
        · exact .of_eq (by simp) (by simp)
      split
      · exact hclose.trans (testEnds_effect ..)
      · exact hclose

theorem ringTaken_effect (o : ArrayOp) (out : ReadOutcome) (s : State) : EventEffect s (ringTaken o out s) := by
  have hconsider : ∀ p i t, EventEffect t (considerImage p i t) := fun p i t => by
    rcases considerImage_cases p i t with e | e <;> rw [e] <;> exact .of_eq rfl rfl
  unfold ringTaken
  split
  · exact .refl s
  · split
    · exact (hconsider ..).after rfl rfl
    · exact .of_eq rfl rfl
    · exact .of_eq rfl rfl

theorem endScan_effect (s : State) : EventEffect s (endScan s) := by
  unfold endScan
  split
  · unfold loadImage
    dsimp only
    exact (endStartUp_effect _).after (by simp) (by simp)
  · exact .of_eq rfl rfl

theorem ringReadDone_effect (o : ArrayOp) (out : ReadOutcome) (s : State) : EventEffect s (ringReadDone o out s) := by
  rw [ringReadDone_eq]
  split
  · exact (ringTaken_effect o out s).trans (.of_eq rfl rfl)
  · exact (ringTaken_effect o out s).trans (endScan_effect _)

theorem readDone_effect (o : ArrayOp) (out : ReadOutcome) (s : State) : EventEffect s (readDone o out s) := by
  unfold readDone
  split
  · exact tagReadDone_effect ..
  · exact patrolReadDone_effect ..
  · exact ringReadDone_effect ..
  · unfold orphanReadDone
    split
    · exact .refl s
    · exact (freeDataSlot_effect ..).after (by simp) (by simp)

/-! ## The completion of a program -/

theorem tagBlockPasses_effect (n : TagNo) (r : Bool) (s : State) : EventEffect s (tagBlockPasses n r s) := by
  cases hb : (s.tag n).prog with
  | none =>
    unfold tagBlockPasses
    rw [hb]
    exact .refl s
  | some b =>
    rw [tagBlockPasses_eq hb]
    have hpassed : EventEffect s (blockPassed n b r s) :=
      .of_freed (fun k => by rw [blockPassed_slot]; exact (ite_eq_or_eq ..).symm) (by simp [blockPassed])
    refine hpassed.trans (.of_freed (afterPass_slot n _) ?_)
    rcases afterPass_cases n (blockPassed n b r s) with ⟨st, e⟩ | e | e <;> rw [e] <;> rfl

theorem tagOwes_effect (n : TagNo) (s : State) : EventEffect s (tagOwes n s) :=
  (resolveOwed_effect (s.modTag n Tag.owing)).after rfl rfl

theorem refreshOwes_effect (s : State) : EventEffect s (refreshOwes s) :=
  (resolveOwed_effect { s with patrol := s.patrol.owing }).after rfl rfl

theorem tagProgramDone_effect (n : TagNo) (l pbn : Nat) (r : Bool) (out : ProgramOutcome) (s : State) :
    EventEffect s (tagProgramDone n l pbn r out s) := by
  cases out <;> cases r
  case pass.false => exact (tagBlockPasses_effect n false _).after (by simp) (by simp)
  case fail.false => exact (tagOwes_effect n _).after (by simp) (by simp)
  case pass.true =>
    refine EventEffect.trans ?_ (checkSequence_effect _)
    refine EventEffect.trans ?_ (resolveOwed_effect _)
    exact (tagBlockPasses_effect n true _).after (by simp) (by simp)
  case fail.true =>
    refine EventEffect.trans ?_ (checkSequence_effect _)
    exact (tagOwes_effect n _).after (by simp) (by simp)

theorem refreshDone_effect (l pbn : Nat) (r : Bool) (out : ProgramOutcome) (s : State) :
    EventEffect s (refreshDone l pbn r out s) := by
  cases out <;> cases r
  case pass.false => exact .of_eq (by simp [refreshDone, endRefresh]) (by simp [refreshDone, endRefresh])
  case fail.false => exact (refreshOwes_effect _).after (by simp) (by simp)
  case pass.true =>
    refine EventEffect.trans ?_ (checkSequence_effect _)
    exact (resolveOwed_effect _).after (by simp [endRefresh]) (by simp [endRefresh])
  case fail.true =>
    refine EventEffect.trans ?_ (checkSequence_effect _)
    exact (refreshOwes_effect _).after (by simp) (by simp)

theorem orphanProgramDone_effect (l pbn : Nat) (r : Bool) (d : DataPlace) (out : ProgramOutcome) (s : State) :
    EventEffect s (orphanProgramDone l pbn r d out s) := by
  cases out <;> cases r
  case pass.false | fail.false => exact (freeDataSlot_effect d _).after (by simp) (by simp)
  case pass.true | fail.true =>
    refine EventEffect.trans ?_ (checkSequence_effect _)
    refine EventEffect.trans ?_ (resolveOwed_effect _)
    exact (freeDataSlot_effect d _).after (by simp) (by simp)

theorem patrolProgramDone_effect (l pbn : Nat) (r : Bool) (out : ProgramOutcome) (s : State) :
    EventEffect s (patrolProgramDone l pbn r out s) := by
  unfold patrolProgramDone
  split
  · exact refreshDone_effect ..
  · dsimp only
    split
    · exact (orphanProgramDone_effect ..).trans (.of_eq rfl rfl)
    · exact orphanProgramDone_effect ..

theorem releaseCommand_effect (q : Nat) (s : State) : EventEffect s (releaseCommand q s) := by
  unfold releaseCommand
  split
  · exact .refl s
  · split
    · exact .refl s
    · split
      · exact completeCommand_effect ..
      · exact .refl s

theorem commitReleased_effect (c : Commit) (s : State) : EventEffect s (commitReleased c s) := by
  refine EventEffect.trans (EventEffect.of_freed (fun k => ?_) ?_) (releaseCommand_effect c.sequence _)
  · rw [foldl_releaseWaiter_slot]
    exact (ite_eq_or_eq ..).symm
  · simp

theorem commitPass_effect (s : State) : EventEffect s (commitPass s) := by
  cases hc : s.jrnl.commit with
  | none =>
    unfold commitPass
    rw [hc]
    exact .refl s
  | some c =>
    rw [commitPass_eq hc]
    split
    · exact (commitReleased_effect c s).trans (endStartUp_effect _)
    · exact commitReleased_effect c s

theorem commitFail_effect (s : State) : EventEffect s (commitFail s) := by
  cases hc : s.jrnl.commit with
  | none =>
    unfold commitFail
    rw [hc]
    exact .refl s
  | some c =>
    have hdrop : EventEffect s (commitDropped s) := .of_eq rfl rfl
    rw [commitFail_eq hc]
    split
    · exact hdrop
    · split
      · exact .of_eq rfl rfl
      · split
        · exact (hdrop.trans (becomeReadOnly_effect _)).trans (endStartUp_effect _)
        · exact hdrop.trans (becomeReadOnly_effect _)

theorem programDone_effect (o : ArrayOp) (out : ProgramOutcome) (s : State) : EventEffect s (programDone o out s) := by
  unfold programDone
  dsimp only
  split
  · exact tagProgramDone_effect ..
  · exact patrolProgramDone_effect ..
  · split
    · exact commitPass_effect s
    · exact commitFail_effect s
  · exact orphanProgramDone_effect ..

end Sys2Proof.Machine
end

section
/-! PROOFS. What every command does to the slots, to the claims on them, and to the latched causes: its effects, then the
slot grants that have become due, then the arbiter's choice (R29, R34, R68, R195). -/
namespace Sys2Proof.Machine

/-- How a command ends. `plain`: it steps the slots, clears causes only if `clears`, and makes no grant due. `settled`: after
its effects the slot grants and the arbiter's choice follow. -/
inductive Closed (clears : Prop) (s t : State) : Prop
  | plain : (∀ k, (s.slot k).Stepped (t.slot k)) →
      (¬ clears → ∀ k, s.attn.latched.getLsbD k = true → t.attn.latched.getLsbD k = true) →
      (SlotsGranted s → SlotsGranted t) → Closed clears s t
  | settled (s₀ x : State) : EventEffect s x → t = arbitrate (latchHealth s₀ (grantSlots 8 x)) → Closed clears s t

/-- Slots, tags, queue and quota are as before, and no cause is cleared. -/
structure Undisturbed (s t : State) : Prop where
  pool : t.pool = s.pool
  tags : ∀ u, t.tag u = s.tag u
  queue : t.req.queue = s.req.queue
  quota : t.cfg.slotQuota = s.cfg.slotQuota
  causes : ∀ k, s.attn.latched.getLsbD k = true → t.attn.latched.getLsbD k = true

variable {P : Prop}

theorem Closed.of_effect {s t : State} (h : EventEffect s t) (hg : SlotsGranted s → SlotsGranted t) : Closed P s t :=
  .plain h.slots (fun _ => h.causes) hg

theorem Closed.refl (s : State) : Closed P s s := .of_effect (.refl s) id

theorem Closed.of_undisturbed {s t : State} (h : Undisturbed s t) : Closed P s t :=
  .of_effect (.of_pool h.pool h.causes) fun hg => hg.same h.pool h.tags h.queue h.quota

/-- What leaves requests, slots, quota and causes as they were disturbs nothing. -/
theorem Undisturbed.of_eq {s t : State} (hreq : t.req = s.req) (hpool : t.pool = s.pool) (hcfg : t.cfg = s.cfg)
    (ha : ∀ k, s.attn.latched.getLsbD k = true → t.attn.latched.getLsbD k = true) : Undisturbed s t :=
  ⟨hpool, tag_eq_of_req hreq, by rw [hreq], by rw [hcfg], ha⟩

theorem Closed.settle {s x : State} (h : EventEffect s x) (s₀ : State) : Closed P s (settle s₀ x) :=
  .settled s₀ (closeQueue s₀ x) (h.trans (.of_eq (by simp) (by simp))) rfl

theorem arbitrate_effect (s : State) : EventEffect s (arbitrate s) := by
  refine ⟨fun k => ?_, fun k hk => by simpa using hk⟩
  have h := arbitrate_slot s k
  generalize (arbitrate s).slot k = y at h
  rcases h with rfl | h
  · exact .same
  · cases h with
    | loading n l ho hs hr => exact .used _ nofun nofun
    | programming n ho hs hr => exact .used _ nofun nofun

/-- After a plain command the arbiter may still choose. -/
theorem Closed.arbitrate_plain {s x : State} (hs : ∀ k, (s.slot k).Stepped (x.slot k))
    (hc : ¬ P → ∀ k, s.attn.latched.getLsbD k = true → x.attn.latched.getLsbD k = true)
    (hg : SlotsGranted s → SlotsGranted x) : Closed P s (arbitrate x) :=
  .plain (fun k => (hs k).trans ((arbitrate_effect x).slots k))
    (fun hp k hk => (arbitrate_effect x).causes k (hc hp k hk)) fun h => (hg h).arbitrate

theorem Closed.arbitrate {s x : State} (h : Undisturbed s x) : Closed P s (Machine.arbitrate x) := by
  have he := EventEffect.of_pool h.pool h.causes
  exact .arbitrate_plain he.slots (fun _ => he.causes) fun hg => hg.same h.pool h.tags h.queue h.quota

/-- The slot grants of an event in which no condition trips (R35). -/
theorem Closed.granted {s x : State} (h : EventEffect s x) :
    Closed P s (Machine.arbitrate (grantSlots 8 x)) := by
  refine .settled x x h ?_
  rw [latchHealth_of_cond x (grantSlots 8 x) (by simp)]

/-! ## Requests -/

theorem submit_closed (v : Word) (s : State) : Closed P s (submit v s) := by
  unfold submit
  split
  · exact .of_undisturbed ⟨rfl, fun _ => rfl, rfl, rfl, fun _ => id⟩
  · refine .settle (.of_eq ?_ ?_) _ <;>
      simp [accept_eq, setQResult, enqueued, numbered, endQuiet, apply_ite State.pool, apply_ite State.attn, renumber]

theorem foldl_abortTag_effect (l : List TagNo) (s : State) : EventEffect s (l.foldl abortTag s) :=
  .of_freed (fun k => by rw [foldl_abortTag_slot]; exact (ite_eq_or_eq ..).symm)
    (foldl_attn _ (fun s t => by simp) l s)

theorem abortTag_effect (s : State) (n : TagNo) : EventEffect s (abortTag s n) := foldl_abortTag_effect [n] s

theorem abortOne_effect (n : TagNo) (s : State) : EventEffect s (abortOne n s) := by
  unfold abortOne
  dsimp only
  split
  · exact .of_eq rfl rfl
  · exact .refl s
  all_goals
    split
    · exact .refl s
    · exact (abortTag_effect s n).trans (.of_eq rfl rfl)

theorem abortEvery_effect (s : State) : EventEffect s (abortEvery s) := by
  unfold abortEvery
  split
  · exact .of_eq rfl rfl
  · dsimp only
    split
    · exact (foldl_abortTag_effect _ s).trans (.of_eq rfl rfl)
    · exact foldl_abortTag_effect _ s

theorem requestAbort_closed (v : Word) (s : State) : Closed P s (requestAbort v s) := by
  unfold requestAbort
  dsimp only
  refine .settle ?_ s
  split
  · exact (abortEvery_effect _).after rfl rfl
  · split
    · exact (abortOne_effect _ _).after rfl rfl
    · exact .of_eq rfl rfl

/-! ## The Data Port -/

theorem portMiss_undisturbed (s : State) : Undisturbed s (portMiss s) :=
  .of_eq rfl rfl rfl (latch_keeps_bits .port { s with port := { s.port with miss := true } })

/-- A word through a slot leaves the claims as they were: a READ tag's slot that is not RESERVED stays so, and a WRITE tag's
slot stays one that the host may fill. -/
theorem SlotsGranted.setSlot {s : State} (h : SlotsGranted s) {n : SlotNo} {y : Slot} {v : TagNo}
    (ho : (s.slot n).owner = some v) (hy : y.owner = some v) (hf : y.state ≠ .free)
    (hread : (s.tag v).kind = .read → (s.slot n).state ≠ .reserved ∧ y.state ≠ .reserved)
    (hwrite : (s.tag v).kind = .write → y.state.fillable = (s.slot n).state.fillable) : SlotsGranted (s.setSlot n y) := by
  have hslot : ∀ k, (s.setSlot n y).slot k = if k = n then y else s.slot k := fun k => setSlot_slot s n k y
  have hown : ∀ k, ((s.setSlot n y).slot k).owner = (s.slot k).owner := fun k => by
    rw [hslot]
    split
    · rename_i hk
      rw [hk, ho, hy]
    · rfl
  refine h.congr rfl (fun k hk => ?_) (fun u => .rfl) fun u =>
    wantsOne_of_tag rfl rfl (fun k => by rw [hown]) (fun hk k hu => ?_) fun hk k hu => ?_
  · rw [hslot] at hk
    split at hk
    · exact absurd hk hf
    · exact hk
  · rw [hslot]
    split
    · rename_i hkn
      obtain rfl : v = u := Option.some.inj (ho.symm.trans (hkn ▸ hu))
      exact hkn ▸ iff_of_false (hread hk).2 (hread hk).1
    · rfl
  · rw [hslot]
    split
    · rename_i hkn
      obtain rfl : v = u := Option.some.inj (ho.symm.trans (hkn ▸ hu))
      exact hkn ▸ hwrite hk
    · rfl

theorem mem_of_readPortSlot {s : State} {u : TagNo} {k : SlotNo} (h : readPortSlot s u = some k) :
    (s.tag u).kind = .read ∧ (s.slot k).owner = some u ∧ (s.slot k).state.readable = true := by
  unfold readPortSlot at h
  split at h
  · rename_i hc
    rw [Bool.and_eq_true, beq_iff_eq] at hc
    exact ⟨hc.2, (mem_slotsOf ..).1 (lowestBound_mem h)⟩
  · cases h

theorem mem_of_writePortSlot {s : State} {u : TagNo} {k : SlotNo} (h : writePortSlot s u = some k) :
    (s.tag u).kind = .write ∧ (s.slot k).owner = some u ∧ (s.slot k).state.fillable = true := by
  unfold writePortSlot at h
  split at h
  · rename_i hc
    rw [Bool.and_eq_true, beq_iff_eq] at hc
    exact ⟨hc.2, (mem_slotsOf ..).1 (List.mem_of_head? h)⟩
  · cases h

theorem deliver_effect (n : TagNo) (k : SlotNo) (s : State) : EventEffect s (deliver n k s) := by
  have hd : EventEffect s (delivered n k s) :=
    .of_freed (fun m => by rw [delivered_slot]; exact (ite_eq_or_eq ..).symm) rfl
  rw [deliver_eq]
  split
  · exact hd.trans (finish_effect ..)
  · exact hd

theorem readPort_closed (s : State) : Closed P s (readPort s) := by
  unfold readPort
  split
  · exact .of_undisturbed (.of_eq rfl rfl rfl (portMiss_undisturbed s).causes)
  · rename_i k hk
    obtain ⟨hkind, ho, hr⟩ := mem_of_readPortSlot hk
    have hne : (s.slot k).state ≠ .reserved := fun e => by
      rw [e] at hr
      cases hr
    dsimp only
    split
    · refine .of_effect (.after (setSlot_effect _ k _ (by simp) (by simp)) rfl rfl) fun hg => ?_
      have hg' : SlotsGranted (drive ((s.slot k).data.getD (s.slot k).pos 0) s) :=
        hg.same rfl (fun _ => rfl) rfl rfl
      exact hg'.setSlot (v := s.port.attached) ho ho nofun (fun _ => ⟨hne, nofun⟩) fun hw => by
        rw [show (s.tag s.port.attached).kind = .write from hw] at hkind
        cases hkind
    · have hd := deliver_effect s.port.attached k (drive ((s.slot k).data.getD (s.slot k).pos 0) s)
      exact .settle (hd.after (s := s) rfl rfl) s

theorem receive_effect (n : TagNo) (k : SlotNo) (y : Slot) (s : State) : EventEffect s (receive n k y s) :=
  (setSlot_effect s k { y with state := .full, lbn := some ((s.tag n).firstLbn + (s.tag n).moved) } nofun nofun).trans
    (.of_eq rfl rfl)

theorem writePort_closed (v : Word) (s : State) : Closed P s (writePort v s) := by
  unfold writePort
  split
  · exact .of_undisturbed (portMiss_undisturbed s)
  · rename_i k hk
    obtain ⟨hkind, ho, hf⟩ := mem_of_writePortSlot hk
    dsimp only
    split
    · refine .of_effect (setSlot_effect _ k _ (by simp) (by simp)) fun hg => ?_
      refine hg.setSlot (v := s.port.attached) ho ho nofun (fun hr => ?_) fun _ => hf.symm
      rw [hr] at hkind
      cases hkind
    · refine .settle ?_ s
      exact receive_effect ..

/-! ## The service list -/

/-- A collected tag was DONE, and is FREE: it claims no slot (R54, R57). -/
theorem SlotsGranted.collect {s : State} (h : SlotsGranted s) {n : TagNo} (hd : (s.tag n).state = .done) :
    SlotsGranted (collect n s) := by
  have htag : ∀ u, (Machine.collect n s).tag u = if u = n then Tag.free else s.tag u := fun u => setTag_tag ..
  have hno : ∀ {t : State}, ¬ (t.tag n).state.waitsForSlot → ¬ wantsOne t n := fun hn hw => hn hw.1
  refine h.congr rfl (fun _ => id) (fun u => ?_) fun u => ?_
  · rw [htag]
    split
    · rename_i hu
      rw [hu, hd]
      exact iff_of_false nofun nofun
    · rfl
  · by_cases hu : u = n
    · subst hu
      refine iff_of_false (hno ?_) (hno ?_)
      · rw [htag, if_pos rfl]
        simp [TagState.waitsForSlot, Tag.free]
      · simp [TagState.waitsForSlot, hd]
    · have ht : (Machine.collect n s).tag u = s.tag u := by rw [htag, if_neg hu]
      exact wantsOne_of_tag ht rfl (fun _ => .rfl) (fun _ _ _ => .rfl) fun _ _ _ => rfl

theorem pop_closed (s : State) : Closed P s (pop s) := by
  have hpop : ∀ (w : Word) (rest : List TagNo),
      Undisturbed s (drive w { s with svc := { s.svc with list := rest } }) := fun w rest => .of_eq rfl rfl rfl fun _ => id
  obtain ⟨stale, -, ⟨e, -⟩ | ⟨n, k, rest, e, hk, -⟩⟩ := popEntries_split s s.svc.list
  · simp only [pop, e]
    exact .of_undisturbed (hpop ..)
  · simp only [pop, e]
    cases k with
    | complete =>
      refine .of_effect (.of_eq rfl rfl) fun hg => ?_
      exact SlotsGranted.collect (hg.same rfl (fun _ => rfl) rfl rfl) (popKind_complete hk)
    | dataIn | dataOut => exact .of_undisturbed (hpop ..)

/-! ## The Command Unit -/

theorem completeCommand_undisturbed (code : BitVec 8) (r : CmdResult) (s : State) :
    Undisturbed s (completeCommand code r s) :=
  .of_eq (by simp) (by simp) (by simp) (completeCommand_effect code r s).causes

theorem requestCommand_closed (c : Command) (take : State → State) (s : State) (h : Closed P s (take s)) :
    Closed P s (requestCommand c take s) := by
  unfold requestCommand
  split
  · exact .of_undisturbed (.of_eq rfl rfl rfl (latch_keeps_bits .cmdOverrun s))
  · split
    · exact .of_undisturbed (completeCommand_undisturbed ..)
    · split
      · exact .of_undisturbed (completeCommand_undisturbed ..)
      · exact h

theorem beginPatrol_effect (m : PatrolMode) (s : State) : EventEffect s (beginPatrol m s) :=
  (setPatrolStatus_effect ..).after rfl rfl

theorem startPatrol_effect (m : PatrolMode) (s : State) : EventEffect s (startPatrol m s) := by
  unfold startPatrol
  split
  · exact beginPatrol_effect m s
  · exact .of_eq rfl rfl
  · exact .of_eq rfl rfl
  · split
    · exact .refl s
    all_goals exact beginPatrol_effect _ s

theorem finishReport_undisturbed (r : Vector Word 256) (s : State) : Undisturbed s (finishReport r s) :=
  .of_eq (by simp [finishReport]) (by simp [finishReport]) (by simp [finishReport])
    ((completeCommand_effect (Command.code .reportBuild) .ok { s with cmd := { s.cmd with buffer := r } }).after
      (s := s) rfl rfl).causes

theorem takeStart_closed (c : Command) (m : PatrolMode) (s : State) : Closed P s (takeStart c m s) :=
  Closed.arbitrate (.of_eq (by simp) (by simp) (by simp)
    ((startPatrol_effect m s).trans (completeCommand_effect ..)).causes)

theorem stopPatrol_effect (s : State) : EventEffect s (stopPatrol s) := by
  unfold stopPatrol
  split
  · exact .refl s
  all_goals exact (setPatrolStatus_effect ..).after rfl rfl

theorem requestStop_closed (s : State) : Closed P s (requestStop s) :=
  requestCommand_closed _ _ s (.of_undisturbed (.of_eq (by simp) (by simp) (by simp)
    ((stopPatrol_effect s).trans (completeCommand_effect ..)).causes))

theorem requestReport_closed (s : State) : Closed P s (requestReport s) :=
  requestCommand_closed _ _ s (.of_undisturbed (.of_eq rfl rfl rfl fun _ => id))

theorem waitForCommit_effect (r : Nat → Running) (s : State) : EventEffect s (waitForCommit r s) :=
  (checkSequence_effect (commitReason { s with cmd := { s.cmd with running := some (r (neededNow s)) } })).after rfl rfl

theorem requestThresholds_closed (s : State) : Closed P s (requestThresholds s) := by
  refine requestCommand_closed _ _ s ?_
  unfold takeThresholds
  split
  · have h := waitForCommit_effect .thresholdLoad (loadThresholds s)
    exact .settle (h.after (s := s) rfl rfl) s
  · exact .of_undisturbed (completeCommand_undisturbed ..)

theorem requestSave_closed (s : State) : Closed P s (requestSave s) :=
  requestCommand_closed _ _ s (.settle (waitForCommit_effect ..) s)

theorem writeCmd_closed (v : Word) (s : State) : Closed P s (writeCmd v s) := by
  unfold writeCmd
  cases commandOf (lowByte v) with
  | none =>
    unfold refuseCode
    dsimp only
    split
    · exact .of_undisturbed (.of_eq rfl rfl rfl (latch_keeps_bits .cmdOverrun s))
    · exact .of_undisturbed (completeCommand_undisturbed ..)
  | some c =>
    cases c with
    | patrolSegment | patrolPass | patrolAuto => exact requestCommand_closed _ _ s (takeStart_closed ..)
    | patrolStop => exact requestStop_closed s
    | reportBuild => exact requestReport_closed s
    | thresholdLoad => exact requestThresholds_closed s
    | conditionSave => exact requestSave_closed s

theorem readReport_closed (s : State) : Closed P s (readReport s) := by
  unfold readReport
  refine .of_undisturbed ?_
  split <;> exact .of_eq rfl rfl rfl fun _ => id

theorem writeReport_closed (v : Word) (s : State) : Closed P s (writeReport v s) := by
  unfold writeReport
  refine .of_undisturbed ?_
  split <;> exact .of_eq rfl rfl rfl fun _ => id

/-! ## Registers, timers and resets -/

theorem clearCauses_closed (hp : P) (v : Word) (s : State) : Closed P s (clearCauses v s) :=
  .plain (fun _ => .same) (fun h => absurd hp h) fun hg => hg.same rfl (fun _ => rfl) rfl rfl

theorem writeCfga_closed (v : Word) (s : State) : Closed P s (writeCfga v s) := by
  unfold writeCfga
  dsimp only
  split
  · rename_i hq
    exact .of_undisturbed ⟨rfl, fun _ => rfl, rfl, hq, fun _ => id⟩
  · exact .granted (.of_eq rfl rfl)

/-- A soft reset frees every slot but that of the operation in flight, which loses its owner (R47). -/
theorem resetBlocks_slot (s : State) (k : SlotNo) :
    (resetBlocks s).slot k = if opSlot s = some k then { s.slot k with owner := none } else Slot.free :=
  Vector.getElem_ofFn k.isLt

theorem softReset_closed (hp : P) (s : State) : Closed P s (softReset s) := by
  unfold softReset
  split
  · exact .refl s
  · refine Closed.arbitrate_plain (fun k => ?_) (fun h => absurd hp h) fun _ =>
      slotsGranted_of_nil (by simp [resetBlocks, resetRequests, State.reset])
    simp only [startQuiet_records, resetBlocks_slot]
    split
    · exact .disowned
    · exact .freed

theorem gapOver_effect (s : State) : EventEffect s (gapOver s) := (setPatrolStatus_effect ..).after rfl rfl

/-- The command clears latched causes: ACAUSE and the resets do (R195, R198, R199). -/
def Instr.clearsCauses : Instr → Prop
  | .acauseWrite _ | .softReset | .powerOnReset => True
  | .registerWrite a _ => a = 0x02 ∨ a = 0x19
  | _ => False

theorem writeRegister_closed (a : RegAddr) (v : Word) (s : State) :
    Closed (a = 0x02 ∨ a = 0x19) s (writeRegister a v s) := by
  have addr : ∀ {b : RegAddr}, a.toNat = b.toNat → a = b := BitVec.eq_of_toNat_eq
  unfold writeRegister
  split
  case h_1 h => exact clearCauses_closed (.inl (addr (b := 0x02) h)) v s
  case h_5 => exact submit_closed v s
  case h_7 => exact writePort_closed v s
  case h_8 => exact requestAbort_closed v s
  case h_9 => exact writeCmd_closed v s
  case h_11 => exact writeReport_closed v s
  case h_12 => exact writeCfga_closed v s
  case h_15 h =>
    split
    · exact softReset_closed (.inr (addr (b := 0x19) h)) s
    · exact .refl s
  case h_16 => exact .refl s
  all_goals exact .of_undisturbed ⟨rfl, fun _ => rfl, rfl, rfl, fun _ => id⟩

/-! ## Every command -/

theorem busAccess_closed {s t : State} {f : State → State} (h : Closed P s (f s)) (ht : busAccess s f = .next t) :
    Closed P s t := by
  cases hr : s.rstnLow with
  | true =>
    rw [busAccess_low s f hr] at ht
    cases next_inj ht
    exact .refl s
  | false =>
    rw [busAccess_high s f hr] at ht
    cases next_inj ht
    exact h

theorem readBlockCompletion_closed {out : ReadOutcome} {s t : State} (ht : execReadBlockCompletion out s = .next t) :
    Closed P s t := by
  cases next_inj ht
  split
  · rename_i o _
    split
    · exact .settle ((readDone_effect o out (idleUnit s)).after (s := s) rfl rfl) s
    · exact .refl s
  · exact .refl s

theorem programBlockCompletion_closed {out : ProgramOutcome} {s t : State}
    (ht : execProgramBlockCompletion out s = .next t) : Closed P s t := by
  cases next_inj ht
  split
  · rename_i o _
    split
    · have h := programDone_effect o out { s with array := { storeProgram o out s.array with op := none } }
      exact .settle (h.after (s := s) rfl rfl) s
    · exact .refl s
  · exact .refl s

theorem reset_slot (k : SlotNo) : State.reset.slot k = Slot.free := by
  simp [State.reset, State.slot]

theorem powerOnReset_closed (hp : P) {s t : State} (ht : execPowerOnReset s = .next t) : Closed P s t := by
  cases next_inj ht
  refine .plain (fun k => ?_) (fun h => absurd hp h) fun _ => slotsGranted_of_nil rfl
  exact (reset_slot k).symm ▸ Slot.Stepped.freed

theorem exec_closed {c : Instr} {s t : State} (ht : exec c s = .next t) : Closed (Instr.clearsCauses c) s t := by
  cases c with
  | submission v => exact busAccess_closed (submit_closed v s) ht
  | abortRequest v => exact busAccess_closed (requestAbort_closed v s) ht
  | ptagWrite v => exact busAccess_closed (.of_undisturbed (.of_eq rfl rfl rfl fun _ => id)) ht
  | pdataRead => exact busAccess_closed (readPort_closed s) ht
  | pdataWrite v => exact busAccess_closed (writePort_closed v s) ht
  | svcnextPop => exact busAccess_closed (pop_closed s) ht
  | patrolSegment | patrolPass | patrolAuto =>
    exact busAccess_closed (requestCommand_closed _ _ s (takeStart_closed ..)) ht
  | patrolStop => exact busAccess_closed (requestStop_closed s) ht
  | reportBuild => exact busAccess_closed (requestReport_closed s) ht
  | reportBuildCompletion =>
    cases next_inj ht
    split
    · exact .of_undisturbed (finishReport_undisturbed ..)
    all_goals exact .refl s
  | thresholdLoad => exact busAccess_closed (requestThresholds_closed s) ht
  | conditionSave => exact busAccess_closed (requestSave_closed s) ht
  | badCommand v => exact busAccess_closed (writeCmd_closed v s) ht
  | rdataRead => exact busAccess_closed (readReport_closed s) ht
  | rdataWrite v => exact busAccess_closed (writeReport_closed v s) ht
  | acauseWrite v => exact busAccess_closed (clearCauses_closed trivial v s) ht
  | aenableWrite v => exact busAccess_closed (.of_undisturbed (.of_eq rfl rfl rfl fun _ => id)) ht
  | cfgaWrite v => exact busAccess_closed (writeCfga_closed v s) ht
  | cfgbWrite v => exact busAccess_closed (.of_undisturbed ⟨rfl, fun _ => rfl, rfl, rfl, fun _ => id⟩) ht
  | registerWrite a v => exact busAccess_closed (writeRegister_closed a v s) ht
  | softReset => exact busAccess_closed (softReset_closed trivial s) ht
  | powerOnReset => exact powerOnReset_closed trivial ht
  | startUp =>
    cases next_inj ht
    split
    · exact Closed.arbitrate (.of_eq rfl rfl rfl fun _ => id)
    · exact .refl s
  | readBlockCompletion out => exact readBlockCompletion_closed ht
  | programBlockCompletion out => exact programBlockCompletion_closed ht
  | quietTimerExpiry =>
    cases next_inj ht
    split
    · exact .arbitrate (.of_eq (by simp) (by simp) (by simp) fun _ hk => by simpa using hk)
    · exact .refl s
  | gapTimerExpiry =>
    cases next_inj ht
    split
    · exact .arbitrate (.of_eq (by simp) (by simp) (by simp) (gapOver_effect s).causes)
    · exact .refl s

end Sys2Proof.Machine
end

section
/-! PROOFS. The configuration registers' fields (R193, R194), and O53: a FREE slot is empty and the configuration is valid. -/
namespace Sys2Proof.Machine

/-! ## The fields of CFGA and CFGB -/

theorem field_eq (w : Word) (lo len : Nat) : field w lo len = w.toNat / 2 ^ lo % 2 ^ len := by
  rw [field, Nat.shiftRight_eq_div_pow]

theorem ite_some_getD (p : Prop) [Decidable p] (v d : Nat) : (if p then some v else none).getD d = if p then v else d := by
  split <;> rfl

theorem ite_some_isNone (p : Prop) [Decidable p] (v : Nat) : (if p then some v else none).isNone = decide ¬ p := by
  split <;> simp [*]

/-- Each field of CFGA is tested on its own (R193). -/
theorem setCfga_eq (v : Word) (c : ConfigRegs) :
    setCfga v c =
      let level := v.toNat % 16
      let retry := v.toNat / 16 % 8
      let quota := v.toNat / 256 % 16
      { c with
        refreshLevel := if 1 ≤ level ∧ level ≤ 8 then level else c.refreshLevel
        retryLimit := if retry ≤ 3 then retry else c.retryLimit
        slotQuota := if 1 ≤ quota ∧ quota ≤ 8 then quota else c.slotQuota
        cfgReject := decide (¬ ((1 ≤ level ∧ level ≤ 8) ∧ retry ≤ 3 ∧ (1 ≤ quota ∧ quota ≤ 8))) } := by
  have hlevel : field v 0 4 = v.toNat % 16 := by simp [field_eq]
  have hretry : field v 4 3 = v.toNat / 16 % 8 := field_eq ..
  have hquota : field v 8 4 = v.toNat / 256 % 16 := field_eq ..
  unfold setCfga cfgaRefresh cfgaRetry cfgaQuota
  rw [hlevel, hretry, hquota]
  dsimp only
  rw [ite_some_getD, ite_some_getD, ite_some_getD, ite_some_isNone, ite_some_isNone, ite_some_isNone]
  simp only [not_and_or, Bool.decide_or, Bool.or_assoc]

/-- Every quiet code is taken, and the segment code is tested (R194). -/
theorem setCfgb_eq (v : Word) (c : ConfigRegs) :
    setCfgb v c =
      let seg := v.toNat / 256 % 8
      { c with
        quietCode := v.toNat % 256
        segCode := if seg ≤ 3 then seg else c.segCode
        cfgReject := decide (3 < seg) } := by
  have hquiet : field v 0 8 = v.toNat % 256 := by simp [field_eq]
  have hseg : field v 8 3 = v.toNat / 256 % 8 := field_eq ..
  unfold setCfgb cfgbQuiet cfgbSeg
  rw [hquiet, hseg]
  dsimp only
  rw [ite_some_getD, ite_some_isNone]
  simp only [Nat.not_le]

theorem writeCfga_cfg (v : Word) (s : State) : (writeCfga v s).cfg = setCfga v s.cfg := by
  unfold writeCfga
  dsimp only
  split <;> simp

/-! ## The configuration stays valid -/

theorem ConfigOk.congr {s t : State} (h : ConfigOk s) (hc : t.cfg = s.cfg) : ConfigOk t := by
  unfold ConfigOk at h ⊢
  rwa [hc]

theorem configOk_reset : ConfigOk State.reset := by
  unfold ConfigOk
  decide

theorem ConfigOk.setCfga {s t : State} (h : ConfigOk s) {v : Word} (hc : t.cfg = setCfga v s.cfg) : ConfigOk t := by
  obtain ⟨hlevel₁, hlevel₈, hretry, hquota₁, hquota₈, hquiet, hseg⟩ := h
  unfold ConfigOk
  rw [hc, setCfga_eq]
  dsimp only
  refine ⟨?_, ?_, ?_, ?_, ?_, hquiet, hseg⟩ <;> split <;> omega

theorem ConfigOk.setCfgb {s t : State} (h : ConfigOk s) {v : Word} (hc : t.cfg = setCfgb v s.cfg) : ConfigOk t := by
  obtain ⟨hlevel₁, hlevel₈, hretry, hquota₁, hquota₈, -, hseg⟩ := h
  unfold ConfigOk
  rw [hc, setCfgb_eq]
  dsimp only
  refine ⟨hlevel₁, hlevel₈, hretry, hquota₁, hquota₈, by omega, ?_⟩
  split <;> omega

theorem ConfigOk.writeCfga {s : State} (h : ConfigOk s) (v : Word) : ConfigOk (writeCfga v s) :=
  h.setCfga (writeCfga_cfg v s)

theorem ConfigOk.softReset {s : State} (h : ConfigOk s) : ConfigOk (softReset s) := by
  unfold Machine.softReset
  split
  · exact h
  · unfold ConfigOk at h ⊢
    simpa [resetBlocks] using h

theorem ConfigOk.writeRegister {s : State} (h : ConfigOk s) (a : RegAddr) (v : Word) :
    ConfigOk (writeRegister a v s) := by
  by_cases hown : RegGroup.config ∈ ownAt a
  · have ha := addr_of_mem_ownAt hown
    simp only [RegGroup.addrs, List.mem_cons, List.not_mem_nil, or_false] at ha
    rcases ha with rfl | rfl | rfl | rfl
    · exact h.writeCfga v
    · exact h.setCfgb (v := v) rfl
    · exact h
    · change ConfigOk (if v = 1 then Machine.softReset s else s)
      split
      · exact h.softReset
      · exact h
  · exact h.congr ((writeRegister_regs a v s).kept .config hown)

theorem ConfigOk.busAccess {s t : State} {f : State → State} (h : ConfigOk s) (hf : ConfigOk (f s))
    (ht : busAccess s f = .next t) : ConfigOk t := by
  cases next_inj ht
  split
  · exact h
  · exact hf

theorem ConfigOk.exec {c : Instr} {s t : State} (h : ConfigOk s) (ht : exec c s = .next t) : ConfigOk t := by
  by_cases hown : RegGroup.config ∈ Instr.own c
  · cases c with
    | cfgaWrite v => exact h.busAccess (h.writeCfga v) ht
    | cfgbWrite v => exact h.busAccess (h.setCfgb (v := v) rfl) ht
    | registerWrite a v => exact h.busAccess (h.writeRegister a v) ht
    | softReset => exact h.busAccess h.softReset ht
    | powerOnReset =>
      cases next_inj ht
      exact configOk_reset.congr rfl
    | _ => simp [Instr.own] at hown
  · have hc : c ≠ .powerOnReset := by
      rintro rfl
      simp [Instr.own, resetRegs] at hown
    exact h.congr ((exec_regs hc ht).kept .config hown)

/-! ## The slots stay in order -/

theorem SlotsOk.step {s t : State} (h : SlotsOk s) (hs : ∀ k, (s.slot k).Stepped (t.slot k)) : SlotsOk t :=
  fun k hk => (hs k).free_eq (h k) hk

theorem Closed.slotsOk {P : Prop} {s t : State} (h : Closed P s t) (hok : SlotsOk s) : SlotsOk t := by
  cases h with
  | plain hs _ _ => exact hok.step hs
  | settled s₀ x hx ht =>
    have hg : SlotsOk (latchHealth s₀ (grantSlots 8 x)) := fun k hk => by
      simp only [latchHealth_records] at hk ⊢
      exact (grantSlots_grants 8 x).slotsOk (hok.step hx.slots) k hk
    rw [ht]
    exact hg.step (arbitrate_effect _).slots

/-- What every command keeps, whatever commands wait, every step keeps. -/
theorem kept_of_commands {Inv : State → Prop} (hp : ∀ s cs, Inv s → Inv { s with pending := cs })
    (he : ∀ c s t, Inv s → exec c s = .next t → Inv t) : Kept Inv := by
  intro s h t ht
  unfold step at ht
  split at ht
  · cases next_inj ht
    exact h
  · exact he _ _ t (hp s _ h) ht

/-- Settles O53: the slots by what every command does to them (`exec_closed`), the configuration by the fields' own tests. -/
theorem slotsAndConfigurationKept : Obligations.SlotsAndConfigurationKept :=
  kept_of_commands (fun _ _ h => h) fun _ _ _ ⟨hslots, hcfg⟩ ht => ⟨(exec_closed ht).slotsOk hslots, hcfg.exec ht⟩

end Sys2Proof.Machine
end

section
/-! PROOFS. O14: the slot grants (R30 to R34, R50). -/
namespace Sys2Proof.Machine

/-! ## A granted slot to the end of the event -/

/-- What keeps the queue, the claims, the owners and the FREE slots keeps what holds of a granted slot. -/
theorem GrantedTo.congr {s t : State} {k : SlotNo} {u : TagNo} (h : GrantedTo s k u) (hslot : t.slot k = s.slot k)
    (hslots : ∀ m, (t.slot m).owner = (s.slot m).owner ∧ ((t.slot m).state = .free ↔ (s.slot m).state = .free))
    (hkept : t.cfg = s.cfg ∧ t.svc = s.svc ∧ t.req.queue = s.req.queue ∧ (t.tag u).kind = (s.tag u).kind)
    (hheld : ∀ w, (t.tag w).state = .held ↔ (s.tag w).state = .held) (hw : ∀ w, wantsOne t w ↔ wantsOne s w) :
    GrantedTo t k u := by
  obtain ⟨hcfg, hsvc, hq, hkind⟩ := hkept
  have hcount : heldCount t u = heldCount s u := heldCount_congr fun m => by rw [(hslots m).1]
  obtain ⟨pre, post, hsplit, hpre⟩ := h.place
  refine ⟨hslot.trans h.slot, fun m hm hf => h.lower m hm ((hslots m).2.1 hf), ?_, ?_, ?_,
    ⟨pre, post, hq.trans hsplit, fun w hwp hww => ?_⟩, fun hu w hwq hww => ?_⟩
  · rw [hcount, hcfg]
    exact h.quota
  · rw [hkind]
    exact h.kind
  · rw [hkind, hsvc]
    exact h.service
  · rw [hheld w, ne_eq, hheld u]
    exact hpre w hwp ((hw w).1 hww)
  · rw [hq] at hwq
    exact (hheld w).2 (h.heldLast ((hheld u).1 hu) w hwq ((hw w).1 hww))

theorem GrantedTo.latchHealth {s : State} {k : SlotNo} {u : TagNo} (h : GrantedTo s k u) (s₀ : State) :
    GrantedTo (latchHealth s₀ s) k u := by
  refine h.congr (by simp) (fun m => by simp) (by simp) (fun w => by simp) fun w => ?_
  exact wantsOne_of_tag (by simp) (by simp) (fun m => by simp) (fun _ m _ => by simp) fun _ m _ => by simp

theorem GrantedTo.arbitrate {s : State} {k : SlotNo} {u : TagNo} (h : GrantedTo s k u)
    (hslot : (arbitrate s).slot k = s.slot k) : GrantedTo (arbitrate s) k u :=
  h.congr hslot (arbitrate_slot_owner s) (by simp) (arbitrate_held s) (arbitrate_wantsOne s)

/-- The arbiter makes no slot RESERVED. -/
theorem arbitrate_slot_of_reserved {s : State} {k : SlotNo} (h : ((arbitrate s).slot k).state = .reserved) :
    (arbitrate s).slot k = s.slot k := by
  have hs := arbitrate_slot s k
  generalize (Machine.arbitrate s).slot k = y at hs h
  rcases hs with e | e
  · exact e
  · cases e with
    | loading => cases h
    | programming => cases h

/-! ## Every command -/

theorem grantSlots_slotsGranted (s : State) : SlotsGranted (grantSlots 8 s) :=
  (slotsGranted_iff _).2 (grantSlots_granted s)

theorem Closed.slotsGranted {P : Prop} {s t : State} (h : Closed P s t) (hg : SlotsGranted s) : SlotsGranted t := by
  cases h with
  | plain _ _ hgt => exact hgt hg
  | settled s₀ x _ ht =>
    have hl : SlotsGranted (Machine.latchHealth s₀ (grantSlots 8 x)) :=
      (grantSlots_slotsGranted x).same (by simp) (fun u => by simp) (by simp) (by simp)
    rw [ht]
    exact hl.arbitrate

/-- A slot that a command has made RESERVED for a tag was granted to it. -/
theorem Closed.grantedTo {P : Prop} {s t : State} (h : Closed P s t) (hok : SlotsOk s) {k : SlotNo} {u : TagNo}
    (hr : (t.slot k).state = .reserved) (ho : (t.slot k).owner = some u) (hne : t.slot k ≠ s.slot k) :
    GrantedTo t k u := by
  cases h with
  | plain hs _ _ => exact absurd ((hs k).eq_of_reserved hr ho) hne
  | settled s₀ x hx ht =>
    have hkept : t.slot k = (grantSlots 8 x).slot k := by
      rw [ht] at hr ⊢
      rw [arbitrate_slot_of_reserved hr]
      simp
    have hchanged : (grantSlots 8 x).slot k ≠ x.slot k := fun e => by
      rw [hkept, e] at hr ho hne
      exact hne ((hx.slots k).eq_of_reserved hr ho)
    obtain ⟨v, hv⟩ := (grantSlots_grants 8 x).changed (hok.step hx.slots) hchanged
    obtain rfl : v = u := by
      rw [hkept, hv.slot] at ho
      exact Option.some.inj ho
    rw [ht]
    refine (hv.latchHealth s₀).arbitrate ?_
    rw [← ht, hkept]
    simp

/-- Settles O14: a grant takes the lowest FREE slot for the first tag that waits (`grantedTo_reserveSlot`), and neither the
later grants of the event (`Grants.granted`) nor the arbiter's choice (`arbitrate_wantsOne`) change what makes it due. -/
theorem slotGrants : Obligations.SlotGrants := by
  refine ⟨kept_of_commands (fun _ _ h => h) fun _ _ _ h ht => (exec_closed ht).slotsGranted h, ?_⟩
  intro c s t k u hok ht hr ho hne
  obtain ⟨hslot, hlower, hquota, hkind, hservice, hplace, hheldLast⟩ := (exec_closed ht).grantedTo hok hr ho hne
  exact ⟨hslot, hlower, hquota, hkind, hservice, hplace, hheldLast⟩

end Sys2Proof.Machine
end

section
/-! PROOFS. O17, O18, O20: the Data Port (R40 to R43). -/
namespace Sys2Proof.Machine

/-- A command that clears no causes keeps each latched cause (R195). -/
theorem Closed.keeps_bits {P : Prop} {s t : State} (h : Closed P s t) (hp : ¬ P) {k : Nat}
    (hk : s.attn.latched.getLsbD k = true) : t.attn.latched.getLsbD k = true := by
  cases h with
  | plain _ hc _ => exact hc hp k hk
  | settled s₀ x hx ht =>
    have hg := latchHealth_keeps_bits s₀ (grantSlots 8 x) k (by simpa using hx.causes k hk)
    rw [ht]
    exact (arbitrate_effect _).causes k hg

/-! ## The attached tag -/

/-- Settles O17. -/
theorem ptagAttaches : Obligations.PtagAttaches := by
  intro s hr
  refine ⟨fun v => busAccess_high s _ hr, by simp [regRead, at16], fun c t ht hp h9 hs h19 hpor => ?_, fun t hm ht => ?_,
    fun t ht => ?_⟩
  · obtain ⟨-, hrest⟩ := registersChangeByTheirOwnCommands c s t ht hpor
    obtain ⟨-, -, -, -, hattached, -⟩ := hrest hs h19
    exact hattached hp h9
  · obtain rfl := next_inj ((busAccess_high s softReset hr).symm.trans ht)
    simp [softReset, hm, resetBlocks]
  · cases next_inj ht
    rfl

/-! ## One word -/

/-- Settles O18. -/
theorem portMovesOneWord : Obligations.PortMovesOneWord := by
  refine ⟨fun n l s hr hl hk ho hs hlbn hm hp => ?_, fun n v s hr hl hk ho hs hm hp => ?_⟩
  · have h : readPort s = (drive ((s.slot n).data.getD (s.slot n).pos 0) s).setSlot n
        { s.slot n with state := .draining, pos := (s.slot n).pos + 1 } := by
      simp only [readPort, readPortSlot_eq hl hk ho hs hlbn hm, hp, if_true]
    exact (busAccess_high s readPort hr).trans (by rw [h]; rfl)
  · have h : writePort v s = s.setSlot n
        { s.slot n with state := .filling, pos := (s.slot n).pos + 1, data := (s.slot n).data ++ [v] } := by
      simp only [writePort, writePortSlot_eq hl hk ho hs hm, hp, if_true]
    exact (busAccess_high s (writePort v) hr).trans (by rw [h])

/-! ## A miss -/

/-- A read with no word to take is a miss (R43). -/
theorem readPort_miss {s : State} (h : ¬ hasDataIn s s.port.attached) : readPort s = drive 0xFFFF#16 (portMiss s) := by
  have hn : readPortSlot s s.port.attached = none := by
    rwa [← readPortSlot_isSome, Option.not_isSome_iff_eq_none] at h
  simp only [readPort, hn]

/-- A write with no room for the word is a miss (R43). -/
theorem writePort_miss {s : State} (h : ¬ hasDataOut s s.port.attached) (v : Word) : writePort v s = portMiss s := by
  have hn : writePortSlot s s.port.attached = none := by
    rwa [← writePortSlot_isSome, Option.not_isSome_iff_eq_none] at h
  simp only [writePort, hn]

/-- An access of the port clears no miss. -/
theorem readPort_keeps_miss {s : State} (h : s.port.miss = true) : (readPort s).port.miss = true := by
  unfold readPort
  split
  · rfl
  · dsimp only
    split
    · exact h
    · rw [deliver_eq]
      split <;> simpa [delivered] using h

theorem writePort_keeps_miss {s : State} (v : Word) (h : s.port.miss = true) : (writePort v s).port.miss = true := by
  unfold writePort
  split
  · rfl
  · dsimp only
    split
    · exact h
    · simpa [receive] using h

theorem busAccess_keeps_miss {s t : State} {f : State → State} (h : s.port.miss = true) (hf : (f s).port.miss = true)
    (ht : busAccess s f = .next t) : t.port.miss = true := by
  cases next_inj ht
  split
  · exact h
  · exact hf

/-- Settles O20. -/
theorem portMissChangesOnlyItsFlag : Obligations.PortMissChangesOnlyItsFlag := by
  intro s hr
  refine ⟨fun h => ?_, fun h v => ?_, fun hmiss c t ht hp h9 hs h19 hpor => ?_, fun hport c t ht ha h2 hs h19 hpor => ?_⟩
  · exact (busAccess_high s readPort hr).trans (by rw [readPort_miss h]; rfl)
  · exact (busAccess_high s (writePort v) hr).trans (by rw [writePort_miss h]; rfl)
  · by_cases hread : c = .pdataRead
    · subst hread
      exact busAccess_keeps_miss hmiss (readPort_keeps_miss hmiss) ht
    by_cases hwrite : ∃ v, c = .pdataWrite v ∨ c = .registerWrite 0x0B v
    · obtain ⟨v, rfl | rfl⟩ := hwrite <;> exact busAccess_keeps_miss hmiss (writePort_keeps_miss v hmiss) ht
    · obtain ⟨-, hrest⟩ := registersChangeByTheirOwnCommands c s t ht hpor
      obtain ⟨-, -, -, -, -, hkept, -⟩ := hrest hs h19
      exact (hkept hread (fun v e => hwrite ⟨v, .inl e⟩) (fun v e => hwrite ⟨v, .inr e⟩) hp h9).trans hmiss
  · refine (exec_closed ht).keeps_bits (fun hclears => ?_) hport
    cases c with
    | acauseWrite v => exact ha v rfl
    | softReset => exact hs rfl
    | powerOnReset => exact hpor rfl
    | registerWrite a v =>
      rcases hclears with rfl | rfl
      · exact h2 v rfl
      · exact h19 v rfl
    | _ => exact hclears

end Sys2Proof.Machine
end

section
/-! PROOFS. O48: writes to the registers and to the configuration (R185, R193, R194, R35). -/
namespace Sys2Proof.Machine

/-! ## The registers -/

theorem exec_registerWrite {s : State} (hr : s.rstnLow = false) (a : RegAddr) (v : Word) :
    exec (.registerWrite a v) s = .next (writeRegister a v s) := busAccess_high s _ hr

/-- A write to a read-only register or to a reserved offset is ignored (R185). -/
theorem writeRegister_ignored {a : RegAddr} (h : a ∈ [0x00#5, 0x01#5, 0x07#5, 0x08#5, 0x0A#5, 0x0E#5, 0x0F#5, 0x10#5,
    0x11#5, 0x12#5, 0x18#5, 0x1A#5, 0x1B#5, 0x1C#5, 0x1D#5, 0x1E#5, 0x1F#5]) (v : Word) (s : State) :
    writeRegister a v s = s := by
  simp only [List.mem_cons, List.not_mem_nil, or_false] at h
  rcases h with rfl | rfl | rfl | rfl | rfl | rfl | rfl | rfl | rfl | rfl | rfl | rfl | rfl | rfl | rfl | rfl | rfl <;> rfl

/-- A write to a register that another row describes acts as that row (R185). -/
theorem exec_registerWrite_row (v : Word) (s : State) {p : RegAddr × Instr}
    (h : p ∈ [(0x02#5, Instr.acauseWrite v), (0x03#5, .aenableWrite v), (0x06#5, .submission v), (0x09#5, .ptagWrite v),
      (0x0B#5, .pdataWrite v), (0x0C#5, .abortRequest v), (0x0D#5, .badCommand v), (0x14#5, .rdataWrite v),
      (0x15#5, .cfgaWrite v), (0x16#5, .cfgbWrite v)]) : exec (.registerWrite p.1 v) s = exec p.2 s := by
  simp only [List.mem_cons, List.not_mem_nil, or_false] at h
  rcases h with rfl | rfl | rfl | rfl | rfl | rfl | rfl | rfl | rfl | rfl <;> rfl

/-! ## CFGA -/

/-- The fields are taken; no slot is granted yet. -/
def reconfigured (v : Word) (s : State) : State := { s with cfg := setCfga v s.cfg }

theorem reconfigured_slot (v : Word) (s : State) (k : SlotNo) : (reconfigured v s).slot k = s.slot k := rfl

theorem writeCfga_same {v : Word} {s : State} (h : (setCfga v s.cfg).slotQuota = s.cfg.slotQuota) :
    writeCfga v s = reconfigured v s := if_pos h

theorem writeCfga_new {v : Word} {s : State} (h : (setCfga v s.cfg).slotQuota ≠ s.cfg.slotQuota) :
    writeCfga v s = arbitrate (grantSlots 8 (reconfigured v s)) := if_neg h

theorem othersKept_refl (s : State) : OthersKept s s :=
  ⟨rfl, rfl, ⟨rfl, rfl, rfl, rfl, rfl⟩, rfl, rfl, rfl, rfl, rfl, rfl, rfl, rfl, fun _ => rfl⟩

theorem granted_othersKept (s : State) : OthersKept s (arbitrate (grantSlots 8 s)) := by
  refine ⟨?_, ?_, ⟨?_, ?_, ?_, ?_, ?_⟩, ?_, ?_, ?_, ?_, ?_, ?_, ?_, ?_, arrayKept_of_eq ?_ ?_⟩ <;> simp

/-- A write to CFGA touches nothing but the configuration and what the slot grants and the arbiter do. -/
theorem writeCfga_othersKept (v : Word) (s : State) : OthersKept (reconfigured v s) (writeCfga v s) := by
  by_cases h : (setCfga v s.cfg).slotQuota = s.cfg.slotQuota
  · rw [writeCfga_same h]
    exact othersKept_refl _
  · rw [writeCfga_new h]
    exact granted_othersKept _

/-- A slot in use keeps its owner at a write to CFGA. -/
theorem writeCfga_owner (v : Word) (s : State) {k : SlotNo} (hk : (s.slot k).state ≠ .free) :
    ((writeCfga v s).slot k).owner = (s.slot k).owner := by
  by_cases h : (setCfga v s.cfg).slotQuota = s.cfg.slotQuota
  · rw [writeCfga_same h]
    rfl
  · rw [writeCfga_new h, (arbitrate_slot_owner _ k).1]
    rw [(grantSlots_grants 8 (reconfigured v s)).slot_kept hk, reconfigured_slot]

/-- A slot is granted within the new quota (R28, R35). -/
theorem writeCfga_within_quota (v : Word) (s : State) {k : SlotNo} {u : TagNo} (hf : (s.slot k).state = .free)
    (hne : ((writeCfga v s).slot k).state ≠ .free) (ho : ((writeCfga v s).slot k).owner = some u) :
    heldCount (writeCfga v s) u ≤ (setCfga v s.cfg).slotQuota := by
  by_cases h : (setCfga v s.cfg).slotQuota = s.cfg.slotQuota
  · rw [writeCfga_same h] at hne
    exact absurd hf hne
  · rw [writeCfga_new h] at hne ho ⊢
    have hslots := arbitrate_slot_owner (grantSlots 8 (reconfigured v s))
    have hcount : heldCount (arbitrate (grantSlots 8 (reconfigured v s))) u =
        heldCount (grantSlots 8 (reconfigured v s)) u := heldCount_congr fun m => by rw [(hslots m).1]
    rw [(hslots k).1] at ho
    rw [hcount]
    exact (grantSlots_grants 8 (reconfigured v s)).within_quota.2 k hf (fun e => hne ((hslots k).2.2 e)) ho

theorem writeCfga_slotsGranted {v : Word} {s : State}
    (h : (setCfga v s.cfg).slotQuota ≠ s.cfg.slotQuota ∨ SlotsGranted s) : SlotsGranted (writeCfga v s) := by
  by_cases hq : (setCfga v s.cfg).slotQuota = s.cfg.slotQuota
  · have hg : SlotsGranted s := h.resolve_left fun hne => hne hq
    rw [writeCfga_same hq]
    exact hg.same rfl (fun _ => rfl) rfl hq
  · rw [writeCfga_new hq]
    exact (grantSlots_slotsGranted _).arbitrate

/-- Settles O48. -/
theorem registerAndConfigurationWrites : Obligations.RegisterAndConfigurationWrites := by
  refine ⟨fun v s hr => ⟨exec_registerWrite hr 0x04 v, exec_registerWrite hr 0x05 v, exec_registerWrite hr 0x13 v,
    exec_registerWrite hr 0x17 v, fun a ha => ?_, fun hv => ?_, rfl, fun p hp => exec_registerWrite_row v s hp⟩,
    fun v s hr => ?_, fun v s hr => ?_⟩
  · rw [exec_registerWrite hr, writeRegister_ignored ha]
  · rw [exec_registerWrite hr]
    exact congrArg Host.Outcome.next (if_neg hv)
  · have hexec : exec (.cfgaWrite v) s = .next (writeCfga v s) := busAccess_high s _ hr
    intro level retry quota cfg
    have hcfg : setCfga v s.cfg = cfg := setCfga_eq v s.cfg
    rw [← hcfg]
    refine ⟨fun hq => by rw [hexec, writeCfga_same hq, reconfigured], _, hexec, writeCfga_cfg v s, writeCfga_othersKept v s,
      fun k hk => writeCfga_owner v s hk, fun k u hf hne ho => writeCfga_within_quota v s hf hne ho,
      writeCfga_slotsGranted, fun hok => ?_⟩
    rw [← writeCfga_cfg v s]
    exact cfgaWord_toNat (hok.writeCfga v)
  · have hcfg := setCfgb_eq v s.cfg
    intro seg
    exact (busAccess_high s (writeCfgb v) hr).trans (by rw [writeCfgb, hcfg])

end Sys2Proof.Machine
end

section
/-! PROOFS. O23: a READ tag's block is read (R86). -/
namespace Sys2Proof.Machine

/-! ## A READ tag's words wait for the host -/

/-- No grant takes a slot of a READ tag that is not RESERVED. -/
theorem TagGrant.slot_of_read {s : State} {u n : TagNo} {g : Grant} {k : SlotNo} (h : TagGrant s u g)
    (ho : (s.slot k).owner = some n) (hk : (s.tag n).kind = .read) (hs : (s.slot k).state ≠ .reserved) :
    (applyGrant g s).slot k = s.slot k := by
  cases h with
  | load m rest _ _ hm =>
    have hmem := (mem_slotsOf s u (· == .reserved) m).1 (by rw [hm]; exact List.mem_cons_self ..)
    have hne : k ≠ m := fun e => hs (e ▸ by simpa using hmem.2)
    simp [applyGrant, grantLoad_eq u s m rest hm, setSlot_slot, hne]
  | programSlot m hw _ _ hm =>
    have hmem := (mem_slotsOf s u _ m).1 (lowestBound_mem hm)
    have hne : k ≠ m := fun e => by
      rw [← e, ho] at hmem
      obtain rfl := Option.some.inj hmem.1
      rw [hk] at hw
      cases hw
    simp [applyGrant, grantProgram_write_eq u s m hw hm, setSlot_slot, hne]
  | retry c _ hc _ => simp [applyGrant, grantRetry_eq u s c hc]
  | checkRead => simp [applyGrant, grantCheckRead_eq]
  | programZero hz => simp [applyGrant, grantProgram_zero_eq u s hz]
  | reallocate b p ps _ _ hb _ hf => simp [applyGrant, grantReallocate_eq u s b p ps hb hf]

theorem arbitrate_slot_of_read {s : State} {n : TagNo} {k : SlotNo} (ho : (s.slot k).owner = some n)
    (hk : (s.tag n).kind = .read) (hs : (s.slot k).state ≠ .reserved) : (arbitrate s).slot k = s.slot k := by
  rcases arbitrate_cases s with h | ⟨g, -, hg, h⟩
  · rw [h]
  · rw [h]
    rcases (choose_cases hg).records with ⟨u, -, -, hg⟩ | ⟨-, -, hpool⟩
    · exact hg.slot_of_read ho hk hs
    · exact slot_eq_of_pool hpool k

/-- The close of an event leaves a READ tag's slot as it is, unless it is RESERVED. -/
theorem settle_slot_of_read (s₀ : State) {s : State} {n : TagNo} {k : SlotNo} (ho : (s.slot k).owner = some n)
    (hk : (s.tag n).kind = .read) (hf : (s.slot k).state ≠ .free) (hr : (s.slot k).state ≠ .reserved) :
    (settle s₀ s).slot k = s.slot k := by
  have hclosed : (closedEvent s₀ s).slot k = s.slot k := by
    have h := (grantSlots_grants 8 (closeQueue s₀ s)).slot_kept (k := k) (by simpa using hf)
    simpa [closedEvent] using h
  have hkind : ((closedEvent s₀ s).tag n).kind = .read := by
    rw [closedEvent_tag]
    simpa using hk
  rw [settle_eq, arbitrate_slot_of_read (by rwa [hclosed]) hkind (by rwa [hclosed]), hclosed]

/-! ## The block as read -/

theorem blockWords_words (s : State) (pbn : Nat) : (blockWords s pbn).1 = wordsRead s pbn := by
  unfold blockWords wordsRead blockAt freeBlock
  cases Memory.find s.array.blocks pbn <;> rfl

theorem wordsRead_congr {s t : State} (hb : t.array.blocks = s.array.blocks) (hf : t.freeDraws = s.freeDraws)
    (pbn : Nat) : wordsRead t pbn = wordsRead s pbn := by
  unfold wordsRead blockAt
  rw [hb, hf]

/-- The block's outcome is taken, and its words stand in the slot (R86). -/
def blockRead (n : TagNo) (o : ArrayOp) (l : Nat) (c : ReadClass) (s : State) : State :=
  fillSlot n o.pbn o.data (readTaken n l c s)

section
variable (n : TagNo) (o : ArrayOp) (l : Nat) (c : ReadClass) (s : State)

theorem blockRead_tag (u : TagNo) :
    (blockRead n o l c s).tag u = if u = n then (s.tag n).takeRead l s.cfg.refreshLevel c else s.tag u := by
  rw [blockRead, fillSlot_tag, readTaken_tag]

theorem blockRead_keeps :
    (blockRead n o l c s).map = (handOff l c s).map ∧ (blockRead n o l c s).cond = (handOff l c s).cond ∧
    (blockRead n o l c s).array = s.array ∧ (blockRead n o l c s).req.queue = s.req.queue ∧
    (blockRead n o l c s).port = s.port ∧ (blockRead n o l c s).cfg = s.cfg ∧ (blockRead n o l c s).cmd = s.cmd ∧
    (blockRead n o l c s).lastRead = s.lastRead ∧ (blockRead n o l c s).jrnl = s.jrnl := by
  simp [blockRead, readTaken]

variable {o}

theorem blockRead_slot {k : SlotNo} (hd : o.data = .slot k) :
    (blockRead n o l c s).slot k = { s.slot k with state := .full, pos := 0, data := wordsRead s o.pbn } := by
  have hwords : wordsRead (readTaken n l c s) o.pbn = wordsRead s o.pbn :=
    wordsRead_congr (by simp) (by simp [readTaken]) _
  have hslot : (blockWords (readTaken n l c s) o.pbn).2.slot k = s.slot k := slot_eq_of_pool (by simp) k
  rw [blockRead, hd, fillSlot_eq, (serviceAppend_records ..).2.1, filledSlot, setSlot_slot, if_pos rfl, blockWords_words,
    hwords, hslot]

theorem mem_blockRead_svc {k : SlotNo} (hd : o.data = .slot k) : n ∈ (blockRead n o l c s).svc.list := by
  rw [blockRead, hd, fillSlot_eq]
  exact (mem_serviceAppend n n _).2 (.inl rfl)

end

/-! ## The last block -/

/-- With its last block a READ tag is ENDING (R6): the block waits for the host. -/
def endIfLast (n : TagNo) (s : State) : State :=
  if (s.tag n).completed = (s.tag n).count then becomeEnding n s else s

theorem endIfLast_keeps (n : TagNo) (s : State) :
    (endIfLast n s).map = s.map ∧ (endIfLast n s).cond = s.cond ∧ (endIfLast n s).array = s.array ∧
    (endIfLast n s).req.queue = s.req.queue ∧ (endIfLast n s).port = s.port ∧ (endIfLast n s).cfg = s.cfg ∧
    (endIfLast n s).cmd = s.cmd ∧ (endIfLast n s).lastRead = s.lastRead ∧ (endIfLast n s).jrnl = s.jrnl ∧
    (endIfLast n s).svc = s.svc ∧ (endIfLast n s).pool = s.pool := by
  unfold endIfLast
  split <;> exact ⟨rfl, rfl, rfl, rfl, rfl, rfl, rfl, rfl, rfl, rfl, rfl⟩

theorem endIfLast_tag (n : TagNo) (s : State) :
    (endIfLast n s).tag n =
      { s.tag n with state := if (s.tag n).completed = (s.tag n).count then .ending else (s.tag n).state } := by
  unfold endIfLast
  split
  · rw [becomeEnding_tag, if_pos rfl]
  · rfl

/-- A success with a slot for its words: the tag's READY data keeps it from being DONE (R86). -/
theorem tagReadFinal_success {n : TagNo} {o : ArrayOp} {l : Nat} {c : ReadClass} {s : State} {k : SlotNo}
    (hab : (s.tag n).abortMark = false) (hk : (s.tag n).kind = .read) (hc : c.success = true) (hd : o.data = .slot k)
    (ho : (s.slot k).owner = some n) : tagReadFinal n o l c s = endIfLast n (blockRead n o l c s) := by
  have hend : endRead n (blockRead n o l c s) = becomeEnding n (blockRead n o l c s) := by
    refine endRead_of_readable ((slotsOf_isEmpty _ n _).2 ⟨k, ?_, ?_⟩) <;> rw [blockRead_slot n l c s hd]
    · exact ho
    · rfl
  rw [tagReadFinal_read hab hk, readTagFinal, if_pos hc, ← blockRead]
  dsimp only
  rw [hend, endIfLast]

/-- Settles O23. -/
theorem successfulReadFillsSlot : Obligations.SuccessfulReadFillsSlot := by
  intro n k o c out s hflight hop hd hown hk hc hout
  obtain ⟨ho, hreq, hactive, hq, hab, -⟩ := hflight
  have hsuccess := (classify_success (decide (0 < c.retries)) out).2 hout
  have hexec := exec_readCompletion ho hop hreq out
  rw [tagReadDone_final (s := idleUnit s) (c := c) (by simpa using hc) (.inr (.inr hout)),
    tagReadFinal_success (s := idleUnit s) (by simpa using hab) (by simpa using hk) hsuccess hd (by simpa using hown)]
    at hexec
  generalize hr : classify (decide (0 < c.retries)) out = r at hexec hsuccess
  have hcorr : r.corrections = corrections out := hr ▸ classify_corrections ..
  have hweak : r.weak s.cfg.refreshLevel = true ↔ weakBlock s.cfg.refreshLevel c.retries out := hr ▸ classify_weak ..
  have hslot : (endIfLast n (blockRead n o c.lbn r (idleUnit s))).slot k =
      { s.slot k with state := .full, pos := 0, data := wordsRead s o.pbn } := by
    obtain ⟨-, -, -, -, -, -, -, -, -, -, hpool⟩ := endIfLast_keeps n (blockRead n o c.lbn r (idleUnit s))
    rw [slot_eq_of_pool hpool, blockRead_slot n c.lbn r (idleUnit s) hd]
    rfl
  have htag : (endIfLast n (blockRead n o c.lbn r (idleUnit s))).tag n =
      { (s.tag n).takeRead c.lbn s.cfg.refreshLevel r with
        state := if (s.tag n).completed + 1 = (s.tag n).count then .ending else .active } := by
    rw [endIfLast_tag, blockRead_tag, if_pos rfl, ← hactive]
    rfl
  obtain ⟨hmap, hcond, harray, hqueue, hport, hcfg, hcmd, hlast, hjrnl, hsvc, -⟩ :=
    endIfLast_keeps n (blockRead n o c.lbn r (idleUnit s))
  obtain ⟨hmap', hcond', harray', hqueue', hport', hcfg', hcmd', hlast', hjrnl'⟩ :=
    blockRead_keeps n o c.lbn r (idleUnit s)
  have hn : n ∈ (endIfLast n (blockRead n o c.lbn r (idleUnit s))).req.queue := by
    rw [hqueue, hqueue']
    simpa using hq
  refine ⟨_, hexec, ?_, ?_, ?_, ?_, ?_, ?_, ?_, ?_, ?_, ?_, ?_, ?_, ?_, ?_, ?_, ?_, ?_, ?_⟩
  · rw [settle_slot_of_read s (n := n) (by rw [hslot]; exact hown) (by rw [htag]; exact hk) (by simp [hslot])
      (by simp [hslot]), hslot]
  · refine settle_svc_of_mem s _ n ((mem_closeQueue_svc s _ n).2 (.inr ?_))
    rw [hsvc]
    exact mem_blockRead_svc n c.lbn r (idleUnit s) hd
  · simp [htag, Tag.takeRead]
  · simp [htag, Tag.takeRead, hcorr]
  · rintro ⟨hw, hok⟩
    simp [htag, Tag.takeRead, hsuccess, hweak.2 hw, hok]
  · intro hno
    rw [← hweak] at hno
    simp [htag, Tag.takeRead, hsuccess, hno]
  · simp [htag, Tag.takeRead, hsuccess]
  · simp [htag, Tag.takeRead]
  · split
    · rename_i hcount
      exact settle_staysIn_ending s _ n hn (by rw [htag]; exact if_pos hcount)
    · rename_i hcount
      exact settle_staysIn_active s _ n hn (by rw [htag]; exact if_neg hcount)
  · subst hr
    exact listsAfterRead_settle (s := idleUnit s) (hmap.trans hmap')
  · subst hr
    exact countsAfterRead_settle (s := idleUnit s) (hcond.trans hcond')
  · simp [RemapKept, hmap, hmap']
  · exact arrayKept_of_eq (by simp [harray, harray']) (by simp [harray, harray'])
  · simp [hport, hport']
  · simp [hcfg, hcfg']
  · simp [hcmd, hcmd']
  · simp [hlast, hlast']
  · simp [hjrnl, hjrnl']

end Sys2Proof.Machine
end

section
/-! PROOFS. O34: operations without an owner end (R84, R116, R148). -/
namespace Sys2Proof.Machine

/-! ## An orphan read -/

theorem exec_orphanRead {l : Nat} {o : ArrayOp} {s : State} (ho : s.array.op = some o) (hop : o.operation = .readBlock)
    (hreq : o.requester = .none) (hl : o.lbn = some l) (out : ReadOutcome) :
    exec (.readBlockCompletion out) s =
      .next (settle s (freeDataSlot o.data (handOff l (classify (o.purpose == .retry) out) (idleUnit s)))) := by
  change execReadBlockCompletion out s = _
  unfold execReadBlockCompletion
  rw [ho]
  simp only [hop, if_true, readDone, hreq, orphanReadDone, hl]

/-- A read is taken as retried exactly if its purpose is RETRY (R84). -/
theorem retried_iff (o : ArrayOp) :
    (o.purpose == .retry) = decide (0 < if o.purpose = .retry then 1 else 0) := by
  by_cases h : o.purpose = .retry <;> simp [h]

theorem orphanRead_ends {l : Nat} {o : ArrayOp} {s : State} (ho : s.array.op = some o) (hop : o.operation = .readBlock)
    (hreq : o.requester = .none) (hl : o.lbn = some l) {retries : Nat}
    (hret : (o.purpose == .retry) = decide (0 < retries)) (out : ReadOutcome) :
    Completes (.readBlockCompletion out) s fun t =>
      ListsAfterRead l retries out s t ∧ CountsAfterRead retries out s t ∧ (∀ k, o.data = .slot k → slotFreed t k) ∧
      (∀ n, ProgressKept s t n) ∧ RemapKept s t ∧ ArrayKept s t := by
  have hexec := exec_orphanRead ho hop hreq hl out
  rw [hret] at hexec
  refine ⟨_, hexec, listsAfterRead_settle (s := idleUnit s) (by simp),
    countsAfterRead_settle (l := l) (s := idleUnit s) (by simp),
    fun k hk => settle_slotFreed _ _ k ?_, fun n => progressKept_settle (by simp), ⟨by simp, by simp⟩,
    arrayKept_of_eq (by simp) (by simp)⟩
  rw [freeDataSlot_slot, if_pos hk]

/-! ## What every end of an orphan program does -/

/-- The machine before the LBN's own removal or offer: the array, the map and the counts may have changed, the queue, the
patrol, the lists and the store mode have not. -/
structure BeforeOrphanEnd (s x : State) : Prop where
  req : x.req = s.req
  patrol : x.patrol = s.patrol
  pending : x.map.pendingLbns = s.map.pendingLbns
  overflow : x.map.overflow = s.map.overflow
  refresh : x.map.refresh = s.map.refresh
  mode : x.jrnl.mode = s.jrnl.mode
  lastStarted : x.jrnl.lastStarted = s.jrnl.lastStarted

/-- What is the same at every end of an orphan program (R116, R145). -/
structure OrphanEnd (l : Nat) (d : DataPlace) (s y : State) : Prop where
  req : y.req = s.req
  patrol : y.patrol = (cancelPatrol l s).patrol
  slot : ∀ k, d = .slot k → y.slot k = Slot.free
  mode : y.jrnl.mode = s.jrnl.mode
  lastStarted : y.jrnl.lastStarted = s.jrnl.lastStarted

/-- After a PASS the LBN leaves the lists. -/
def orphanPassed (l : Nat) (d : DataPlace) (x : State) : State := freeDataSlot d (cancelPatrol l (clearLists l x))

/-- After a FAIL the LBN is offered to the pending list. -/
def orphanFailed (l : Nat) (d : DataPlace) (x : State) : State := freeDataSlot d (offerPending l (cancelPatrol l x))

theorem cancelPatrol_patrol_congr (l : Nat) {s x : State} (h : x.patrol = s.patrol) :
    (cancelPatrol l x).patrol = (cancelPatrol l s).patrol := by
  rw [cancelPatrol_eq, cancelPatrol_eq, h]

theorem freeDataSlot_patrol (d : DataPlace) (s : State) : (freeDataSlot d s).patrol = s.patrol := by simp

variable {l : Nat} {d : DataPlace} {s x y : State}

theorem orphanPassed_keeps (l : Nat) (d : DataPlace) (x : State) :
    (orphanPassed l d x).map = (clearLists l x).map ∧ (orphanPassed l d x).cond = (clearLists l x).cond ∧
    (orphanPassed l d x).jrnl = x.jrnl := by
  simp [orphanPassed]

theorem orphanFailed_keeps (l : Nat) (d : DataPlace) (x : State) :
    (orphanFailed l d x).map = (offerPending l (cancelPatrol l x)).map ∧
    (orphanFailed l d x).cond = (offerPending l (cancelPatrol l x)).cond ∧ (orphanFailed l d x).jrnl = x.jrnl := by
  simp [orphanFailed]

theorem orphanPassed_remapKept (s₀ : State) (l : Nat) (d : DataPlace) (x : State) :
    RemapKept x (settle s₀ (orphanPassed l d x)) := by
  refine ⟨?_, ?_⟩ <;> simp [orphanPassed]

theorem orphanFailed_remapKept (s₀ : State) (l : Nat) (d : DataPlace) (x : State) :
    RemapKept x (settle s₀ (orphanFailed l d x)) := by
  refine ⟨?_, ?_⟩ <;> simp [orphanFailed]

theorem BeforeOrphanEnd.passed (h : BeforeOrphanEnd s x) (l : Nat) (d : DataPlace) :
    OrphanEnd l d s (orphanPassed l d x) where
  req := by simp [orphanPassed, h.req]
  patrol := by
    have hp : (cancelPatrol l (clearLists l x)).patrol = (cancelPatrol l s).patrol :=
      cancelPatrol_patrol_congr l (by simp [h.patrol])
    rw [← hp, orphanPassed]
    exact freeDataSlot_patrol ..
  slot k hk := by rw [orphanPassed, freeDataSlot_slot, if_pos hk]
  mode := by simp [orphanPassed, h.mode]
  lastStarted := by simp [orphanPassed, h.lastStarted]

theorem BeforeOrphanEnd.failed (h : BeforeOrphanEnd s x) (l : Nat) (d : DataPlace) :
    OrphanEnd l d s (orphanFailed l d x) where
  req := by simp [orphanFailed, h.req]
  patrol := by
    have hp := cancelPatrol_patrol_congr l h.patrol
    simpa [orphanFailed] using hp
  slot k hk := by rw [orphanFailed, freeDataSlot_slot, if_pos hk]
  mode := by simp [orphanFailed, h.mode]
  lastStarted := by simp [orphanFailed, h.lastStarted]

theorem BeforeOrphanEnd.listsCleared (h : BeforeOrphanEnd s x) (l : Nat) (d : DataPlace)
    (hy : y.map = (orphanPassed l d x).map) : ListsCleared l s (settle s y) := by
  obtain ⟨hp, ho, hr⟩ := clearLists_lists l x
  obtain ⟨hmap, -⟩ := orphanPassed_keeps l d x
  exact listsCleared_settle (by rw [hy, hmap, hp, h.pending]) (by rw [hy, hmap, ho, h.overflow])
    (by rw [hy, hmap, hr, h.refresh])

theorem BeforeOrphanEnd.offeredPending (h : BeforeOrphanEnd s x) (l : Nat) (d : DataPlace) :
    OfferedPending l s (settle s (orphanFailed l d x)) := by
  obtain ⟨hlists, hr⟩ := offerPending_lists l (cancelPatrol l x)
  obtain ⟨hmap, -⟩ := orphanFailed_keeps l d x
  have hrefresh := settle_refresh s (orphanFailed l d x)
  refine ⟨(settle_pending s _).trans ?_, ?_⟩
  · rw [hmap, hlists]
    simp [h.pending, h.overflow]
  · rw [hmap, hr] at hrefresh
    simpa [h.refresh] using hrefresh

theorem orphanPassed_rawKept (l : Nat) (d : DataPlace) (x : State) :
    RawKept [CondId.pendingBlocks] x (orphanPassed l d x) :=
  (clearLists_rawKept l x).trans (rawKept_of_cond (orphanPassed_keeps l d x).2.1 _)

theorem orphanFailed_rawKept (l : Nat) (d : DataPlace) (x : State) :
    RawKept [CondId.pendingBlocks] x (orphanFailed l d x) :=
  (offerPending_rawKept l (cancelPatrol l x)).trans (rawKept_of_cond (orphanFailed_keeps l d x).2.1 _)

/-- With no other block that owes a reallocation nothing is given up (R107): the refresh block that may owe one for the LBN
is gone (R145). -/
theorem OrphanEnd.resolveOwed (h : OrphanEnd l d s y) (hno : NoOtherOwes s none l) : resolveOwed y = y := by
  obtain ⟨htags, hrefresh⟩ := hno
  refine resolveOwed_eq_self (fun u hu => (resolved_unowed ?_).2) ?_
  · rw [tag_eq_of_req h.req]
    exact htags u (h.req ▸ hu) nofun
  · have hblock : y.patrol.refreshBlock = (s.patrol.cancelBlock l).refreshBlock := by
      rw [h.patrol]
      rfl
    unfold refreshOffers
    rw [hblock]
    rcases cancelBlock_cases l s.patrol with ⟨b, -, -, -, e⟩ | ⟨hn, -, -, e⟩ | ⟨hkeep, -, e⟩ <;> rw [e]
    · simp [hn]
    · cases hb : s.patrol.refreshBlock with
      | none => rfl
      | some b =>
        have howed : b.owed = false := Bool.eq_false_iff.2 fun ho => hkeep b hb ⟨hrefresh b hb ho, ho⟩
        simp [howed]

theorem OrphanEnd.checkSequence (h : OrphanEnd l d s y)
    (hlt : s.jrnl.mode = .ready → s.jrnl.lastStarted < 4294967295) : checkSequence y = y :=
  checkSequence_eq_self (by rwa [h.mode, h.lastStarted])

/-- What every end of an orphan program leaves when the event closes. -/
theorem OrphanEnd.settle (h : OrphanEnd l d s y) :
    PatrolCancelled l s (settle s y) ∧ (∀ n, ProgressKept s (settle s y) n) ∧ (settle s y).jrnl.mode = s.jrnl.mode ∧
      ∀ k, d = .slot k → slotFreed (settle s y) k :=
  ⟨patrolCancelled_settle h.patrol, fun n => progressKept_settle (tag_eq_of_req h.req n), (settle_mode s y).trans h.mode,
    fun k hk => settle_slotFreed s y k (h.slot k hk)⟩

/-! ## The four ways to the end -/

theorem programmed_before (o : ArrayOp) (out : ProgramOutcome) (s : State) : BeforeOrphanEnd s (programmed o out s) :=
  ⟨rfl, rfl, rfl, rfl, rfl, rfl, rfl⟩

/-- A program has failed, and is counted (R99). -/
def failureCounted (o : ArrayOp) (s : State) : State := (programmed o .fail s).bump CondId.programFailures

theorem failureCounted_before (o : ArrayOp) (s : State) : BeforeOrphanEnd s (failureCounted o s) := by
  refine ⟨?_, ?_, ?_, ?_, ?_, ?_, ?_⟩ <;> simp [failureCounted]

/-- The LBN is mapped to the spare, with a commit reason that has no waiter (R104, R116). -/
def orphanRemapped (l : Nat) (o : ArrayOp) (s : State) : State :=
  reportSpares ((commitReason (remapTo l o.pbn (programmed o .pass s))).bump CondId.reallocations)

theorem orphanRemapped_before (l : Nat) (o : ArrayOp) (s : State) : BeforeOrphanEnd s (orphanRemapped l o s) := by
  refine ⟨?_, ?_, ?_, ?_, ?_, ?_, ?_⟩ <;> simp [orphanRemapped]

/-- The spare is retired, with a commit reason that has no waiter (R105, R116). -/
def orphanSpareFailed (o : ArrayOp) (s : State) : State :=
  commitReason (reportSpares (retire o.pbn (failureCounted o s)))

theorem orphanSpareFailed_before (o : ArrayOp) (s : State) : BeforeOrphanEnd s (orphanSpareFailed o s) := by
  refine ⟨?_, ?_, ?_, ?_, ?_, ?_, ?_⟩ <;> simp [orphanSpareFailed, failureCounted]

/-! ## Condition 5 -/

/-- Condition 5 is the number of free spares (R101). -/
def SparesReported (s : State) : Prop := (s.cond[CondId.sparesRemaining]).raw = (freeSpares s).length

theorem reportSpares_reported (s : State) : SparesReported (reportSpares s) := by
  have hfree : freeSpares (reportSpares s) = freeSpares s := freeSpares_of_remapKept ⟨by simp, by simp⟩
  unfold SparesReported
  rw [hfree, reportSpares, State.setRaw, setCond_same, setRaw_raw]

theorem SparesReported.congr {s t : State} (h : SparesReported s) (hraw : RawKept [CondId.pendingBlocks] s t)
    (hmap : RemapKept s t) : SparesReported t := by
  unfold SparesReported at *
  rw [hraw _ (by decide), freeSpares_of_remapKept hmap, h]

/-! ## Which operations these are -/

/-- The operation in flight is an orphan's program, or the refresh program of a refresh block that is gone (R148). -/
structure OrphanProgram (s : State) (o : ArrayOp) (l : Nat) : Prop where
  op : s.array.op = some o
  operation : o.operation = .programBlock
  lbn : o.lbn = some l
  requester : o.requester = .none ∨ (o.requester = .patrol ∧ s.patrol.refreshBlock = none)

/-- Where the words stand: the patrol's are no slot's. -/
def orphanPlace (o : ArrayOp) : DataPlace := if o.requester = .patrol then .none else o.data

/-- A refresh program's PASS in place is counted as condition 9 even without its refresh block (R148). -/
def countRefresh (o : ArrayOp) (s : State) : State := if o.requester = .patrol then s.bump CondId.refreshes else s

theorem countRefresh_keeps (o : ArrayOp) (s : State) :
    (countRefresh o s).req = s.req ∧ (countRefresh o s).patrol = s.patrol ∧ (countRefresh o s).pool = s.pool ∧
    (countRefresh o s).map = s.map ∧ (countRefresh o s).jrnl = s.jrnl := by
  unfold countRefresh
  split <;> simp

theorem OrphanEnd.countRefresh (h : OrphanEnd l d s y) (o : ArrayOp) : OrphanEnd l d s (countRefresh o y) := by
  obtain ⟨hreq, hpatrol, hpool, -, hjrnl⟩ := countRefresh_keeps o y
  exact ⟨hreq.trans h.req, hpatrol.trans h.patrol, fun k hk => (slot_eq_of_pool hpool k).trans (h.slot k hk),
    by rw [hjrnl, h.mode], by rw [hjrnl, h.lastStarted]⟩

/-- The program ends as an orphan's, and a refresh program's PASS in place is counted besides. -/
theorem OrphanProgram.programDone {o : ArrayOp} (h : OrphanProgram s o l) (out : ProgramOutcome) :
    programDone o out (programmed o out s) =
      let y := orphanProgramDone l o.pbn (o.purpose == .reallocation) (orphanPlace o) out (programmed o out s)
      if out = .pass ∧ (o.purpose == .reallocation) = false then Machine.countRefresh o y else y := by
  have hl := h.lbn
  unfold Machine.programDone Machine.countRefresh orphanPlace
  rcases h.requester with hr | ⟨hr, hb⟩
  · simp [hr, hl]
  · simp only [hr, hl, Option.getD_some, patrolProgramDone, programmed_keeps, hb, if_true]

variable {o : ArrayOp}

theorem OrphanProgram.exec_passInPlace (h : OrphanProgram s o l) (hpur : o.purpose ≠ .reallocation) :
    exec (.programBlockCompletion .pass) s =
      .next (Machine.settle s (Machine.countRefresh o (orphanPassed l (orphanPlace o) (programmed o .pass s)))) := by
  rw [exec_programCompletion h.op h.operation, h.programDone, beq_eq_false_iff_ne.2 hpur]
  rfl

theorem OrphanProgram.exec_failInPlace (h : OrphanProgram s o l) (hpur : o.purpose ≠ .reallocation) :
    exec (.programBlockCompletion .fail) s =
      .next (Machine.settle s (orphanFailed l (orphanPlace o) (failureCounted o s))) := by
  rw [exec_programCompletion h.op h.operation, h.programDone, beq_eq_false_iff_ne.2 hpur]
  rfl

theorem OrphanProgram.exec_passOnSpare (h : OrphanProgram s o l) (hpur : o.purpose = .reallocation)
    (hno : NoOtherOwes s none l) (hlt : s.jrnl.mode = .ready → s.jrnl.lastStarted < 4294967295) :
    exec (.programBlockCompletion .pass) s =
      .next (Machine.settle s (orphanPassed l (orphanPlace o) (orphanRemapped l o s))) := by
  have hend := (orphanRemapped_before l o s).passed l (orphanPlace o)
  have hdone : orphanProgramDone l o.pbn true (orphanPlace o) .pass (programmed o .pass s) =
      Machine.checkSequence (Machine.resolveOwed (orphanPassed l (orphanPlace o) (orphanRemapped l o s))) := rfl
  rw [hend.resolveOwed hno, hend.checkSequence hlt] at hdone
  rw [exec_programCompletion h.op h.operation, h.programDone, beq_iff_eq.2 hpur]
  simp [hdone]

theorem OrphanProgram.exec_failOnSpare (h : OrphanProgram s o l) (hpur : o.purpose = .reallocation)
    (hno : NoOtherOwes s none l) (hlt : s.jrnl.mode = .ready → s.jrnl.lastStarted < 4294967295) :
    exec (.programBlockCompletion .fail) s =
      .next (Machine.settle s (orphanFailed l (orphanPlace o) (orphanSpareFailed o s))) := by
  have hend := (orphanSpareFailed_before o s).failed l (orphanPlace o)
  have hdone : orphanProgramDone l o.pbn true (orphanPlace o) .fail (programmed o .fail s) =
      Machine.checkSequence (Machine.resolveOwed (orphanFailed l (orphanPlace o) (orphanSpareFailed o s))) := rfl
  rw [hend.resolveOwed hno, hend.checkSequence hlt] at hdone
  rw [exec_programCompletion h.op h.operation, h.programDone, beq_iff_eq.2 hpur]
  simp [hdone]

/-- What `OrphanEnd` leaves, in the words of O34. -/
theorem OrphanEnd.ends (h : OrphanEnd l (orphanPlace o) s y) :
    PatrolCancelled l s (Machine.settle s y) ∧ (∀ n, ProgressKept s (Machine.settle s y) n) ∧
      (Machine.settle s y).jrnl.mode = s.jrnl.mode ∧
      (o.requester = .none → ∀ k, o.data = .slot k → slotFreed (Machine.settle s y) k) := by
  obtain ⟨hpatrol, hprogress, hmode, hslot⟩ := h.settle
  refine ⟨hpatrol, hprogress, hmode, fun hr k hk => hslot k ?_⟩
  rw [orphanPlace, if_neg (by simp [hr]), hk]

theorem settle_rawKept {ids : List CondId} (s₀ y : State) : RawKept ids y (Machine.settle s₀ y) :=
  rawKept_of_cond (by simp) ids

/-! ## The four ends -/

theorem OrphanProgram.passInPlace (l : Nat) (o : ArrayOp) (s : State) :
    let t := Machine.settle s (Machine.countRefresh o (orphanPassed l (orphanPlace o) (programmed o .pass s)))
    ListsCleared l s t ∧ RemapKept s t ∧ (o.requester = .none → RawKept [CondId.pendingBlocks] s t) ∧
      (o.requester = .patrol → RawCounted CondId.refreshes [CondId.pendingBlocks] s t) := by
  intro t
  obtain ⟨-, -, -, hmap, -⟩ := countRefresh_keeps o (orphanPassed l (orphanPlace o) (programmed o .pass s))
  obtain ⟨hmap', -⟩ := orphanPassed_keeps l (orphanPlace o) (programmed o .pass s)
  have hraw : RawKept [CondId.pendingBlocks] s (orphanPassed l (orphanPlace o) (programmed o .pass s)) :=
    orphanPassed_rawKept l (orphanPlace o) (programmed o .pass s)
  refine ⟨(programmed_before o .pass s).listsCleared l (orphanPlace o) hmap, ⟨by simp [t, hmap, hmap'],
    by simp [t, hmap, hmap']⟩, fun hr => ?_, fun hr => ?_⟩
  · refine (hraw.trans (rawKept_of_cond ?_ _)).trans (settle_rawKept _ _)
    rw [Machine.countRefresh, if_neg (by simp [hr])]
  · have hcount : Machine.countRefresh o (orphanPassed l (orphanPlace o) (programmed o .pass s)) =
        (orphanPassed l (orphanPlace o) (programmed o .pass s)).bump CondId.refreshes := if_pos hr
    exact (bump_rawCounted _ _ _).of_kept hraw (hcount ▸ settle_rawKept _ _) (by decide)

theorem OrphanProgram.passOnSpare (l : Nat) (o : ArrayOp) (s : State) :
    let t := Machine.settle s (orphanPassed l (orphanPlace o) (orphanRemapped l o s))
    ListsCleared l s t ∧ MappedTo l o.pbn s t ∧ reasonMade s t ∧ SparesReported t ∧
      RawCounted CondId.reallocations [CondId.sparesRemaining, CondId.pendingBlocks] s t := by
  intro t
  obtain ⟨-, -, hjrnl⟩ := orphanPassed_keeps l (orphanPlace o) (orphanRemapped l o s)
  have hraw : RawKept [CondId.pendingBlocks] (orphanRemapped l o s) t :=
    (orphanPassed_rawKept l (orphanPlace o) _).trans (settle_rawKept _ _)
  have hremap : RemapKept (orphanRemapped l o s) t := orphanPassed_remapKept ..
  have hmapped : MappedTo l o.pbn s (orphanRemapped l o s) :=
    MappedTo.congr (t := remapTo l o.pbn (programmed o .pass s)) (remapTo_mapped l o.pbn (programmed o .pass s))
      ⟨by simp [orphanRemapped], by simp [orphanRemapped]⟩
  have hspares : RawKept [CondId.sparesRemaining] _ (orphanRemapped l o s) := reportSpares_rawKept _
  refine ⟨(orphanRemapped_before l o s).listsCleared l (orphanPlace o) rfl, hmapped.congr hremap,
    settle_reasonMade s _ s ?_ ?_, (reportSpares_reported _).congr hraw hremap, ?_⟩
  · rw [hjrnl]
    simp [orphanRemapped, commitReason]
  · rw [hjrnl]
    simp [orphanRemapped]
  · exact (bump_rawCounted _ _ _).of_kept (rawKept_of_cond (by simp) _)
      ((hspares.mono (by decide)).trans (hraw.mono (by decide))) (by decide)

theorem failureCounted_counted (o : ArrayOp) (s : State) (ids : List CondId) :
    RawCounted CondId.programFailures ids s (failureCounted o s) := bump_rawCounted (programmed o .fail s) _ _

theorem OrphanProgram.failInPlace (l : Nat) (o : ArrayOp) (s : State) :
    let t := Machine.settle s (orphanFailed l (orphanPlace o) (failureCounted o s))
    OfferedPending l s t ∧ RemapKept s t ∧ RawCounted CondId.programFailures [CondId.pendingBlocks] s t := by
  intro t
  obtain ⟨hremap, hretired⟩ : RemapKept (failureCounted o s) t := orphanFailed_remapKept ..
  have hraw : RawKept [CondId.pendingBlocks] (failureCounted o s) t :=
    (orphanFailed_rawKept l (orphanPlace o) _).trans (settle_rawKept _ _)
  exact ⟨(failureCounted_before o s).offeredPending l (orphanPlace o),
    ⟨hremap.trans (by simp [failureCounted]), hretired.trans (by simp [failureCounted])⟩,
    (failureCounted_counted o s _).of_kept (.refl _ s) hraw (by decide)⟩

theorem OrphanProgram.failOnSpare (l : Nat) (o : ArrayOp) (s : State) :
    let t := Machine.settle s (orphanFailed l (orphanPlace o) (orphanSpareFailed o s))
    OfferedPending l s t ∧ SpareRetired o.pbn s t ∧ reasonMade s t ∧ SparesReported t ∧
      RawCounted CondId.programFailures [CondId.sparesRemaining, CondId.pendingBlocks] s t := by
  intro t
  obtain ⟨-, -, hjrnl⟩ := orphanFailed_keeps l (orphanPlace o) (orphanSpareFailed o s)
  have hend : RawKept [CondId.pendingBlocks] (orphanSpareFailed o s) t :=
    (orphanFailed_rawKept l (orphanPlace o) _).trans (settle_rawKept _ _)
  have hraw : RawKept [CondId.pendingBlocks] (reportSpares (retire o.pbn (failureCounted o s))) t :=
    RawKept.trans (rawKept_of_cond rfl _) hend
  have hremap : RemapKept (reportSpares (retire o.pbn (failureCounted o s))) t :=
    orphanFailed_remapKept s l (orphanPlace o) (orphanSpareFailed o s)
  have hretired : SpareRetired o.pbn s (retire o.pbn (failureCounted o s)) := retire_spare o.pbn (failureCounted o s)
  have hspares := reportSpares_rawKept (retire o.pbn (failureCounted o s))
  refine ⟨(orphanSpareFailed_before o s).offeredPending l (orphanPlace o), ?_, settle_reasonMade s _ s ?_ ?_,
    (reportSpares_reported _).congr hraw hremap, ?_⟩
  · exact SpareRetired.congr (t := reportSpares (retire o.pbn (failureCounted o s)))
      (hretired.congr ⟨by simp, by simp⟩) hremap
  · rw [hjrnl]
    simp [orphanSpareFailed, commitReason]
  · rw [hjrnl]
    simp [orphanSpareFailed, failureCounted]
  · refine (failureCounted_counted o s _).of_kept (.refl _ s) ?_ (by decide)
    exact RawKept.trans (t := retire o.pbn (failureCounted o s)) (rawKept_of_cond rfl _)
      ((hspares.mono (by decide)).trans (hraw.mono (by decide)))

end Sys2Proof.Machine
end

section
/-! PROOFS. O34, from the four ends. -/
namespace Sys2Proof.Machine

/-- Settles O34. -/
theorem orphanOperationsEnd : Obligations.OrphanOperationsEnd := by
  refine ⟨fun l o out s ho hop hreq hl => orphanRead_ends ho hop hreq hl (retried_iff o) out,
    fun l o s ho hop hl hreq hno hlt => ?_⟩
  have h : OrphanProgram s o l := ⟨ho, hop, hl, hreq⟩
  intro ends
  by_cases hpur : o.purpose = .reallocation
  · obtain ⟨hcleared, hpass⟩ := OrphanProgram.passOnSpare l o s
    obtain ⟨hoffered, hfail⟩ := OrphanProgram.failOnSpare l o s
    exact ⟨⟨_, h.exec_passOnSpare hpur hno hlt, ((orphanRemapped_before l o s).passed l _).ends, hcleared,
        fun hne => absurd hpur hne, fun _ => hpass⟩,
      _, h.exec_failOnSpare hpur hno hlt, ((orphanSpareFailed_before o s).failed l _).ends, hoffered,
        fun hne => absurd hpur hne, fun _ => hfail⟩
  · obtain ⟨hcleared, hpass⟩ := OrphanProgram.passInPlace l o s
    obtain ⟨hoffered, hfail⟩ := OrphanProgram.failInPlace l o s
    exact ⟨⟨_, h.exec_passInPlace hpur, (((programmed_before o .pass s).passed l _).countRefresh o).ends, hcleared,
        fun _ => hpass, fun he => absurd he hpur⟩,
      _, h.exec_failInPlace hpur, ((failureCounted_before o s).failed l _).ends, hoffered, fun _ => hfail,
        fun he => absurd he hpur⟩

end Sys2Proof.Machine
end

section
/-! PROOFS. O21, O22: SVCNEXT takes the first entry that is not stale, and SERVICE follows the service list (R52 to R58). -/
namespace Sys2Proof.Machine

/-! ## The kind of an entry (R53) -/

theorem popKind_of_done {s : State} {n : TagNo} (h : (s.tag n).state = .done) : popKind s n = some .complete := by
  simp [popKind, h]

theorem popKind_of_dataIn {s : State} {n : TagNo} (h : (s.tag n).state ≠ .done) (hi : hasDataIn s n) :
    popKind s n = some .dataIn := by
  simp [popKind, h, (readPortSlot_isSome s n).2 hi]

theorem popKind_of_dataOut {s : State} {n : TagNo} (h : (s.tag n).state ≠ .done) (hi : ¬ hasDataIn s n)
    (ho : hasDataOut s n) : popKind s n = some .dataOut := by
  rw [← readPortSlot_isSome] at hi
  simp [popKind, h, hi, (writePortSlot_isSome s n).2 ho]

/-- A stale entry fails the three tests. -/
theorem popKind_of_stale {s : State} {n : TagNo} (h : isStale s n) : popKind s n = none := by
  obtain ⟨hd, hi, ho⟩ := h
  rw [← readPortSlot_isSome] at hi
  rw [← writePortSlot_isSome] at ho
  simp [popKind, hd, hi, ho]

/-! ## The entries that a pop takes (R52, R55, R56) -/

/-- Stale entries are discarded one after another. -/
theorem popEntries_stale_append {s : State} {pre : List TagNo} (h : ∀ u ∈ pre, isStale s u) (l : List TagNo) :
    popEntries s (pre ++ l) = popEntries s l := by
  induction pre with
  | nil => rfl
  | cons u pre ih =>
    obtain ⟨hu, hpre⟩ := List.forall_mem_cons.1 h
    rw [List.cons_append, popEntries, popKind_of_stale hu]
    exact ih hpre

theorem popEntries_all_stale {s : State} {l : List TagNo} (h : ∀ u ∈ l, isStale s u) : popEntries s l = (none, []) := by
  have e := popEntries_stale_append h []
  rwa [List.append_nil] at e

theorem popEntries_first {s : State} {pre : List TagNo} (h : ∀ u ∈ pre, isStale s u) {n : TagNo} {k : PopKind}
    (hk : popKind s n = some k) (rest : List TagNo) : popEntries s (pre ++ n :: rest) = (some (n, k), rest) := by
  rw [popEntries_stale_append h, popEntries, hk]

/-! ## The word (R52) -/

theorem svcWord_eq (n : TagNo) (k : PopKind) (more : Bool) :
    svcWord (some (n, k)) more = BitVec.ofNat 16 (n.val + 16 * k.code + more.toNat * 32768) := by
  have hn := n.isLt
  have hk : k.code < 4 := by cases k <;> decide
  have hm := Bool.toNat_lt more
  have e₁ : (at16 0 n.val).toNat = n.val * 2 ^ 0 := at16_toNat (by omega)
  have e₂ := or_at16_toNat (lo := 4) (v := k.code) e₁ (by omega) (by omega)
  have e₃ := or_bit16_toNat (lo := 15) (b := more) e₂ (by omega) (by omega)
  refine BitVec.eq_of_toNat_eq (e₃.trans ?_)
  rw [BitVec.toNat_ofNat]
  omega

/-- MORE tells whether entries remain. -/
theorem svcWord_rest (n : TagNo) (k : PopKind) (rest : List TagNo) :
    svcWord (some (n, k)) (!rest.isEmpty) =
      BitVec.ofNat 16 (n.val + 16 * k.code + (if rest = [] then 0 else 32768)) := by
  rw [svcWord_eq]
  cases rest <;> simp

/-! ## A pop -/

/-- The entry of `n` is taken with the stale ones before it: the word is on the bus and `rest` remains. -/
def entryTaken (n : TagNo) (k : PopKind) (rest : List TagNo) (s : State) : State :=
  { s with
    lastRead := BitVec.ofNat 16 (n.val + 16 * k.code + (if rest = [] then 0 else 32768))
    svc := { s.svc with list := rest } }

/-- A pop of an entry that is not stale takes it, and collects a COMPLETE one (R54, R57). -/
theorem exec_svcnextPop_first {pre rest : List TagNo} {n : TagNo} {k : PopKind} {s : State} (hr : s.rstnLow = false)
    (hl : s.svc.list = pre ++ n :: rest) (hpre : ∀ u ∈ pre, isStale s u) (hk : popKind s n = some k) :
    exec .svcnextPop s =
      .next (if k = .complete then collect n (entryTaken n k rest s) else entryTaken n k rest s) := by
  refine (busAccess_high s pop hr).trans (congrArg Host.Outcome.next ?_)
  simp only [pop, hl, popEntries_first hpre hk, svcWord_rest]
  cases k <;> rfl

/-- A pop that finds no entry to answer is EMPTY (R56). -/
theorem exec_svcnextPop_empty {s : State} (hr : s.rstnLow = false) (h : ∀ u ∈ s.svc.list, isStale s u) :
    exec .svcnextPop s = .next { s with lastRead := 0, svc := { s.svc with list := [] } } := by
  refine (busAccess_high s pop hr).trans (congrArg Host.Outcome.next ?_)
  simp only [pop, popEntries_all_stale h]
  rfl

/-- Settles O21: the kind of the entry decides the pop (`exec_svcnextPop_first`). -/
theorem popClassifiesFirstLiveEntry : Obligations.PopClassifiesFirstLiveEntry := by
  refine ⟨fun pre rest n s hr hl hpre => ⟨fun hd => ?_, fun hd hi => ?_, fun hd hi ho => ?_⟩,
    fun s hr h => exec_svcnextPop_empty hr h⟩
  · exact exec_svcnextPop_first hr hl hpre (popKind_of_done hd)
  · exact exec_svcnextPop_first hr hl hpre (popKind_of_dataIn hd hi)
  · exact exec_svcnextPop_first hr hl hpre (popKind_of_dataOut hd hi ho)

/-! ## SERVICE (R58) -/

/-- Bit 0 of the causes is SERVICE's level, as nothing latches it. -/
theorem causes_service {s : State} (h0 : s.attn.latched.getLsbD 0 = false) :
    (causes s).getLsbD 0 = !s.svc.list.isEmpty := by
  rw [causes, BitVec.getLsbD_or, h0, Bool.false_or]
  cases s.svc.list <;> simp

theorem regRead_acause_service {s : State} (h0 : s.attn.latched.getLsbD 0 = false) :
    (regRead s 0x02).getLsbD 0 = !s.svc.list.isEmpty := by
  rw [← causes_service h0]
  change ((causes s).setWidth 16).getLsbD 0 = _
  simp

theorem clearCauses_not_service {s : State} (h0 : s.attn.latched.getLsbD 0 = false) (v : Word) :
    (clearCauses v s).attn.latched.getLsbD 0 = false := by
  rw [clearCauses, BitVec.getLsbD_and, h0, Bool.false_and]

/-- A cause that is present and enabled drives ATTNn low (R196). -/
theorem attnLow_of_bit {s : State} {k : Nat} (hc : (causes s).getLsbD k = true)
    (he : s.attn.enable.getLsbD k = true) : attnLow s = true := by
  refine bne_iff_ne.2 fun e => ?_
  have hb : (causes s &&& s.attn.enable).getLsbD k = true := by rw [BitVec.getLsbD_and, hc, he, Bool.and_self]
  rw [e, BitVec.getLsbD_zero] at hb
  cases hb

/-- Settles O22: SERVICE reads as the list stands (`regRead_acause_service`), and neither ACAUSE nor a pop latches it. -/
theorem serviceCauseFollowsList : Obligations.ServiceCauseFollowsList := by
  intro s h0
  refine ⟨?_, fun v t ht => ?_, fun hl he => ?_, fun hr h => ?_⟩
  · rw [regRead_acause_service h0, Bool.not_eq_true', List.isEmpty_eq_false_iff]
  · cases next_inj ht
    split
    · rfl
    · rw [regRead_acause_service h0]
      exact regRead_acause_service (clearCauses_not_service h0 v)
  · have hs : (causes s).getLsbD 0 = true := by
      rw [causes_service h0, Bool.not_eq_true', List.isEmpty_eq_false_iff]
      exact hl
    exact attnLow_of_bit hs he
  · exact ⟨_, exec_svcnextPop_empty hr h, rfl,
      regRead_acause_service (s := { s with lastRead := 0, svc := { s.svc with list := [] } }) h0⟩

end Sys2Proof.Machine
end

section
/-! PROOFS. When the arbiter has nothing to choose (R68), and what can make nothing new runnable. -/
namespace Sys2Proof.Machine

/-! ## The work that is left -/

/-- The arbiter has nothing to choose exactly if no journal work is due, no tag of the queue can run, and there is no
background work (R68). -/
theorem choose_eq_none {s : State} :
    choose s = none ↔ ¬ journalDue s ∧ (∀ u ∈ s.req.queue, ¬ canRun s u) ∧ backgroundWork s = none := by
  simp only [choose, foregroundWork, Option.or_eq_none_iff, List.findSome?_eq_none_iff, ← journalWork_isSome,
    ← tagWork_isSome, Option.not_isSome_iff_eq_none]

/-- The conditions of a background grant leave the background work no other choice (R72). -/
theorem BackgroundGrant.work {s : State} {g : Grant} (h : BackgroundGrant s g) (hq : s.req.queue = [])
    (he : s.patrol.quietElapsed = true) (hm : s.jrnl.mode = .ready) : backgroundWork s = some g := by
  have hp : (!(bgPermitted s && s.jrnl.mode == .ready)) = false := by simp [bgPermitted, foregroundIdle, hq, he, hm]
  unfold backgroundWork
  simp only [hp, Bool.false_eq_true, if_false]
  cases h with
  | retry r hr ho => simp [hr, ho]
  | reallocate b p ps hr hb ho hf => simp [hr, hb, ho, hf]
  | program hr hb hv => simp [hr, hb, hv]
  | refreshRead l rest hr hb hv hl => simp [hr, hb, hv, hl]
  | patrolRead hr hb hv hl hs => simp [hr, hb, hv, hl, hs]

/-- What the background work depends on: the queue, the store mode, the map, and of the patrol all but its mode, status,
resume LBN and timers. An engine that is no longer RUNNING has no more work than before. -/
theorem backgroundWork_none {s t : State} (hq : t.req.queue = s.req.queue) (hj : t.jrnl.mode = s.jrnl.mode)
    (hmap : t.map = s.map) (he : t.patrol.quietElapsed = s.patrol.quietElapsed)
    (hread : t.patrol.bgRead = s.patrol.bgRead) (hblock : t.patrol.refreshBlock = s.patrol.refreshBlock)
    (hbuf : t.patrol.buf = s.patrol.buf) (hrun : t.patrol.state = .running → s.patrol.state = .running)
    (h : backgroundWork s = none) : backgroundWork t = none := by
  refine Option.eq_none_iff_forall_ne_some.2 fun g hg => ?_
  obtain ⟨hqt, het, hjt, hg⟩ := backgroundWork_cases hg
  have hsome : BackgroundGrant s g := by
    cases hg with
    | retry r hr ho => exact .retry r (hread ▸ hr) ho
    | reallocate b p ps hr hb ho hf =>
      exact .reallocate b p ps (hread ▸ hr) (hblock ▸ hb) ho (by simpa [freeSpares, isMapped, hmap] using hf)
    | program hr hb hv => exact .program (hread ▸ hr) (hblock ▸ hb) (hbuf ▸ hv)
    | refreshRead l rest hr hb hv hl => exact .refreshRead l rest (hread ▸ hr) (hblock ▸ hb) (hbuf ▸ hv) (hmap ▸ hl)
    | patrolRead hr hb hv hl hs => exact .patrolRead (hread ▸ hr) (hblock ▸ hb) (hbuf ▸ hv) (hmap ▸ hl) (hrun hs)
  rw [hsome.work (hq ▸ hqt) (he ▸ het) (hj ▸ hjt)] at h
  cases h

/-- A tag whose record is as before, and whose RESERVED and FULL slots were so before, can run only if it could before. -/
theorem canRun_of_slots {s t : State} {u : TagNo} (ht : t.tag u = s.tag u)
    (hslot : ∀ k, (t.slot k).state = .reserved ∨ (t.slot k).state = .full → t.slot k = s.slot k)
    (hm : t.jrnl.mode = s.jrnl.mode) (hf : freeSpares t = freeSpares s) (h : canRun t u) : canRun s u := by
  unfold canRun canReallocate at h ⊢
  rw [ht, hm, hf] at h
  obtain ⟨hst, ha, hw, h⟩ := h
  refine ⟨hst, ha, hw, ?_⟩
  cases hk : (s.tag u).kind with
  | read =>
    simp only [hk] at h ⊢
    exact h.imp id fun ⟨hc, k, ho, hs⟩ => ⟨hc, k, hslot k (.inl hs) ▸ ⟨ho, hs⟩⟩
  | check =>
    simp only [hk] at h ⊢
    exact h
  | write =>
    simp only [hk] at h ⊢
    exact ⟨h.1, h.2.imp id fun ⟨hp, k, ho, hs⟩ => ⟨hp, k, hslot k (.inr hs) ▸ ⟨ho, hs⟩⟩⟩
  | zero =>
    simp only [hk] at h ⊢
    exact h

/-! ## Nothing new to run -/

/-- The unit and the array are as they were, and nothing is runnable that was not. -/
structure NoNewWork (s t : State) : Prop where
  array : t.array = s.array
  jrnl : t.jrnl = s.jrnl
  queue : t.req.queue = s.req.queue
  tags : ∀ u, canRun t u → canRun s u
  background : backgroundWork s = none → backgroundWork t = none

theorem NoNewWork.refl (s : State) : NoNewWork s s := ⟨rfl, rfl, rfl, fun _ => id, id⟩

theorem NoNewWork.trans {s t u : State} (h : NoNewWork s t) (h' : NoNewWork t u) : NoNewWork s u :=
  ⟨h'.array.trans h.array, h'.jrnl.trans h.jrnl, h'.queue.trans h.queue, fun n hn => h.tags n (h'.tags n hn),
    fun hs => h'.background (h.background hs)⟩

theorem NoNewWork.choose {s t : State} (h : NoNewWork s t) (hs : choose s = none) : Machine.choose t = none := by
  obtain ⟨hdue, hrun, hbg⟩ := choose_eq_none.1 hs
  exact choose_eq_none.2 ⟨(journalDue_congr h.jrnl).not.2 hdue, fun u hu hr => hrun u (h.queue ▸ hu) (h.tags u hr),
    h.background hbg⟩

theorem NoNewWork.unitOk {s t : State} (h : NoNewWork s t) (hs : UnitOk s) : UnitOk t := fun ho =>
  h.choose (hs (h.array ▸ ho))

/-- What leaves the patrol as it was, and of the slots no new RESERVED or FULL one. -/
theorem NoNewWork.of_slots {s t : State} (harray : t.array = s.array) (hjrnl : t.jrnl = s.jrnl) (hmap : t.map = s.map)
    (hpatrol : t.patrol = s.patrol) (hqueue : t.req.queue = s.req.queue) (htag : ∀ u, t.tag u = s.tag u)
    (hslot : ∀ k, (t.slot k).state = .reserved ∨ (t.slot k).state = .full → t.slot k = s.slot k) : NoNewWork s t := by
  refine ⟨harray, hjrnl, hqueue, fun u => ?_, backgroundWork_none hqueue (by rw [hjrnl]) hmap ?_ ?_ ?_ ?_ ?_⟩
  · exact canRun_of_slots (htag u) hslot (by rw [hjrnl]) (freeSpares_of_remapKept ⟨by rw [hmap], by rw [hmap]⟩)
  all_goals simp [hpatrol]

/-- What leaves the tags, the queue, the slots, the patrol, the map, the Journal and the array as they were. -/
theorem NoNewWork.of_eq {s t : State} (harray : t.array = s.array) (hjrnl : t.jrnl = s.jrnl) (hmap : t.map = s.map)
    (hpatrol : t.patrol = s.patrol) (hqueue : t.req.queue = s.req.queue) (htag : ∀ u, t.tag u = s.tag u)
    (hpool : t.pool = s.pool) : NoNewWork s t :=
  .of_slots harray hjrnl hmap hpatrol hqueue htag fun k _ => slot_eq_of_pool hpool k

/-! ## After the arbiter's choice -/

/-- After the arbiter's choice the unit is busy or nothing is runnable (R68). -/
theorem arbitrate_unitOk (s : State) : UnitOk (arbitrate s) := fun hidle => by
  cases ho : s.array.op with
  | some o =>
    rw [arbitrate_busy s (by simp [ho]), ho] at hidle
    cases hidle
  | none =>
    cases hg : choose s with
    | none =>
      rw [arbitrate_quiet s hg]
      exact hg
    | some g =>
      obtain ⟨o, hbusy, -⟩ := (choose_cases hg).requester
      rw [arbitrate_grant s g ho hg, hbusy] at hidle
      cases hidle

theorem settle_unitOk (s₀ s : State) : UnitOk (settle s₀ s) := arbitrate_unitOk _

end Sys2Proof.Machine
end

section
/-! PROOFS. O59: every command either makes nothing runnable, or ends with the arbiter's choice (R68). -/
namespace Sys2Proof.Machine

/-- Every block of the array is stored as it was. -/
structure ContentKept (s t : State) : Prop where
  blocks : t.array.blocks = s.array.blocks
  ring : t.array.ring = s.array.ring

theorem ContentKept.of_eq {s t : State} (h : t.array = s.array) : ContentKept s t := ⟨by rw [h], by rw [h]⟩

theorem ContentKept.arrayKept {s t : State} (h : ContentKept s t) : ArrayKept s t := arrayKept_of_eq h.blocks h.ring

/-- How a command ends that neither completes a program nor takes the power away: nothing new is runnable, or its last act
is the arbiter's choice; either way the array holds what it held. -/
inductive Ends (s t : State) : Prop
  | quiet : NoNewWork s t → Ends s t
  | chosen (x : State) : ContentKept s x → t = arbitrate x → Ends s t

theorem Ends.refl (s : State) : Ends s s := .quiet (.refl s)

theorem Ends.arbitrate {s x : State} (h : x.array = s.array) : Ends s (arbitrate x) := .chosen x (.of_eq h) rfl

theorem Ends.settle {s x : State} (h : x.array = s.array) (s₀ : State) : Ends s (settle s₀ x) :=
  .chosen (closedEvent s₀ x) (.of_eq (by simpa using h)) rfl

theorem Ends.unitOk {s t : State} (h : Ends s t) (hs : UnitOk s) : UnitOk t := by
  cases h with
  | quiet hq => exact hq.unitOk hs
  | chosen x _ ht =>
    rw [ht]
    exact arbitrate_unitOk x

theorem Ends.contentKept {s t : State} (h : Ends s t) : ContentKept s t := by
  cases h with
  | quiet hq => exact .of_eq hq.array
  | chosen x hx ht =>
    subst ht
    exact ⟨by simpa using hx.blocks, by simpa using hx.ring⟩

/-! ## Requests, port and service list -/

theorem submit_ends (v : Word) (s : State) : Ends s (submit v s) := by
  unfold submit
  split
  · exact .quiet (.of_eq rfl rfl rfl rfl rfl (fun _ => rfl) rfl)
  · refine .settle ?_ s
    simp [accept_eq, setQResult, enqueued, numbered, endQuiet, apply_ite State.array, renumber]

theorem requestAbort_ends (v : Word) (s : State) : Ends s (requestAbort v s) := by
  unfold requestAbort abortEvery abortOne setAbortIgnored
  dsimp only
  refine .settle ?_ s
  (repeat' split) <;> simp

/-- A slot that becomes neither RESERVED nor FULL gives no tag anything to run. -/
theorem NoNewWork.setSlot (s : State) (n : SlotNo) {y : Slot} (hy : y.state ≠ .reserved ∧ y.state ≠ .full) :
    NoNewWork s (s.setSlot n y) := by
  refine .of_slots rfl rfl rfl rfl rfl (fun _ => rfl) fun k hk => ?_
  rw [setSlot_slot] at hk ⊢
  split at hk
  · exact absurd hk (not_or.2 hy)
  · rename_i hne
    rw [if_neg hne]

theorem readPort_ends (s : State) : Ends s (readPort s) := by
  unfold readPort
  split
  · exact .quiet (.of_eq rfl rfl rfl rfl rfl (fun _ => rfl) rfl)
  · rename_i k _
    dsimp only
    split
    · have hdrive : NoNewWork s (drive ((s.slot k).data.getD (s.slot k).pos 0) s) :=
        .of_eq rfl rfl rfl rfl rfl (fun _ => rfl) rfl
      exact .quiet (hdrive.trans (.setSlot _ k ⟨nofun, nofun⟩))
    · refine .settle ?_ s
      unfold deliver
      dsimp only
      split <;> simp

theorem writePort_ends (v : Word) (s : State) : Ends s (writePort v s) := by
  unfold writePort
  split
  · exact .quiet (.of_eq rfl rfl rfl rfl rfl (fun _ => rfl) rfl)
  · dsimp only
    split
    · exact .quiet (.setSlot s _ ⟨nofun, nofun⟩)
    · refine .settle ?_ s
      simp [receive]

/-- A collected tag is FREE, and has nothing to run (R54). -/
theorem NoNewWork.collect (n : TagNo) (s : State) : NoNewWork s (collect n s) := by
  have htag : ∀ u, (Machine.collect n s).tag u = if u = n then Tag.free else s.tag u := fun u => setTag_tag ..
  refine ⟨rfl, rfl, rfl, fun u hr => ?_, id⟩
  by_cases hu : u = n
  · obtain ⟨hst, -⟩ := hr
    rw [htag, if_pos hu] at hst
    exact absurd hst (by simp [Tag.free])
  · exact canRun_of_slots ((htag u).trans (if_neg hu)) (fun _ _ => rfl) rfl rfl hr

theorem pop_ends (s : State) : Ends s (pop s) := by
  have hpop : ∀ (w : Word) (rest : List TagNo), NoNewWork s (drive w { s with svc := { s.svc with list := rest } }) :=
    fun w rest => .of_eq rfl rfl rfl rfl rfl (fun _ => rfl) rfl
  obtain ⟨stale, -, ⟨e, -⟩ | ⟨n, k, rest, e, -, -⟩⟩ := popEntries_split s s.svc.list
  · simp only [pop, e]
    exact .quiet (hpop ..)
  · simp only [pop, e]
    cases k with
    | complete => exact .quiet ((hpop ..).trans (.collect n _))
    | dataIn | dataOut => exact .quiet (hpop ..)

/-! ## The Command Unit -/

theorem completeCommand_noNewWork (code : BitVec 8) (r : CmdResult) (s : State) :
    NoNewWork s (completeCommand code r s) := .of_eq rfl rfl rfl rfl rfl (fun _ => rfl) rfl

theorem latch_noNewWork (c : Cause) (s : State) : NoNewWork s (latch c s) :=
  .of_eq rfl rfl rfl rfl rfl (fun _ => rfl) rfl

theorem requestCommand_ends (c : Command) (take : State → State) (s : State) (h : Ends s (take s)) :
    Ends s (requestCommand c take s) := by
  unfold requestCommand
  split
  · exact .quiet (latch_noNewWork ..)
  · split
    · exact .quiet (completeCommand_noNewWork ..)
    · split
      · exact .quiet (completeCommand_noNewWork ..)
      · exact h

theorem takeStart_ends (c : Command) (m : PatrolMode) (s : State) : Ends s (takeStart c m s) :=
  .arbitrate (by simp)

/-- An engine that PATROL_STOP has made IDLE has no read of its own left to start (R139). -/
theorem stopPatrol_noNewWork (s : State) : NoNewWork s (stopPatrol s) := by
  refine ⟨by simp, by simp, by simp, fun u => canRun_of_slots ?_ (fun k _ => ?_) (by simp) ?_,
    backgroundWork_none (by simp) (by simp) (by simp) (by simp) (by simp) (by simp) (by simp) fun h => ?_⟩
  · exact tag_eq_of_req (by simp) u
  · exact slot_eq_of_pool (by simp) k
  · exact freeSpares_of_remapKept ⟨by simp, by simp⟩
  · unfold stopPatrol at h
    split at h
    · exact h
    all_goals cases h

theorem requestStop_ends (s : State) : Ends s (requestStop s) :=
  requestCommand_ends _ _ s (.quiet ((stopPatrol_noNewWork s).trans (completeCommand_noNewWork ..)))

theorem requestReport_ends (s : State) : Ends s (requestReport s) :=
  requestCommand_ends _ _ s (.quiet (.of_eq rfl rfl rfl rfl rfl (fun _ => rfl) rfl))

theorem requestThresholds_ends (s : State) : Ends s (requestThresholds s) := by
  refine requestCommand_ends _ _ s ?_
  unfold takeThresholds
  split
  · refine .settle ?_ s
    simp [waitForCommit, loadThresholds]
  · exact .quiet (completeCommand_noNewWork ..)

theorem requestSave_ends (s : State) : Ends s (requestSave s) :=
  requestCommand_ends _ _ s (.settle (by simp [waitForCommit]) s)

theorem writeCmd_ends (v : Word) (s : State) : Ends s (writeCmd v s) := by
  unfold writeCmd
  cases commandOf (lowByte v) with
  | none =>
    unfold refuseCode
    dsimp only
    split
    · exact .quiet (latch_noNewWork ..)
    · exact .quiet (completeCommand_noNewWork ..)
  | some c =>
    cases c with
    | patrolSegment | patrolPass | patrolAuto => exact requestCommand_ends _ _ s (takeStart_ends ..)
    | patrolStop => exact requestStop_ends s
    | reportBuild => exact requestReport_ends s
    | thresholdLoad => exact requestThresholds_ends s
    | conditionSave => exact requestSave_ends s

theorem readReport_ends (s : State) : Ends s (readReport s) := by
  unfold readReport
  split <;> exact .quiet (.of_eq rfl rfl rfl rfl rfl (fun _ => rfl) rfl)

theorem writeReport_ends (v : Word) (s : State) : Ends s (writeReport v s) := by
  unfold writeReport
  split <;> exact .quiet (.of_eq rfl rfl rfl rfl rfl (fun _ => rfl) rfl)

/-! ## Registers and resets -/

theorem writeCfga_ends (v : Word) (s : State) : Ends s (writeCfga v s) := by
  unfold writeCfga
  dsimp only
  split
  · exact .quiet (.of_eq rfl rfl rfl rfl rfl (fun _ => rfl) rfl)
  · exact .arbitrate (by simp)

/-- A soft reset takes the operation in flight from its tag, and leaves the blocks as they are (R75, R198). -/
theorem softReset_ends (s : State) : Ends s (softReset s) := by
  unfold softReset
  split
  · exact .refl s
  · exact .chosen (startQuiet (resetBlocks s)) ⟨by simp [resetBlocks], by simp [resetBlocks]⟩ rfl

theorem writeRegister_ends (a : RegAddr) (v : Word) (s : State) : Ends s (writeRegister a v s) := by
  unfold writeRegister
  split
  case h_5 => exact submit_ends v s
  case h_7 => exact writePort_ends v s
  case h_8 => exact requestAbort_ends v s
  case h_9 => exact writeCmd_ends v s
  case h_11 => exact writeReport_ends v s
  case h_12 => exact writeCfga_ends v s
  case h_15 =>
    split
    · exact softReset_ends s
    · exact .refl s
  all_goals exact .quiet (.of_eq rfl rfl rfl rfl rfl (fun _ => rfl) rfl)

/-! ## The completion of a read -/

theorem tagReadDone_array (n : TagNo) (o : ArrayOp) (out : ReadOutcome) (s : State) :
    (tagReadDone n o out s).array = s.array := by
  unfold tagReadDone tagReadFinal readTagFinal endRead
  dsimp only
  (repeat' split) <;> simp

theorem patrolReadDone_array (o : ArrayOp) (out : ReadOutcome) (s : State) :
    (patrolReadDone o out s).array = s.array := by
  unfold patrolReadDone
  dsimp only
  (repeat' split) <;> simp [fillBuffer_eq]

theorem ringTaken_array (o : ArrayOp) (out : ReadOutcome) (s : State) : (ringTaken o out s).array = s.array := by
  have hconsider : ∀ p i t, (considerImage p i t).array = t.array := fun p i t => by
    rcases considerImage_cases p i t with e | e <;> rw [e]
  unfold ringTaken
  (repeat' split) <;> simp [hconsider]

theorem endScan_array (s : State) : (endScan s).array = s.array := by
  unfold endScan
  split <;> simp [loadImage, freshState]

theorem readDone_array (o : ArrayOp) (out : ReadOutcome) (s : State) : (readDone o out s).array = s.array := by
  unfold readDone
  split
  · exact tagReadDone_array ..
  · exact patrolReadDone_array ..
  · rw [ringReadDone_eq]
    split
    · exact ringTaken_array ..
    · rw [endScan_array, ringTaken_array]
  · unfold orphanReadDone
    split <;> simp

theorem readBlockCompletion_ends {out : ReadOutcome} {s t : State} (ht : execReadBlockCompletion out s = .next t) :
    Ends s t := by
  cases next_inj ht
  split
  · rename_i o _
    split
    · exact .chosen (closedEvent s (readDone o out (idleUnit s)))
        ⟨by simp [readDone_array], by simp [readDone_array]⟩ rfl
    · exact .refl s
  · exact .refl s

/-! ## Every command -/

theorem busAccess_ends {s t : State} {f : State → State} (h : Ends s (f s)) (ht : busAccess s f = .next t) :
    Ends s t := by
  cases hr : s.rstnLow with
  | true =>
    rw [busAccess_low s f hr] at ht
    cases next_inj ht
    exact .refl s
  | false =>
    rw [busAccess_high s f hr] at ht
    cases next_inj ht
    exact h

/-- How every other command ends (R68). -/
theorem exec_ends {c : Instr} {s t : State} (ht : exec c s = .next t) (hp : ∀ out, c ≠ .programBlockCompletion out)
    (hr : c ≠ .powerOnReset) : Ends s t := by
  cases c with
  | submission v => exact busAccess_ends (submit_ends v s) ht
  | abortRequest v => exact busAccess_ends (requestAbort_ends v s) ht
  | ptagWrite | acauseWrite | aenableWrite | cfgbWrite =>
    exact busAccess_ends (.quiet (.of_eq rfl rfl rfl rfl rfl (fun _ => rfl) rfl)) ht
  | pdataRead => exact busAccess_ends (readPort_ends s) ht
  | pdataWrite v => exact busAccess_ends (writePort_ends v s) ht
  | svcnextPop => exact busAccess_ends (pop_ends s) ht
  | patrolSegment | patrolPass | patrolAuto =>
    exact busAccess_ends (requestCommand_ends _ _ s (takeStart_ends ..)) ht
  | patrolStop => exact busAccess_ends (requestStop_ends s) ht
  | reportBuild => exact busAccess_ends (requestReport_ends s) ht
  | reportBuildCompletion =>
    cases next_inj ht
    split
    · exact .quiet (.of_eq rfl rfl rfl rfl rfl (fun _ => rfl) rfl)
    all_goals exact .refl s
  | thresholdLoad => exact busAccess_ends (requestThresholds_ends s) ht
  | conditionSave => exact busAccess_ends (requestSave_ends s) ht
  | badCommand v => exact busAccess_ends (writeCmd_ends v s) ht
  | rdataRead => exact busAccess_ends (readReport_ends s) ht
  | rdataWrite v => exact busAccess_ends (writeReport_ends v s) ht
  | cfgaWrite v => exact busAccess_ends (writeCfga_ends v s) ht
  | registerWrite a v => exact busAccess_ends (writeRegister_ends a v s) ht
  | softReset => exact busAccess_ends (softReset_ends s) ht
  | powerOnReset => exact absurd rfl hr
  | startUp =>
    cases next_inj ht
    split
    · exact .arbitrate rfl
    · exact .refl s
  | readBlockCompletion out => exact readBlockCompletion_ends ht
  | programBlockCompletion out => exact absurd rfl (hp out)
  | quietTimerExpiry =>
    cases next_inj ht
    split
    · exact .arbitrate (by simp)
    · exact .refl s
  | gapTimerExpiry =>
    cases next_inj ht
    split
    · exact .arbitrate (by simp)
    · exact .refl s

/-- The end of a program leaves the next operation to the arbiter. -/
theorem programBlockCompletion_unitOk {out : ProgramOutcome} {s t : State} (hs : UnitOk s)
    (ht : execProgramBlockCompletion out s = .next t) : UnitOk t := by
  cases next_inj ht
  split
  · split
    · exact settle_unitOk _ _
    · exact hs
  · exact hs

/-- A part held in power-on reset has nothing to run: no ring read is owed before RSTn rises, and no tag is live (R199). -/
theorem powerOnReset_unitOk {s t : State} (ht : execPowerOnReset s = .next t) : UnitOk t := by
  cases next_inj ht
  exact fun _ => rfl

/-- Settles O59: a command that ends without the arbiter's choice makes nothing runnable (`exec_ends`), and after the
choice the unit is busy or nothing is runnable (`arbitrate_unitOk`). -/
theorem arrayUnitKept : Obligations.ArrayUnitKept := by
  refine kept_of_commands (fun _ _ h => h) fun c s t hs ht => ?_
  by_cases hp : ∃ out, c = .programBlockCompletion out
  · obtain ⟨out, rfl⟩ := hp
    exact programBlockCompletion_unitOk hs ht
  · by_cases hr : c = .powerOnReset
    · subst hr
      exact powerOnReset_unitOk ht
    · exact (exec_ends ht (fun out e => hp ⟨out, e⟩) hr).unitOk hs

end Sys2Proof.Machine
end

section
/-! PROOFS. O28: what programs, the loss of power and every other command leave in the blocks of the array (R65, R66, R76). -/
namespace Sys2Proof.Machine

/-! ## Undefined content -/

theorem undefine_other (a : ArrayUnit) {pbn p : Nat} (h : p ≠ pbn) :
    Memory.find (undefine pbn a).blocks p = Memory.find a.blocks p ∧
      Memory.find (undefine pbn a).ring p = Memory.find a.ring p :=
  ⟨Memory.find_drop_other _ _ _ h, Memory.find_drop_other _ _ _ h⟩

theorem undefine_same {a : ArrayUnit} (hb : Memory.wf a.blocks = true) (hr : Memory.wf a.ring = true) (pbn : Nat) :
    Memory.find (undefine pbn a).blocks pbn = none ∧ Memory.find (undefine pbn a).ring pbn = none :=
  ⟨Memory.find_drop_same _ _ hb, Memory.find_drop_same _ _ hr⟩

/-! ## The end of a program -/

/-- A program touches its own block alone (R66). -/
theorem blockAt_programmed_other (o : ArrayOp) (out : ProgramOutcome) (s : State) {p : Nat} (h : p ≠ o.pbn) :
    blockAt (programmed o out s) p = blockAt s p := by
  have hundef := undefine_other s.array h
  simp only [blockAt, programmed, storeProgram]
  split
  · rw [Memory.find_put_other _ _ _ _ h]
  · rw [Memory.find_put_other _ _ _ _ h]
  · rw [hundef.1, hundef.2]
  · rw [hundef.1, hundef.2]

theorem blockAt_programmed_fail {o : ArrayOp} {s : State} (hs : StorageOk s) :
    blockAt (programmed o .fail s) o.pbn = (none, none) := by
  obtain ⟨hb, hr, -⟩ := hs
  exact Prod.ext_iff.2 (undefine_same hb hr o.pbn)

theorem blockAt_programmed_words {o : ArrayOp} {ws : Words} (h : o.payload = .words ws) (s : State) :
    (blockAt (programmed o .pass s) o.pbn).1 = some ws := by
  simp only [blockAt, programmed, storeProgram, h]
  exact Memory.find_put_same ..

theorem blockAt_programmed_image {o : ArrayOp} {i : StateImage} (h : o.payload = .image i) (s : State) :
    (blockAt (programmed o .pass s) o.pbn).2 = some i := by
  simp only [blockAt, programmed, storeProgram, h]
  exact Memory.find_put_same ..

/-! ## What follows a program leaves the array alone -/

theorem tagProgramDone_array (n : TagNo) (l pbn : Nat) (r : Bool) (out : ProgramOutcome) (s : State) :
    (tagProgramDone n l pbn r out s).array = s.array := by
  cases out <;> cases r <;> simp [tagProgramDone, tagOwes]

theorem orphanProgramDone_array (l pbn : Nat) (r : Bool) (d : DataPlace) (out : ProgramOutcome) (s : State) :
    (orphanProgramDone l pbn r d out s).array = s.array := by
  cases out <;> cases r <;> simp [orphanProgramDone]

theorem patrolProgramDone_array (l pbn : Nat) (r : Bool) (out : ProgramOutcome) (s : State) :
    (patrolProgramDone l pbn r out s).array = s.array := by
  unfold patrolProgramDone
  split
  · cases out <;> cases r <;> simp [refreshDone, refreshOwes, endRefresh]
  · dsimp only
    split <;> simp [orphanProgramDone_array]

theorem commitPass_array (s : State) : (commitPass s).array = s.array := by
  cases hc : s.jrnl.commit with
  | none => simp only [commitPass, hc]
  | some c =>
    rw [commitPass_eq hc]
    split <;> simp [commitReleased]

theorem commitFail_array (s : State) : (commitFail s).array = s.array := by
  cases hc : s.jrnl.commit with
  | none => simp only [commitFail, hc]
  | some c =>
    rw [commitFail_eq hc]
    (repeat' split) <;> simp [commitDropped, commitSkipped]

theorem programDone_array (o : ArrayOp) (out : ProgramOutcome) (s : State) : (programDone o out s).array = s.array := by
  unfold programDone
  dsimp only
  split
  · exact tagProgramDone_array ..
  · exact patrolProgramDone_array ..
  · split
    · exact commitPass_array s
    · exact commitFail_array s
  · exact orphanProgramDone_array ..

/-- After the event the array reads as the program left it. -/
theorem programCompletion_arrayKept (o : ArrayOp) (out : ProgramOutcome) (s : State) :
    ArrayKept (programmed o out s) (settle s (programDone o out (programmed o out s))) :=
  arrayKept_of_eq (by simp [programDone_array]) (by simp [programDone_array])

/-! ## The loss of power -/

/-- The part after POWER_ON_RESET (R199). -/
def powerLost (s : State) : State :=
  { State.reset with lastRead := s.lastRead, array := losePower s.array, freeDraws := s.freeDraws, pending := s.pending }

theorem exec_powerOnReset (s : State) : exec .powerOnReset s = .next (powerLost s) := rfl

/-- Power is lost in the middle of a program: its target has undefined content (R76). -/
theorem blockAt_powerLost_target {o : ArrayOp} {s : State} (hb : Memory.wf s.array.blocks = true)
    (hr : Memory.wf s.array.ring = true) (ho : s.array.op = some o) (hop : o.operation = .programBlock) :
    blockAt (powerLost s) o.pbn = (none, none) := by
  simp only [blockAt, powerLost, losePower, ho, hop, if_true]
  exact Prod.ext_iff.2 (undefine_same (a := { s.array with op := none }) hb hr o.pbn)

theorem blockAt_powerLost_other {s : State} {p : Nat}
    (h : ∀ o, s.array.op = some o → o.operation = .programBlock → o.pbn ≠ p) :
    blockAt (powerLost s) p = blockAt s p := by
  simp only [blockAt, powerLost, losePower]
  split
  · rfl
  · rename_i o ho
    split
    · rename_i hop
      exact Prod.ext_iff.2 (undefine_other { s.array with op := none } (h o ho hop).symm)
    · rfl

/-- Settles O28: the array is as the program or the loss of power leaves it, and no other command writes it
(`exec_ends`). -/
theorem programsAndPowerLossWriteBlocks : Obligations.ProgramsAndPowerLossWriteBlocks := by
  refine ⟨fun o out s ho hop hs => ?_, fun s hb hr => ?_, fun c s t ht hp hr => (exec_ends ht hp hr).contentKept.arrayKept⟩
  · have hkept := programCompletion_arrayKept o out s
    refine ⟨_, exec_programCompletion ho hop out, fun p hne => ?_, ?_, ?_, ?_⟩
    · rw [hkept, blockAt_programmed_other o out s hne]
    all_goals rw [hkept]
    · rintro rfl
      exact blockAt_programmed_fail hs
    · rintro rfl ws hws
      exact blockAt_programmed_words hws s
    · rintro rfl i hi
      exact blockAt_programmed_image hi s
  · exact ⟨_, exec_powerOnReset s, fun o ho hop => blockAt_powerLost_target hb hr ho hop,
      fun p h => blockAt_powerLost_other h⟩

end Sys2Proof.Machine
end

section
/-! PROOFS. O39: the start and the stop of the patrol (R138, R139). -/
namespace Sys2Proof.Machine

/-! ## Commands that are taken -/

theorem requestCommand_taken {c : Command} {s : State} (take : State → State) (hn : s.cmd.running = none)
    (hm : s.jrnl.mode ≠ .starting) (hr : s.jrnl.mode = .readOnly → c.needsReady = false) :
    requestCommand c take s = take s := by
  unfold requestCommand
  rw [if_neg (by simp [hn]), if_neg hm, if_neg]
  rintro ⟨h, hc⟩
  rw [hr h] at hc
  cases hc

/-- COMMAND is the cause that a completion latches (R188). -/
theorem completeCommand_eq (code : BitVec 8) (r : CmdResult) (s : State) :
    completeCommand code r s = completedWith code r s := rfl

/-- The start commands are taken alike, each with its mode and its code. -/
theorem exec_start {hi : BitVec 8} {s : State} (hr : s.rstnLow = false) (hn : s.cmd.running = none)
    (hm : s.jrnl.mode = .ready) :
    ∀ p ∈ [(Instr.patrolSegment hi, PatrolMode.segment, 0x01#8), (Instr.patrolPass hi, PatrolMode.pass, 0x02#8),
        (Instr.patrolAuto hi, PatrolMode.auto, 0x03#8)],
      ∃ c : Command, c.code = p.2.2 ∧ exec p.1 s = .next (takeStart c p.2.1 s) := by
  have htaken : ∀ (c : Command) (m : PatrolMode),
      busAccess s (requestCommand c (takeStart c m)) = .next (takeStart c m s) := fun c m => by
    rw [busAccess_high s _ hr, requestCommand_taken _ hn (by simp [hm]) (by simp [hm])]
  simp only [List.forall_mem_cons, List.not_mem_nil, false_imp_iff, implies_true, and_true]
  exact ⟨⟨.patrolSegment, rfl, htaken ..⟩, ⟨.patrolPass, rfl, htaken ..⟩, ⟨.patrolAuto, rfl, htaken ..⟩⟩

/-! ## What a start does to the engine (R138) -/

/-- A start command sets the engine going: it was IDLE, or in the gap before the next AUTO pass and gets another mode. -/
def startsAnew (m : PatrolMode) (s : State) : Prop :=
  s.patrol.state = .idle ∨ (s.patrol.state = .gap ∧ m ≠ .auto)

theorem startPatrol_anew {m : PatrolMode} {s : State} (h : startsAnew m s) : startPatrol m s = beginPatrol m s := by
  unfold startPatrol
  rcases h with h | ⟨h, hm⟩ <;> rw [h]
  cases m with
  | auto => exact absurd rfl hm
  | segment | pass => rfl

/-- Otherwise the engine goes on, in the new mode; an AUTO engine in its gap as it was. -/
theorem startPatrol_on {m : PatrolMode} {s : State} (h : ¬ startsAnew m s) :
    startPatrol m s =
      { s with patrol := { s.patrol with mode := if s.patrol.state = .gap then s.patrol.mode else some m } } := by
  unfold startPatrol
  cases hs : s.patrol.state with
  | idle => exact absurd (.inl hs) h
  | waiting | running => rfl
  | gap =>
    obtain rfl : m = .auto := of_not_not fun hm => h (.inr ⟨hs, hm⟩)
    simp [← hs]

theorem runOrWait_ready {s : State} (hm : s.jrnl.mode = .ready) :
    ((s.req.queue = [] ∧ s.patrol.quietElapsed = true) → runOrWait s = .running) ∧
      (¬ (s.req.queue = [] ∧ s.patrol.quietElapsed = true) → runOrWait s = .waiting) := by
  have hp : bgPermitted s = true ↔ s.req.queue = [] ∧ s.patrol.quietElapsed = true := by
    simp [bgPermitted, foregroundIdle, hm]
  exact ⟨fun h => if_pos (hp.2 h), fun h => if_neg fun hb => h (hp.1 hb)⟩

/-- The arbiter's choice beside a start keeps what the start has done to the engine. -/
theorem takeStart_patrol (c : Command) (m : PatrolMode) (s : State) :
    (takeStart c m s).patrol.state = (startPatrol m s).patrol.state ∧
    (takeStart c m s).patrol.mode = (startPatrol m s).patrol.mode ∧
    (takeStart c m s).patrol.status = (startPatrol m s).patrol.status ∧
    (takeStart c m s).patrol.gapTimer = (startPatrol m s).patrol.gapTimer ∧
    (takeStart c m s).patrol.resume = s.patrol.resume ∧ (takeStart c m s).patrol.buf = s.patrol.buf := by
  simp [takeStart]

/-! ## What a start leaves to the others -/

/-- With no work of the Journal or of a tag the arbiter leaves requests, slots and Journal as they are (R68). -/
theorem arbitrate_of_noForeground {s : State} (hdue : ¬ journalDue s) (hrun : ∀ u ∈ s.req.queue, ¬ canRun s u) :
    (arbitrate s).req = s.req ∧ (arbitrate s).pool = s.pool ∧ (arbitrate s).jrnl = s.jrnl := by
  rcases arbitrate_cases s with e | ⟨g, -, hg, e⟩ <;> rw [e]
  · exact ⟨rfl, rfl, rfl⟩
  · cases choose_cases hg with
    | ringRead p hp hm => exact absurd (.inl ⟨hm, by simp [hp]⟩) hdue
    | commitFirst hs hm _ hn => exact absurd (.inr ⟨hm, hs, .inr hn⟩) hdue
    | commitNext c hs hm hc => exact absurd (.inr ⟨hm, hs, .inl (by simp [hc])⟩) hdue
    | tag n g pre post _ hq _ hr hg => exact absurd (hg.canRun hr) (hrun n (by simp [hq]))
    | background g _ _ _ _ hg => exact ⟨by cases hg <;> simp [applyGrant], by cases hg <;> simp [applyGrant], hg.jrnl⟩

/-- Where nothing was runnable, an event that leaves requests, slots, map, Journal and array as they were makes nothing
runnable but background work. -/
theorem arbitrate_of_foreground_kept {s x : State} (hs : UnitOk s) (harray : x.array = s.array) (hreq : x.req = s.req)
    (hpool : x.pool = s.pool) (hmap : x.map = s.map) (hjrnl : x.jrnl = s.jrnl) :
    (arbitrate x).req = s.req ∧ (arbitrate x).pool = s.pool ∧ (arbitrate x).jrnl = s.jrnl := by
  rw [← hreq, ← hpool, ← hjrnl]
  by_cases ho : x.array.op = none
  · obtain ⟨hdue, hrun, -⟩ := choose_eq_none.1 (hs (harray ▸ ho))
    refine arbitrate_of_noForeground ((journalDue_congr hjrnl).not.2 hdue) fun u hu hr => ?_
    exact hrun u (hreq ▸ hu) (canRun_of_slots (tag_eq_of_req hreq u) (fun k _ => slot_eq_of_pool hpool k) (by rw [hjrnl])
      (freeSpares_of_remapKept ⟨by rw [hmap], by rw [hmap]⟩) hr)
  · rw [arbitrate_busy x ho]
    exact ⟨rfl, rfl, rfl⟩

theorem takeStart_others (c : Command) (m : PatrolMode) {s : State} (hs : UnitOk s) :
    (takeStart c m s).req = s.req ∧ (takeStart c m s).pool = s.pool ∧ (takeStart c m s).svc = s.svc ∧
      (takeStart c m s).jrnl = s.jrnl := by
  obtain ⟨hreq, hpool, hjrnl⟩ := arbitrate_of_foreground_kept (x := completeCommand c.code .ok (startPatrol m s)) hs
    (by simp) (by simp) (by simp) (by simp) (by simp)
  exact ⟨hreq, hpool, by simp [takeStart], hjrnl⟩

theorem takeStart_keeps (c : Command) (m : PatrolMode) (s : State) :
    (takeStart c m s).cmd = { s.cmd with running := none, result := .ok, resultCode := c.code } ∧
    (takeStart c m s).attn.latched = s.attn.latched ||| 0x02#8 ∧ HealthKept s (takeStart c m s) ∧
    (takeStart c m s).cfg = s.cfg ∧ ArrayKept s (takeStart c m s) := by
  refine ⟨?_, ?_, ⟨?_, ?_, ?_, ?_, ?_⟩, ?_, (takeStart_ends c m s).contentKept.arrayKept⟩ <;>
    simp [takeStart, completeCommand_eq, completedWith]

/-! ## PATROL_STOP (R139) -/

theorem exec_patrolStop {s : State} (hi : BitVec 8) (hr : s.rstnLow = false) (hn : s.cmd.running = none)
    (hm : s.jrnl.mode ≠ .starting) :
    exec (.patrolStop hi) s = .next (completedWith 0x04#8 .ok (stopPatrol s)) := by
  change busAccess s requestStop = _
  rw [busAccess_high s _ hr, requestStop, requestCommand_taken _ hn hm fun _ => rfl]
  rfl

/-- An engine that is stopped is IDLE and STOPPED, and PATROL is latched (R131, R139). -/
theorem stopPatrol_of_busy {s : State} (h : s.patrol.state ≠ .idle) :
    stopPatrol s = { s with
      patrol := { s.patrol with state := .idle, mode := none, status := .stopped, gapTimer := none }
      attn := { s.attn with latched := s.attn.latched ||| 0x08#8 } } := by
  unfold stopPatrol
  cases hs : s.patrol.state with
  | idle => exact absurd hs h
  | waiting | running | gap => rfl

/-- Settles O39: a start begins a new run (`startPatrol_anew`) or goes on (`startPatrol_on`), the arbiter's choice at the
same event keeps it (`takeStart_patrol`) and takes work of the patrol alone (`takeStart_others`). -/
theorem patrolStartsAndStops : Obligations.PatrolStartsAndStops := by
  constructor
  · intro hi s hr hn hm permitted p hp
    obtain ⟨c, hcode, hexec⟩ := exec_start hr hn hm p hp
    obtain ⟨hstate, hmode, hstatus, hgap, hresume, hbuf⟩ := takeStart_patrol c p.2.1 s
    obtain ⟨hcmd, hattn, hhealth, hcfg, harray⟩ := takeStart_keeps c p.2.1 s
    intro starts
    refine ⟨_, hexec, fun hstarts => ?_, fun hon => ?_, hresume, hbuf, hcode ▸ hcmd, hattn, hhealth, hcfg, harray,
      takeStart_others c p.2.1⟩
    · rw [hmode, hstatus, hgap, hstate, startPatrol_anew hstarts]
      exact ⟨rfl, rfl, rfl, (runOrWait_ready hm).1, (runOrWait_ready hm).2⟩
    · rw [hmode, hstatus, hgap, hstate, startPatrol_on hon]
      exact ⟨rfl, rfl, rfl, rfl⟩
  · intro hi s hr hn hm
    rw [exec_patrolStop hi hr hn hm]
    refine ⟨fun h => ?_, fun h => by rw [stopPatrol_of_busy h]⟩
    unfold stopPatrol
    rw [h]

end Sys2Proof.Machine
end

section
/-! PROOFS. O24: an UNCORRECTABLE attempt with retries left (R79, R80, R141). -/
namespace Sys2Proof.Machine

/-! ## A tag's read -/

/-- A tag whose current block is owed a retry (R79). -/
def Tag.owingRetry (x : Tag) (c : CurrentBlock) : Tag :=
  { x with cur := some { c with retryOwed := true, inFlight := false } }

/-- The current block of a tag is owed a retry. -/
def retryOwedTo (n : TagNo) (c : CurrentBlock) (s : State) : State := s.setTag n ((s.tag n).owingRetry c)

theorem retryOwedTo_tag (n : TagNo) (c : CurrentBlock) (s : State) :
    (retryOwedTo n c s).tag n = (s.tag n).owingRetry c := setTag_tag_same ..

theorem retryOwedTo_othersKept (n : TagNo) (c : CurrentBlock) (s : State) :
    OthersKept s (retryOwedTo n c (idleUnit s)) :=
  ⟨rfl, rfl, ⟨rfl, rfl, rfl, rfl, rfl⟩, rfl, rfl, rfl, rfl, rfl, rfl, rfl, rfl, fun _ => rfl⟩

theorem tagReadDone_owes {n : TagNo} {c : CurrentBlock} {s : State} (o : ArrayOp) (hc : (s.tag n).cur = some c)
    (hab : (s.tag n).abortMark = false) (hlt : c.retries < if (s.tag n).noRetry then 0 else s.cfg.retryLimit) :
    tagReadDone n o .uncorrectable s = retryOwedTo n c s := by
  unfold tagReadDone
  simp only [hc]
  exact if_pos ⟨trivial, hab, hlt⟩

/-- The close of an event does one thing to an outstanding block: it may grant the retry that the block is owed (R80). -/
theorem settle_cur_of_some (s₀ : State) {s : State} {n : TagNo} {c : CurrentBlock} (h : (s.tag n).cur = some c) :
    ((settle s₀ s).tag n).cur = some c ∨
      (c.retryOwed = true ∧ opTag (settle s₀ s) = some n ∧
        ((settle s₀ s).tag n).cur = some { c with retries := c.retries + 1, retryOwed := false, inFlight := true }) := by
  rcases settle_tag s₀ s n with e | ⟨-, -, hop, he⟩
  · exact .inl (by rw [e]; simpa using h)
  · have hcur : ((closedEvent s₀ s).tag n).cur = some c := by rw [closedEvent_tag]; simpa using h
    revert he
    generalize (settle s₀ s).tag n = y
    intro he
    cases he with
    | reading _ hnone => rw [hcur] at hnone; cases hnone
    | retrying c' _ hc' howed =>
      obtain rfl : c = c' := Option.some.inj (hcur.symm.trans hc')
      exact .inr ⟨howed, hop, rfl⟩
    | programming => exact .inl (by simpa [Tag.programming] using hcur)
    | onSpare => exact .inl hcur

theorem tagRead_owesRetry {n : TagNo} {o : ArrayOp} {c : CurrentBlock} {s : State} (hop : o.operation = .readBlock)
    (hflight : TagOpInFlight s o n) (hc : (s.tag n).cur = some c)
    (hlt : c.retries < if (s.tag n).noRetry then 0 else s.cfg.retryLimit) :
    Completes (.readBlockCompletion .uncorrectable) s fun t =>
      ((t.tag n).cur = some { c with retryOwed := true, inFlight := false } ∨
        ((t.tag n).cur = some { c with retries := c.retries + 1, retryOwed := false, inFlight := true } ∧
          opTag t = some n)) ∧
      (t.tag n).completed = (s.tag n).completed ∧ StaysIn t n .active ∧ OthersKept s t := by
  obtain ⟨ho, hreq, hactive, hq, hab, -⟩ := hflight
  have hexec := exec_readCompletion ho hop hreq .uncorrectable
  rw [tagReadDone_owes (s := idleUnit s) o hc hab hlt] at hexec
  have htag : (retryOwedTo n c (idleUnit s)).tag n = (s.tag n).owingRetry c := retryOwedTo_tag ..
  refine ⟨_, hexec, ?_, ?_, settle_staysIn_active s _ n hq (by rw [htag]; exact hactive),
    (retryOwedTo_othersKept n c s).trans (settle_othersKept s _ rfl)⟩
  · exact (settle_cur_of_some s (congrArg Tag.cur htag)).imp_right fun ⟨_, hgrant, hcur⟩ => ⟨hcur, hgrant⟩
  · rw [settle_tag_completed, htag]
    rfl

/-! ## A background read -/

/-- The background read is owed a retry (R141). -/
def bgReadOwed (r : BackgroundRead) (s : State) : State :=
  { s with patrol := { s.patrol with bgRead := some { r with retryOwed := true, inFlight := false } } }

theorem exec_patrolRead {o : ArrayOp} {s : State} (ho : s.array.op = some o) (hop : o.operation = .readBlock)
    (hreq : o.requester = .patrol) (out : ReadOutcome) :
    exec (.readBlockCompletion out) s = .next (settle s (patrolReadDone o out (idleUnit s))) := by
  change execReadBlockCompletion out s = _
  unfold execReadBlockCompletion
  rw [ho]
  simp only [hop, if_true, readDone, hreq]

theorem patrolReadDone_owes {r : BackgroundRead} {s : State} (o : ArrayOp) (hr : s.patrol.bgRead = some r)
    (hd : r.dropped = false) (hm : s.jrnl.mode ≠ .readOnly) (hlt : r.retries < s.cfg.retryLimit) :
    patrolReadDone o .uncorrectable s = bgReadOwed r s := by
  have hlast : bgReadLast s r = false := by simp [bgReadLast, hd, hm]
  unfold patrolReadDone
  simp only [hr]
  exact if_pos ⟨trivial, hlast, hlt⟩

theorem bgReadOwed_othersKept (r : BackgroundRead) (s : State) : OthersKept s (bgReadOwed r (idleUnit s)) :=
  ⟨rfl, rfl, ⟨rfl, rfl, rfl, rfl, rfl⟩, rfl, rfl, rfl, rfl, rfl, rfl, rfl, rfl, fun _ => rfl⟩

theorem patrolRead_owesRetry {o : ArrayOp} {r : BackgroundRead} {s : State} (hop : o.operation = .readBlock)
    (ho : s.array.op = some o) (hreq : o.requester = .patrol) (hr : s.patrol.bgRead = some r) (hd : r.dropped = false)
    (hm : s.jrnl.mode ≠ .readOnly) (hlt : r.retries < s.cfg.retryLimit) :
    Completes (.readBlockCompletion .uncorrectable) s fun t =>
      (t.patrol.bgRead = some { r with retryOwed := true, inFlight := false } ∨
        t.patrol.bgRead = some { r with retries := r.retries + 1, retryOwed := false, inFlight := true }) ∧
      OthersKept s t := by
  have hexec := exec_patrolRead ho hop hreq .uncorrectable
  rw [patrolReadDone_owes (s := idleUnit s) o hr hd hm hlt] at hexec
  refine ⟨_, hexec, ?_, (bgReadOwed_othersKept r s).trans (settle_othersKept s _ rfl)⟩
  rcases settle_bgRead s (bgReadOwed r (idleUnit s)) with e | ⟨r', hr', -, e⟩ | hnone
  · exact .inl e
  · cases hr'
    exact .inr e
  · cases hnone

/-- Settles O24: the attempt only marks the retry as owed, and the close of the event can only grant it. -/
theorem uncorrectableOwesRetry : Obligations.UncorrectableOwesRetry := fun _ _ hop =>
  ⟨fun _ _ => tagRead_owesRetry hop, fun _ => patrolRead_owesRetry hop⟩

end Sys2Proof.Machine
end

section
/-! PROOFS. O26: a CHECK tag takes every final outcome (R81, R82, R83, R91). -/
namespace Sys2Proof.Machine

/-! ## The fields after a final outcome -/

section
variable (x : Tag) (l level retries : Nat) (out : ReadOutcome)

theorem takeRead_soFar :
    (x.takeRead l level (classify (decide (0 < retries)) out)).soFar =
      if out = .uncorrectable then .mediaError
      else if x.soFar = .ok ∧ (0 < retries ∨ (1 ≤ corrections out ∧ level ≤ corrections out)) then .recovered
      else x.soFar := by
  by_cases hout : out = .uncorrectable
  · subst hout
    rfl
  · have hsuccess := (classify_success (decide (0 < retries)) out).2 hout
    have hweak : (classify (decide (0 < retries)) out).weak level = true ↔
        0 < retries ∨ (1 ≤ corrections out ∧ level ≤ corrections out) := by
      rw [classify_weak, weakBlock, and_iff_right hout]
    simp [Tag.takeRead, hsuccess, hweak, hout, and_comm]

theorem takeRead_worst :
    (x.takeRead l level (classify (decide (0 < retries)) out)).worst = max x.worst (corrections out) :=
  congrArg (max x.worst) (classify_corrections ..)

theorem takeRead_firstFail :
    (x.takeRead l level (classify (decide (0 < retries)) out)).firstFail =
      if out = .uncorrectable then some (x.firstFail.getD l) else x.firstFail := by
  by_cases hout : out = .uncorrectable
  · subst hout
    rfl
  · rw [if_neg hout]
    exact if_pos ((classify_success _ _).2 hout)

theorem takeRead_uncorrCount (hk : x.kind = .check) :
    (x.takeRead l level (classify (decide (0 < retries)) out)).uncorrCount =
      x.uncorrCount + if out = .uncorrectable then 1 else 0 := by
  by_cases hout : out = .uncorrectable
  · subst hout
    simp [Tag.takeRead, classify, ReadClass.success, hk]
  · simp [Tag.takeRead, (classify_success (decide (0 < retries)) out).2 hout, hout]

end

/-! ## The tag goes on, or is DONE -/

/-- With its last block a CHECK tag is DONE (R91). -/
def endCheck (n : TagNo) (s : State) : State :=
  if (s.tag n).completed = (s.tag n).count then finish n (s.tag n).soFar s else s

theorem tagReadFinal_check {n : TagNo} {l : Nat} {c : ReadClass} {s : State} (o : ArrayOp)
    (hab : (s.tag n).abortMark = false) (hk : (s.tag n).kind = .check) :
    tagReadFinal n o l c s = endCheck n (readTaken n l c s) := by
  have htag : (readTaken n l c s).tag n = (s.tag n).takeRead l s.cfg.refreshLevel c := by rw [readTaken_tag, if_pos rfl]
  have habort : ((readTaken n l c s).tag n).abortMark = false := htag ▸ hab
  have hkind : ((readTaken n l c s).tag n).kind = .check := htag ▸ hk
  change (if ((readTaken n l c s).tag n).abortMark then _ else match ((readTaken n l c s).tag n).kind with
    | .read => _
    | .check => endCheck n (readTaken n l c s)
    | .write | .zero => _) = _
  rw [if_neg (by simp [habort])]
  simp only [hkind]

@[simp] theorem endCheck_keeps (n : TagNo) (s : State) :
    (endCheck n s).map = s.map ∧ (endCheck n s).cond = s.cond ∧ (endCheck n s).array = s.array ∧
    ((endCheck n s).tag n).completed = (s.tag n).completed ∧ ((endCheck n s).tag n).worst = (s.tag n).worst ∧
    ((endCheck n s).tag n).soFar = (s.tag n).soFar ∧ ((endCheck n s).tag n).uncorrCount = (s.tag n).uncorrCount ∧
    ((endCheck n s).tag n).firstFail = (s.tag n).firstFail := by
  unfold endCheck
  split
  · simp [finish_tag_eq, Tag.finished]
  · simp

theorem endCheck_staysIn (s₀ : State) {s : State} {n : TagNo} (hq : n ∈ s.req.queue) (ha : (s.tag n).state = .active)
    (hmore : (s.tag n).completed ≠ (s.tag n).count) : StaysIn (settle s₀ (endCheck n s)) n .active := by
  rw [endCheck, if_neg hmore]
  exact settle_staysIn_active s₀ s n hq ha

theorem endCheck_doneWith {s₀ s : State} {n : TagNo} (hq : n ∈ s₀.req.queue)
    (hlast : (s.tag n).completed = (s.tag n).count) :
    DoneWith (settle s₀ (endCheck n s)) n (s.tag n).soFar := by
  rw [endCheck, if_pos hlast]
  exact settle_doneWith s₀ _ n _ hq (by rw [finish_tag_eq, if_pos rfl]; rfl) (by rw [finish_tag_eq, if_pos rfl]; rfl)
    (ownsNoSlot_finish _ _ _)

/-- Settles O26: the outcome's fields are `Tag.takeRead`'s, and neither the end of the tag nor the close of the event
changes them. -/
theorem checkTakesEveryOutcome : Obligations.CheckTakesEveryOutcome := by
  intro n o c out s hflight hop hk hc hretries status
  obtain ⟨ho, hreq, hactive, hq, hab, -⟩ := hflight
  have hfinal : (if (s.tag n).noRetry then 0 else s.cfg.retryLimit) ≤ c.retries ∨ out ≠ .uncorrectable :=
    (em (out = .uncorrectable)).imp_left hretries
  have hexec := exec_readCompletion ho hop hreq out
  rw [tagReadDone_final (s := idleUnit s) hc (.inr hfinal), tagReadFinal_check (s := idleUnit s) o hab hk] at hexec
  have htag : (readTaken n c.lbn (classify (decide (0 < c.retries)) out) (idleUnit s)).tag n =
      (s.tag n).takeRead c.lbn s.cfg.refreshLevel (classify (decide (0 < c.retries)) out) := by
    rw [readTaken_tag, if_pos rfl]
    rfl
  have hsoFar : _ = status := takeRead_soFar (s.tag n) c.lbn s.cfg.refreshLevel c.retries out
  refine ⟨_, hexec, ?_, ?_, ?_, ?_, ?_, fun hmore => ?_, fun hlast => ?_,
    listsAfterRead_settle (s := idleUnit s) (by simp), countsAfterRead_settle (l := c.lbn) (s := idleUnit s) (by simp),
    by simp [RemapKept], arrayKept_of_eq (by simp) (by simp)⟩
  · simp [htag, Tag.takeRead]
  · simp [htag, takeRead_worst]
  · simp [htag, hsoFar]
  · simp [htag, takeRead_uncorrCount _ _ _ _ _ hk]
  · simp [htag, takeRead_firstFail]
  · exact endCheck_staysIn s (by simpa using hq) (by rw [htag]; exact hactive) (by rw [htag]; exact hmore)
  · rw [← hsoFar, ← htag]
    exact endCheck_doneWith hq (by rw [htag]; exact hlast)

end Sys2Proof.Machine
end

section
/-! PROOFS. The two lists, the remap table and the scan candidate: what holds of them after each shared operation (R100, R118,
R123, R126, R151). -/
namespace Sys2Proof.Machine

/-! ## The two lists -/

/-- What only takes LBNs off the lists keeps them bounded, distinct and disjoint. -/
theorem ListsOk.sublists {s t : State} (h : ListsOk s) (hp : t.map.pendingLbns.Sublist s.map.pendingLbns)
    (hr : t.map.refresh.Sublist s.map.refresh) : ListsOk t := by
  obtain ⟨hplen, hpnodup, hrlen, hrnodup, hdisj⟩ := h
  exact ⟨hp.length_le.trans hplen, hpnodup.sublist hp, hr.length_le.trans hrlen, hrnodup.sublist hr,
    fun n hn hm => hdisj n (hr.subset hn) (hp.subset hm)⟩

theorem ListsOk.congr {s t : State} (h : ListsOk s) (hp : t.map.pendingLbns = s.map.pendingLbns)
    (hr : t.map.refresh = s.map.refresh) : ListsOk t :=
  h.sublists (hp ▸ .refl _) (hr ▸ .refl _)

/-- An offer appends only an LBN that is not listed, and only below the bound (R119). -/
theorem pendingOffered_cases (l : Nat) (pend : List Nat) (note : Nat) :
    (pendingOffered l pend note).1 = pend ∨
      (l ∉ pend ∧ pend.length < 16 ∧ (pendingOffered l pend note).1 = pend ++ [l]) := by
  unfold pendingOffered
  split
  · exact .inl rfl
  · rename_i hl
    split
    · rename_i hlen
      exact .inr ⟨hl, hlen, rfl⟩
    · exact .inl rfl

theorem nodup_append_singleton {l : Nat} {xs : List Nat} (h : xs.Nodup) (hl : l ∉ xs) : (xs ++ [l]).Nodup :=
  h.append (List.nodup_singleton l) (List.disjoint_singleton.2 hl)

theorem ListsOk.offerPending {s : State} (h : ListsOk s) (l : Nat) : ListsOk (offerPending l s) := by
  obtain ⟨hlists, hr⟩ := offerPending_lists l s
  have hp := congrArg Prod.fst hlists
  dsimp only at hp
  rcases pendingOffered_cases l s.map.pendingLbns s.map.overflow with e | ⟨hl, hlen, e⟩ <;> rw [e] at hp
  · exact h.sublists (hp ▸ .refl _) (hr ▸ List.erase_sublist)
  · obtain ⟨-, hpnodup, hrlen, hrnodup, hdisj⟩ := h
    unfold ListsOk
    rw [hp, hr]
    refine ⟨by simpa using hlen, nodup_append_singleton hpnodup hl, (List.length_erase_le ..).trans hrlen,
      hrnodup.erase l, fun n hn hm => ?_⟩
    rcases List.mem_append.1 hm with hm | hm
    · exact hdisj n (List.mem_of_mem_erase hn) hm
    · exact hrnodup.not_mem_erase (List.mem_singleton.1 hm ▸ hn)

/-- An offer to the refresh list appends only an LBN of neither list, and only below the bound (R124). -/
theorem ListsOk.offerRefresh {s : State} (h : ListsOk s) (l : Nat) : ListsOk (offerRefresh l s) := by
  have hr := offerRefresh_refresh l s
  have hp : (Machine.offerRefresh l s).map.pendingLbns = s.map.pendingLbns := by simp
  split at hr
  · rename_i hnew
    obtain ⟨hlp, hlr, hlen⟩ := hnew
    obtain ⟨hplen, hpnodup, -, hrnodup, hdisj⟩ := h
    unfold ListsOk
    rw [hp, hr]
    refine ⟨hplen, hpnodup, by simpa using hlen, nodup_append_singleton hrnodup hlr, fun n hn => ?_⟩
    rcases List.mem_append.1 hn with hn | hn
    · exact hdisj n hn
    · exact List.mem_singleton.1 hn ▸ hlp
  · exact h.congr hp hr

/-! ## The map and the candidate -/

/-- What the invariant says of the map and of the scan candidate. -/
structure MediaOk (s : State) : Prop where
  lists : ListsOk s
  remap : Memory.wf s.map.remap = true
  candidate : CandidateOk s

theorem CandidateOk.congr {s t : State} (h : CandidateOk s) (hc : t.jrnl.candidate = s.jrnl.candidate) : CandidateOk t := by
  unfold CandidateOk at h ⊢
  rwa [hc]

/-- An operation on the lists alone. -/
theorem MediaOk.of_lists {s t : State} (h : MediaOk s) (hl : ListsOk t) (hm : t.map.remap = s.map.remap)
    (hc : t.jrnl.candidate = s.jrnl.candidate) : MediaOk t :=
  ⟨hl, hm ▸ h.remap, h.candidate.congr hc⟩

/-- An operation that leaves the map and the candidate as they were. -/
theorem MediaOk.congr {s t : State} (h : MediaOk s) (hm : t.map = s.map) (hc : t.jrnl.candidate = s.jrnl.candidate) :
    MediaOk t :=
  h.of_lists (h.lists.congr (by rw [hm]) (by rw [hm])) (by rw [hm]) hc

theorem MediaOk.foldl {α : Type} {g : State → α → State} (hg : ∀ s a, MediaOk s → MediaOk (g s a)) (l : List α)
    {s : State} (h : MediaOk s) : MediaOk (l.foldl g s) := by
  induction l generalizing s with
  | nil => exact h
  | cons a as ih => exact ih (hg s a h)

theorem MediaOk.removePending {s : State} (h : MediaOk s) (l : Nat) : MediaOk (removePending l s) :=
  h.of_lists (h.lists.sublists (removePending_list l s ▸ List.erase_sublist) (by simp)) (by simp) (by simp)

theorem MediaOk.clearLists {s : State} (h : MediaOk s) (l : Nat) : MediaOk (clearLists l s) := by
  obtain ⟨hp, -, hr⟩ := clearLists_lists l s
  exact h.of_lists (h.lists.sublists (hp ▸ List.erase_sublist) (hr ▸ List.erase_sublist)) (by simp) (by simp)

theorem MediaOk.offerPending {s : State} (h : MediaOk s) (l : Nat) : MediaOk (offerPending l s) :=
  h.of_lists (h.lists.offerPending l) (by simp) (by simp)

theorem MediaOk.offerRefresh {s : State} (h : MediaOk s) (l : Nat) : MediaOk (offerRefresh l s) :=
  h.of_lists (h.lists.offerRefresh l) (by simp) (by simp)

theorem MediaOk.handOff {s : State} (h : MediaOk s) (l : Nat) (c : ReadClass) : MediaOk (handOff l c s) := by
  have hlists : MediaOk (handOffLists l c s) := by
    unfold handOffLists
    dsimp only
    split
    · split
      · exact (h.removePending l).offerRefresh l
      · exact h.removePending l
    · exact h.offerPending l
  exact hlists.congr (handOff_map l c s) (by simp)

theorem MediaOk.retire {s : State} (h : MediaOk s) (p : Nat) : MediaOk (retire p s) :=
  h.of_lists (h.lists.congr rfl rfl) rfl rfl

theorem MediaOk.remapTo {s : State} (h : MediaOk s) (l p : Nat) : MediaOk (remapTo l p s) :=
  ⟨h.lists.congr (by simp) (by simp), remapTo_wf l p s h.remap, h.candidate.congr (by simp)⟩

/-! ## Owed reallocations, and the change to READ_ONLY -/

theorem MediaOk.endUnresolved {s : State} (h : MediaOk s) (n : TagNo) (l : Nat) (st : Status) :
    MediaOk (endUnresolved n l st s) :=
  (h.offerPending l).congr (by simp [Machine.endUnresolved]) (by simp)

theorem MediaOk.exhaust {s : State} (h : MediaOk s) (n : TagNo) (l : Nat) : MediaOk (exhaust n l s) := by
  refine (h.offerPending l).congr ?_ (by simp)
  unfold Machine.exhaust
  dsimp only
  split <;> simp

theorem MediaOk.resolveOwedTag {s : State} (h : MediaOk s) (n : TagNo) : MediaOk (resolveOwedTag s n) := by
  unfold Machine.resolveOwedTag
  dsimp only
  split
  · exact h
  · rename_i b _
    split
    · exact h
    · split
      · exact h.endUnresolved ..
      · split
        · exact h.endUnresolved ..
        · split
          · exact h.exhaust ..
          · exact h

theorem MediaOk.resolveOwedRefresh {s : State} (h : MediaOk s) : MediaOk (resolveOwedRefresh s) := by
  unfold Machine.resolveOwedRefresh
  split
  · exact h
  · rename_i b _
    split
    · have hgone : MediaOk { s with patrol := { s.patrol with refreshBlock := none } } := h.congr rfl rfl
      exact (hgone.offerPending b.lbn).congr rfl rfl
    · exact h

theorem MediaOk.resolveOwed {s : State} (h : MediaOk s) : MediaOk (resolveOwed s) :=
  (MediaOk.foldl (fun _ n hs => hs.resolveOwedTag n) s.req.queue h).resolveOwedRefresh

theorem MediaOk.readOnlyTag {s : State} (h : MediaOk s) (n : TagNo) : MediaOk (readOnlyTag s n) := by
  by_cases howed : (s.tag n).kind.writes = true ∧ (s.tag n).state = .active ∧ opTag s ≠ some n ∧
      ∃ b, (s.tag n).prog = some b ∧ b.owed = true
  · obtain ⟨hw, ha, hop, b, hb, ho⟩ := howed
    rw [readOnlyTag_of_owed hw ha hop hb ho]
    exact h.endUnresolved ..
  · refine h.congr ?_ (by simp)
    unfold Machine.readOnlyTag
    dsimp only
    (repeat' split) <;> simp_all

theorem MediaOk.closeBgRead {s : State} (h : MediaOk s) (r : BackgroundRead) (c : ReadClass) :
    MediaOk (closeBgRead r c s) := by
  have hdone : MediaOk { s with patrol := { s.patrol with bgRead := none } } := h.congr rfl rfl
  refine (hdone.handOff r.lbn c).congr ?_ (by simp)
  unfold Machine.closeBgRead
  dsimp only
  split <;> simp

theorem MediaOk.haltPatrol {s : State} (h : MediaOk s) : MediaOk (haltPatrol s) := by
  have hscan : MediaOk (haltScan s) := by
    unfold haltScan
    split
    · exact h
    · exact h.congr (by simp) (by simp)
  have hstopped : MediaOk (discardBuffer { haltScan s with patrol := { (haltScan s).patrol with gapTimer := none } }) :=
    hscan.congr rfl rfl
  rcases haltPatrol_cases s with e | ⟨r, -, -, e⟩ <;> rw [e]
  · exact hstopped.resolveOwedRefresh
  · exact hstopped.resolveOwedRefresh.closeBgRead r .uncorrectable

theorem MediaOk.becomeReadOnly {s : State} (h : MediaOk s) : MediaOk (becomeReadOnly s) := by
  have hmode : MediaOk (latch .fault { s with jrnl := { s.jrnl with mode := .readOnly } }) := h.congr rfl rfl
  exact (MediaOk.foldl (fun _ n hs => hs.readOnlyTag n) s.req.queue hmode).haltPatrol.congr
    (by simp [Machine.becomeReadOnly]) (by simp [Machine.becomeReadOnly])

theorem MediaOk.checkSequence {s : State} (h : MediaOk s) : MediaOk (checkSequence s) := by
  unfold Machine.checkSequence
  split
  · exact h.becomeReadOnly
  · exact h

/-! ## The arbiter and the close of an event -/

/-- The arbiter takes at most the head of the refresh list (R125). -/
theorem MediaOk.arbitrate {s : State} (h : MediaOk s) : MediaOk (arbitrate s) := by
  refine h.of_lists (h.lists.sublists (by simp) ?_) (by simp) (by simp)
  rcases arbitrate_refresh s with e | e <;> rw [e]
  exact List.tail_sublist _

theorem MediaOk.settle {s : State} (h : MediaOk s) (s₀ : State) : MediaOk (settle s₀ s) :=
  MediaOk.arbitrate (s := closedEvent s₀ s) (h.congr (by simp) (by simp))

end Sys2Proof.Machine
end

section
/-! PROOFS. The completions of the array's operations, the scan and the resets keep the two lists, the remap table and the
scan candidate in order. -/
namespace Sys2Proof.Machine

/-! ## Reads -/

/-- Of the map a tag's read does what its hand-off does. -/
theorem tagReadFinal_map (n : TagNo) (o : ArrayOp) (l : Nat) (c : ReadClass) (s : State) :
    (tagReadFinal n o l c s).map = (handOff l c s).map ∧ (tagReadFinal n o l c s).jrnl = s.jrnl := by
  unfold tagReadFinal readTagFinal endRead
  dsimp only
  (repeat' split) <;> simp

theorem MediaOk.tagReadDone {s : State} (h : MediaOk s) (n : TagNo) (o : ArrayOp) (out : ReadOutcome) :
    MediaOk (tagReadDone n o out s) := by
  unfold Machine.tagReadDone
  dsimp only
  split
  · exact h
  · rename_i c _
    split
    · exact h.congr rfl rfl
    · obtain ⟨hmap, hjrnl⟩ := tagReadFinal_map n o c.lbn (classify (decide (0 < c.retries)) out) s
      exact (h.handOff c.lbn _).congr hmap (by simp [hjrnl])

theorem MediaOk.testEnds {s : State} (h : MediaOk s) (l : Nat) : MediaOk (testEnds l s) := by
  unfold Machine.testEnds
  split
  · split
    · exact h
    · split
      · exact h.congr (by simp) (by simp)
      · exact h
    · split
      · exact MediaOk.checkSequence (h.congr (by simp) (by simp))
      · exact h
    · split
      · exact MediaOk.checkSequence (h.congr (by simp) (by simp))
      · exact h
  · exact h

theorem MediaOk.patrolReadDone {s : State} (h : MediaOk s) (o : ArrayOp) (out : ReadOutcome) :
    MediaOk (patrolReadDone o out s) := by
  unfold Machine.patrolReadDone
  dsimp only
  split
  · exact h
  · rename_i r _
    split
    · exact h.congr rfl rfl
    · have hclose := h.closeBgRead r (classify (decide (0 < r.retries)) out)
      have hkeep : MediaOk (if keepsWords s r (classify (decide (0 < r.retries)) out) then
            fillBuffer r.lbn o.pbn (Machine.closeBgRead r (classify (decide (0 < r.retries)) out) s)
          else Machine.closeBgRead r (classify (decide (0 < r.retries)) out) s) := by
        split
        · exact hclose.congr (by simp [fillBuffer_eq]) (by simp [fillBuffer_eq])
        · exact hclose
      split
      · exact hkeep.testEnds r.lbn
      · exact hkeep

/-! ## The scan -/

/-- An image becomes the candidate only after it has passed the tests (R151, R164). -/
theorem MediaOk.considerImage {s : State} (h : MediaOk s) (p : Nat) (i : StateImage) : MediaOk (considerImage p i s) := by
  rcases considerImage_cases p i s with e | e
  · rwa [e]
  · refine ⟨h.lists.congr (by rw [e]) (by rw [e]), by rw [e]; exact h.remap, ?_⟩
    by_cases hv : imageValid i = true
    · have hvalid : fieldsValid i = true := (Bool.and_eq_true_iff.1 hv).2
      intro c hc
      rw [e] at hc
      cases hc
      exact hvalid
    · have hsame : Machine.considerImage p i s = s := if_neg fun hb => hv (Bool.and_eq_true_iff.1 hb).1
      rw [hsame]
      exact h.candidate

theorem distinct_iff (l : List Nat) : distinct l = true ↔ l.Nodup := by
  induction l with
  | nil => simp [distinct]
  | cons a l ih => simp [distinct, ih]

/-- What the tests of R151 say of the map that an image holds. -/
theorem fieldsValid_map {i : StateImage} (h : fieldsValid i = true) :
    Memory.wf i.remap = true ∧ i.pendingLbns.length ≤ 16 ∧ i.pendingLbns.Nodup := by
  simp only [fieldsValid, remapValid, listsValid, Bool.and_eq_true, decide_eq_true_eq] at h
  obtain ⟨⟨-, ⟨hwf, -⟩, -⟩, ⟨⟨⟨⟨⟨-, hlen⟩, -⟩, hnodup⟩, -⟩, -⟩⟩ := h
  exact ⟨hwf, hlen, (distinct_iff _).1 hnodup⟩

/-- The loaded map is that of an image that has passed the tests; its refresh list is empty (R165). -/
theorem MediaOk.loadImage {s : State} {c : Candidate} (hc : fieldsValid c.image = true) : MediaOk (loadImage c s) := by
  obtain ⟨hwf, hlen, hnodup⟩ := fieldsValid_map hc
  unfold Machine.loadImage
  refine ⟨?_, by simpa using hwf, fun c' hc' => ?_⟩
  · unfold ListsOk
    simpa using ⟨hlen, hnodup⟩
  · simp at hc'

theorem MediaOk.endScan {s : State} (h : MediaOk s) : MediaOk (endScan s) := by
  unfold Machine.endScan
  split
  · rename_i c hc
    exact .loadImage (h.candidate c hc)
  · exact ⟨h.lists.sublists (List.nil_sublist _) (.refl _), rfl, h.candidate.congr rfl⟩

theorem MediaOk.ringReadDone {s : State} (h : MediaOk s) (o : ArrayOp) (out : ReadOutcome) :
    MediaOk (ringReadDone o out s) := by
  have hbuf : ∀ b, MediaOk { s with jrnl := { s.jrnl with imageBuffer := b } } := fun b => h.congr rfl rfl
  have htaken : MediaOk (ringTaken o out s) := by
    unfold ringTaken
    split
    · exact h
    · split
      · exact (hbuf _).considerImage _ _
      · exact hbuf _
      · exact hbuf _
  rw [ringReadDone_eq]
  split
  · exact htaken.congr rfl rfl
  · exact htaken.endScan

theorem MediaOk.readDone {s : State} (h : MediaOk s) (o : ArrayOp) (out : ReadOutcome) : MediaOk (readDone o out s) := by
  unfold Machine.readDone
  split
  · exact h.tagReadDone ..
  · exact h.patrolReadDone ..
  · exact h.ringReadDone ..
  · unfold orphanReadDone
    split
    · exact h
    · rename_i l _
      exact (h.handOff l (classify (o.purpose == .retry) out)).congr (by simp) (by simp)

/-! ## Programs -/

theorem MediaOk.tagBlockPasses {s : State} (h : MediaOk s) (n : TagNo) (r : Bool) : MediaOk (tagBlockPasses n r s) := by
  cases hb : (s.tag n).prog with
  | none =>
    unfold Machine.tagBlockPasses
    rwa [hb]
  | some b =>
    rw [tagBlockPasses_eq hb]
    exact h.congr (by simp) (by simp)

theorem MediaOk.tagOwes {s : State} (h : MediaOk s) (n : TagNo) : MediaOk (tagOwes n s) :=
  MediaOk.resolveOwed (s := s.modTag n Tag.owing) (h.congr rfl rfl)

theorem MediaOk.refreshOwes {s : State} (h : MediaOk s) : MediaOk (refreshOwes s) :=
  MediaOk.resolveOwed (s := { s with patrol := s.patrol.owing }) (h.congr rfl rfl)

/-- A reallocation's PASS in the map and in the lists (R104). -/
theorem MediaOk.mapped {s x : State} (h : MediaOk s) (l p : Nat) (hm : x.map = (Machine.remapTo l p s).map)
    (hc : x.jrnl.candidate = s.jrnl.candidate) : MediaOk (Machine.clearLists l x) :=
  ((h.remapTo l p).congr hm (by simpa using hc)).clearLists l

/-- That PASS with its commit reason, where no tag waits. -/
theorem MediaOk.mapped_reason {s : State} (h : MediaOk s) (l p : Nat) :
    MediaOk (Machine.clearLists l (reportSpares ((commitReason (Machine.remapTo l p s)).bump CondId.reallocations))) :=
  h.mapped l p (by simp) (by simp)

/-- A reallocation's FAIL in the map (R105). -/
theorem MediaOk.spareLost {s : State} (h : MediaOk s) (p : Nat) :
    MediaOk (reportSpares (Machine.retire p (s.bump CondId.programFailures))) :=
  (h.retire p).congr (by simp [Machine.retire]) (by simp)

theorem MediaOk.tagProgramDone {s : State} (h : MediaOk s) (n : TagNo) (l pbn : Nat) (r : Bool) (out : ProgramOutcome) :
    MediaOk (tagProgramDone n l pbn r out s) := by
  cases out <;> cases r
  case pass.false => exact ((h.clearLists l).congr (by simp) (by simp)).tagBlockPasses n false
  case fail.false => exact (h.congr (by simp) (by simp)).tagOwes n
  case pass.true =>
    refine MediaOk.checkSequence (MediaOk.resolveOwed (MediaOk.tagBlockPasses ?_ n true))
    have hmapped := h.mapped (x := reportSpares ((commitReasonFor n (Machine.remapTo l pbn s)).bump CondId.reallocations))
      l pbn (by simp) (by simp)
    exact hmapped.congr (by simp) (by simp)
  case fail.true =>
    refine MediaOk.checkSequence (MediaOk.tagOwes ?_ n)
    exact (h.spareLost pbn).congr (by simp) (by simp)

theorem MediaOk.refreshDone {s : State} (h : MediaOk s) (l pbn : Nat) (r : Bool) (out : ProgramOutcome) :
    MediaOk (refreshDone l pbn r out s) := by
  cases out <;> cases r
  case pass.false =>
    exact (h.clearLists l).congr (by simp [Machine.refreshDone, endRefresh]) (by simp [Machine.refreshDone, endRefresh])
  case fail.false => exact (h.congr (by simp) (by simp)).refreshOwes
  case pass.true =>
    refine MediaOk.checkSequence (MediaOk.resolveOwed ?_)
    exact (h.mapped_reason l pbn).congr (by simp [endRefresh]) (by simp [endRefresh])
  case fail.true =>
    refine MediaOk.checkSequence (MediaOk.refreshOwes ?_)
    exact (h.spareLost pbn).congr (by simp) (by simp)

theorem MediaOk.orphanProgramDone {s : State} (h : MediaOk s) (l pbn : Nat) (r : Bool) (d : DataPlace)
    (out : ProgramOutcome) : MediaOk (orphanProgramDone l pbn r d out s) := by
  cases out <;> cases r
  case pass.false =>
    exact (h.clearLists l).congr (by simp [Machine.orphanProgramDone]) (by simp [Machine.orphanProgramDone])
  case fail.false =>
    have hoffer : MediaOk (Machine.offerPending l (cancelPatrol l (s.bump CondId.programFailures))) :=
      MediaOk.offerPending (h.congr (by simp) (by simp)) l
    exact hoffer.congr (by simp [Machine.orphanProgramDone]) (by simp [Machine.orphanProgramDone])
  case pass.true =>
    refine MediaOk.checkSequence (MediaOk.resolveOwed ?_)
    exact (h.mapped_reason l pbn).congr (by simp) (by simp)
  case fail.true =>
    refine MediaOk.checkSequence (MediaOk.resolveOwed ?_)
    have hlost : MediaOk (cancelPatrol l (commitReason (reportSpares
        (Machine.retire pbn (s.bump CondId.programFailures))))) := (h.spareLost pbn).congr (by simp) (by simp)
    exact (hlost.offerPending l).congr (by simp) (by simp)

theorem MediaOk.patrolProgramDone {s : State} (h : MediaOk s) (l pbn : Nat) (r : Bool) (out : ProgramOutcome) :
    MediaOk (patrolProgramDone l pbn r out s) := by
  unfold Machine.patrolProgramDone
  split
  · exact h.refreshDone ..
  · dsimp only
    split
    · exact (h.orphanProgramDone ..).congr rfl rfl
    · exact h.orphanProgramDone ..

theorem MediaOk.commitPass {s : State} (h : MediaOk s) : MediaOk (commitPass s) := by
  cases hc : s.jrnl.commit with
  | none =>
    unfold Machine.commitPass
    rwa [hc]
  | some c =>
    rw [commitPass_eq hc]
    have hreleased : MediaOk (commitReleased c s) := by
      refine h.congr (by simp [commitReleased]) (by simp [commitReleased, Journal.passed])
    split
    · exact hreleased.congr (by simp) (by simp)
    · exact hreleased

theorem MediaOk.commitFail {s : State} (h : MediaOk s) : MediaOk (commitFail s) := by
  cases hc : s.jrnl.commit with
  | none =>
    unfold Machine.commitFail
    rwa [hc]
  | some c =>
    have hdropped : MediaOk (commitDropped s) := h.congr rfl rfl
    rw [commitFail_eq hc]
    split
    · exact hdropped
    · split
      · exact h.congr rfl rfl
      · split
        · exact hdropped.becomeReadOnly.congr (by simp) (by simp)
        · exact hdropped.becomeReadOnly

theorem MediaOk.programDone {s : State} (h : MediaOk s) (o : ArrayOp) (out : ProgramOutcome) :
    MediaOk (programDone o out s) := by
  unfold Machine.programDone
  dsimp only
  split
  · exact h.tagProgramDone ..
  · exact h.patrolProgramDone ..
  · split
    · exact h.commitPass
    · exact h.commitFail
  · exact h.orphanProgramDone ..

end Sys2Proof.Machine
end

section
/-! PROOFS. O54: every command keeps the two lists, the remap table, the scan candidate and the blocks of the array in
order. -/
namespace Sys2Proof.Machine

/-! ## Requests and port -/

theorem MediaOk.submit {s : State} (h : MediaOk s) (v : Word) : MediaOk (submit v s) := by
  unfold Machine.submit
  split
  · exact h.congr rfl rfl
  · refine MediaOk.settle (h.congr ?_ ?_) s <;>
      simp [accept_eq, setQResult, enqueued, numbered, endQuiet, apply_ite State.map, apply_ite State.jrnl, renumber]

theorem MediaOk.abortTag {s : State} (h : MediaOk s) (n : TagNo) : MediaOk (abortTag s n) := by
  unfold Machine.abortTag
  dsimp only
  split
  case h_3 | h_4 => exact h.congr (by simp) (by simp)
  case h_5 | h_6 =>
    split
    · split
      · exact h
      · exact h.congr (by simp) (by simp)
    · split
      · rename_i c _
        exact (h.handOff c.lbn .uncorrectable).congr (by simp) (by simp)
      · exact h.endUnresolved ..
      · exact h.congr (by simp) (by simp)
  all_goals exact h

theorem MediaOk.abortOne {s : State} (h : MediaOk s) (n : TagNo) : MediaOk (abortOne n s) := by
  unfold Machine.abortOne
  dsimp only
  split
  case h_1 => exact h.congr rfl rfl
  case h_2 => exact h
  all_goals
    split
    · exact h
    · exact (h.abortTag n).congr rfl rfl

theorem MediaOk.abortEvery {s : State} (h : MediaOk s) : MediaOk (abortEvery s) := by
  have hall : MediaOk (s.req.queue.foldl Machine.abortTag s) := MediaOk.foldl (fun _ n hs => hs.abortTag n) _ h
  unfold Machine.abortEvery
  dsimp only
  split
  · exact h.congr rfl rfl
  · split
    · exact hall.congr rfl rfl
    · exact hall

theorem MediaOk.requestAbort {s : State} (h : MediaOk s) (v : Word) : MediaOk (requestAbort v s) := by
  have hreg : MediaOk { s with req := { s.req with qabort := v } } := h.congr rfl rfl
  unfold Machine.requestAbort
  dsimp only
  refine MediaOk.settle ?_ s
  split
  · exact hreg.abortEvery
  · split
    · exact hreg.abortOne _
    · exact hreg.congr rfl rfl

theorem MediaOk.readPort {s : State} (h : MediaOk s) : MediaOk (readPort s) := by
  unfold Machine.readPort
  split
  · exact h.congr rfl rfl
  · dsimp only
    split
    · exact h.congr rfl rfl
    · refine MediaOk.settle (h.congr ?_ ?_) s
      all_goals
        unfold deliver
        dsimp only
        split <;> simp [drive]

theorem MediaOk.writePort {s : State} (h : MediaOk s) (v : Word) : MediaOk (writePort v s) := by
  unfold Machine.writePort
  split
  · exact h.congr rfl rfl
  · dsimp only
    split
    · exact h.congr rfl rfl
    · exact MediaOk.settle (h.congr (by simp [receive]) (by simp [receive])) s

theorem MediaOk.pop {s : State} (h : MediaOk s) : MediaOk (pop s) := by
  unfold Machine.pop
  dsimp only
  split <;> exact h.congr rfl rfl

/-! ## The Command Unit -/

theorem MediaOk.requestCommand {s : State} (h : MediaOk s) (c : Command) {take : State → State} (ht : MediaOk (take s)) :
    MediaOk (requestCommand c take s) := by
  unfold Machine.requestCommand
  split
  · exact h.congr rfl rfl
  · split
    · exact h.congr rfl rfl
    · split
      · exact h.congr rfl rfl
      · exact ht

theorem MediaOk.takeStart {s : State} (h : MediaOk s) (c : Command) (m : PatrolMode) : MediaOk (takeStart c m s) :=
  MediaOk.arbitrate (h.congr (by simp) (by simp))

theorem MediaOk.requestStop {s : State} (h : MediaOk s) : MediaOk (requestStop s) :=
  h.requestCommand _ (h.congr (by simp) (by simp))

theorem MediaOk.requestReport {s : State} (h : MediaOk s) : MediaOk (requestReport s) :=
  h.requestCommand _ (h.congr rfl rfl)

theorem MediaOk.waitForCommit {s : State} (h : MediaOk s) (r : Nat → Running) : MediaOk (waitForCommit r s) :=
  MediaOk.checkSequence (h.congr rfl rfl)

theorem MediaOk.requestThresholds {s : State} (h : MediaOk s) : MediaOk (requestThresholds s) := by
  have hload : MediaOk (loadThresholds s) := h.congr rfl rfl
  refine h.requestCommand _ ?_
  unfold takeThresholds
  split
  · exact (hload.waitForCommit _).settle s
  · exact h.congr rfl rfl

theorem MediaOk.requestSave {s : State} (h : MediaOk s) : MediaOk (requestSave s) :=
  h.requestCommand _ ((h.waitForCommit _).settle s)

theorem MediaOk.writeCmd {s : State} (h : MediaOk s) (v : Word) : MediaOk (writeCmd v s) := by
  unfold Machine.writeCmd
  cases commandOf (lowByte v) with
  | none =>
    unfold refuseCode
    dsimp only
    split <;> exact h.congr rfl rfl
  | some c =>
    cases c with
    | patrolSegment | patrolPass | patrolAuto => exact h.requestCommand _ (h.takeStart ..)
    | patrolStop => exact h.requestStop
    | reportBuild => exact h.requestReport
    | thresholdLoad => exact h.requestThresholds
    | conditionSave => exact h.requestSave

theorem MediaOk.readReport {s : State} (h : MediaOk s) : MediaOk (readReport s) := by
  unfold Machine.readReport
  split <;> exact h.congr rfl rfl

theorem MediaOk.writeReport {s : State} (h : MediaOk s) (v : Word) : MediaOk (writeReport v s) := by
  unfold Machine.writeReport
  split <;> exact h.congr rfl rfl

/-! ## Registers, resets and timers -/

theorem MediaOk.writeCfga {s : State} (h : MediaOk s) (v : Word) : MediaOk (writeCfga v s) := by
  unfold Machine.writeCfga
  dsimp only
  split
  · exact h.congr rfl rfl
  · exact MediaOk.arbitrate (h.congr (by simp) (by simp))

/-- A soft reset empties the refresh list (R198). -/
theorem MediaOk.softReset {s : State} (h : MediaOk s) : MediaOk (softReset s) := by
  have hblocks : MediaOk (resetBlocks s) := h.of_lists (h.lists.sublists (.refl _) (List.nil_sublist _)) rfl rfl
  unfold Machine.softReset
  split
  · exact h
  · exact MediaOk.arbitrate (hblocks.congr (by simp) (by simp))

theorem MediaOk.writeRegister {s : State} (h : MediaOk s) (a : RegAddr) (v : Word) : MediaOk (writeRegister a v s) := by
  unfold Machine.writeRegister
  split
  case h_5 => exact h.submit v
  case h_7 => exact h.writePort v
  case h_8 => exact h.requestAbort v
  case h_9 => exact h.writeCmd v
  case h_11 => exact h.writeReport v
  case h_12 => exact h.writeCfga v
  case h_15 =>
    split
    · exact h.softReset
    · exact h
  all_goals exact h.congr rfl rfl

/-- The scan begins with no candidate (R163). -/
theorem MediaOk.startScan {s : State} (h : MediaOk s) : MediaOk (startScan s) :=
  MediaOk.arbitrate ⟨h.lists.congr rfl rfl, h.remap, nofun⟩

theorem mediaOk_powerLost (s : State) : MediaOk (powerLost s) :=
  ⟨⟨Nat.zero_le _, .nil, Nat.zero_le _, .nil, nofun⟩, rfl, nofun⟩

/-! ## Every command -/

theorem MediaOk.busAccess {s t : State} {f : State → State} (h : MediaOk s) (hf : MediaOk (f s))
    (ht : busAccess s f = .next t) : MediaOk t := by
  cases hr : s.rstnLow with
  | true =>
    rw [busAccess_low s f hr] at ht
    cases next_inj ht
    exact h
  | false =>
    rw [busAccess_high s f hr] at ht
    cases next_inj ht
    exact hf

theorem exec_mediaOk {c : Instr} {s t : State} (h : MediaOk s) (ht : exec c s = .next t) : MediaOk t := by
  cases c with
  | submission v => exact h.busAccess (h.submit v) ht
  | abortRequest v => exact h.busAccess (h.requestAbort v) ht
  | ptagWrite | acauseWrite | aenableWrite | cfgbWrite => exact h.busAccess (h.congr rfl rfl) ht
  | pdataRead => exact h.busAccess h.readPort ht
  | pdataWrite v => exact h.busAccess (h.writePort v) ht
  | svcnextPop => exact h.busAccess h.pop ht
  | patrolSegment | patrolPass | patrolAuto => exact h.busAccess (h.requestCommand _ (h.takeStart ..)) ht
  | patrolStop => exact h.busAccess h.requestStop ht
  | reportBuild => exact h.busAccess h.requestReport ht
  | reportBuildCompletion =>
    cases next_inj ht
    split
    · exact h.congr rfl rfl
    all_goals exact h
  | thresholdLoad => exact h.busAccess h.requestThresholds ht
  | conditionSave => exact h.busAccess h.requestSave ht
  | badCommand v => exact h.busAccess (h.writeCmd v) ht
  | rdataRead => exact h.busAccess h.readReport ht
  | rdataWrite v => exact h.busAccess (h.writeReport v) ht
  | cfgaWrite v => exact h.busAccess (h.writeCfga v) ht
  | registerWrite a v => exact h.busAccess (h.writeRegister a v) ht
  | softReset => exact h.busAccess h.softReset ht
  | powerOnReset =>
    rw [exec_powerOnReset] at ht
    cases next_inj ht
    exact mediaOk_powerLost s
  | startUp =>
    cases next_inj ht
    split
    · exact h.startScan
    · exact h
  | readBlockCompletion out =>
    cases next_inj ht
    split
    · rename_i o _
      split
      · have hidle : MediaOk (idleUnit s) := h.congr rfl rfl
        exact (hidle.readDone o out).settle s
      · exact h
    · exact h
  | programBlockCompletion out =>
    cases next_inj ht
    split
    · rename_i o _
      split
      · have hprog : MediaOk (programmed o out s) := h.congr rfl rfl
        exact (hprog.programDone o out).settle s
      · exact h
    · exact h
  | quietTimerExpiry =>
    cases next_inj ht
    split
    · exact MediaOk.arbitrate (h.congr (by simp) (by simp))
    · exact h
  | gapTimerExpiry =>
    cases next_inj ht
    split
    · exact MediaOk.arbitrate (h.congr (by simp) (by simp))
    · exact h

/-! ## The blocks of the array -/

/-- What the invariant says of the stored blocks. -/
def ContentOk (s : State) : Prop := Memory.wf s.array.blocks = true ∧ Memory.wf s.array.ring = true

/-- Programs and the loss of power alone write the blocks (`exec_ends`), and both keep the canonical form. -/
theorem exec_contentOk {c : Instr} {s t : State} (h : ContentOk s) (ht : exec c s = .next t) : ContentOk t := by
  obtain ⟨hb, hr⟩ := h
  by_cases hp : ∃ out, c = .programBlockCompletion out
  · obtain ⟨out, rfl⟩ := hp
    cases next_inj ht
    split
    · rename_i o _
      split
      · have hwf := storeProgram_wf o out s.array hb hr
        simpa [ContentOk, programDone_array] using hwf
      · exact ⟨hb, hr⟩
    · exact ⟨hb, hr⟩
  · by_cases hpor : c = .powerOnReset
    · subst hpor
      rw [exec_powerOnReset] at ht
      cases next_inj ht
      exact losePower_wf s.array hb hr
    · have hkept := (exec_ends ht (fun out e => hp ⟨out, e⟩) hpor).contentKept
      exact ⟨hkept.blocks ▸ hb, hkept.ring ▸ hr⟩

/-- Settles O54: every command keeps the map and the candidate in order (`exec_mediaOk`), and the stored blocks
(`exec_contentOk`). -/
theorem mediaMapKept : Obligations.MediaMapKept := by
  refine kept_of_commands (fun _ _ h => h) fun c s t ⟨hlists, ⟨hblocks, hring, hremap⟩, hcand⟩ ht => ?_
  obtain ⟨hlists', hremap', hcand'⟩ := exec_mediaOk ⟨hlists, hremap, hcand⟩ ht
  obtain ⟨hblocks', hring'⟩ := exec_contentOk ⟨hblocks, hring⟩ ht
  exact ⟨hlists', ⟨hblocks', hring', hremap'⟩, hcand'⟩

end Sys2Proof.Machine
end

section
/-! PROOFS. O31: the PASS of an unmarked tag's reallocation (R104, R107). -/
namespace Sys2Proof.Machine

theorem needing_origin (q : Nat) (x : Tag) :
    (x.needing q).state = x.state ∧ (x.needing q).kind = x.kind ∧ (x.needing q).firstFail = x.firstFail := by
  unfold Tag.needing
  split <;> exact ⟨rfl, rfl, rfl⟩

/-- The slot that the words came from is freed with the block (R104). -/
theorem passedOnSpare_slotFreed {n : TagNo} {b : BlockInProgram} {k : SlotNo} (l : Nat) (o : ArrayOp) (s : State)
    (h : b.source = .slot k) : slotFreed (settle s (resolveOwed (afterPass n (passedOnSpare n b l o s)))) k := by
  have hpassed : (passedOnSpare n b l o s).slot k = Slot.free := by
    unfold passedOnSpare
    rw [blockPassed_slot, if_pos h]
  refine settle_slotFreed s _ k ?_
  rcases resolveOwed_slot_cases (afterPass n (passedOnSpare n b l o s)) k with e | e
  · rw [e]
    exact afterPass_slot_free hpassed
  · exact e

theorem passedOnSpare_sparesReported (n : TagNo) (b : BlockInProgram) (l : Nat) (o : ArrayOp) (s : State) :
    SparesReported (settle s (resolveOwed (afterPass n (passedOnSpare n b l o s)))) := by
  obtain ⟨hmap, hcond, -⟩ := passedOnSpare_keeps n b l o s
  have hreported : SparesReported (remapped n l o s) := reportSpares_reported _
  have hclear : RawKept [CondId.pendingBlocks] (remapped n l o s) (clearLists l (remapped n l o s)) := clearLists_rawKept l _
  have hpass : RawKept [CondId.pendingBlocks] (clearLists l (remapped n l o s)) (afterPass n (passedOnSpare n b l o s)) :=
    rawKept_of_cond (by simp [hcond]) _
  exact hreported.congr (((hclear.trans hpass).trans (resolveOwed_rawKept _)).trans (settle_rawKept _ _))
    ⟨by simp [hmap], by simp [hmap]⟩

/-- After the pass an unmarked tag waits for the commit if this was its last block, and goes on otherwise (R104). -/
theorem passedOnSpare_next {n : TagNo} {b : BlockInProgram} {l : Nat} {o : ArrayOp} {s : State}
    (hab : (s.tag n).abortMark = false) (hw : (s.tag n).wpMark = false) (hlt : s.jrnl.lastDone ≤ s.jrnl.lastStarted) :
    afterPass n (passedOnSpare n b l o s) =
      if (s.tag n).completed + 1 = (s.tag n).count then becomeEnding n (passedOnSpare n b l o s)
      else passedOnSpare n b l o s := by
  obtain ⟨hcompleted, -, -, -, -, hcount, hab', hw', -⟩ := needing_keeps (s.jrnl.lastStarted + 1) (s.tag n)
  have htag : (passedOnSpare n b l o s).tag n = ((s.tag n).needing (s.jrnl.lastStarted + 1)).passBlock true := by
    rw [passedOnSpare_tag, if_pos rfl]
  have hlast : ((passedOnSpare n b l o s).tag n).completed = ((passedOnSpare n b l o s).tag n).count ↔
      (s.tag n).completed + 1 = (s.tag n).count := by
    rw [htag, ← hcompleted, ← hcount]
    rfl
  have howes : owesCommit (passedOnSpare n b l o s) ((passedOnSpare n b l o s).tag n) = true := by
    rw [owesCommit_eq, (passedOnSpare_onlyTag n b l o s).lastDone, htag]
    exact needing_waits hab (Nat.lt_succ_of_le hlt)
  rw [afterPass_unmarked (by rw [htag]; exact hab'.trans hab) (by rw [htag]; exact hw'.trans hw)]
  simp only [hlast, if_pos howes]

/-- The tag's own block is over, so that nothing is given up for it. -/
theorem passedOnSpare_tag_kept {n : TagNo} {b : BlockInProgram} {l : Nat} {o : ArrayOp} {s : State}
    (hprog : ((afterPass n (passedOnSpare n b l o s)).tag n).prog = none) :
    (resolveOwed (afterPass n (passedOnSpare n b l o s))).tag n = (afterPass n (passedOnSpare n b l o s)).tag n := by
  rw [resolveOwed_tag, resolved_of_prog_none _ _ hprog, ite_self]

/-- Settles O31. -/
theorem reallocationPasses : Obligations.ReallocationPasses := by
  rintro n l o b s ⟨ho, hreq, hact, hq, hab, hw⟩ hop hpur hl hb - hmax hlt hnodup howed spent
  have honly := passedOnSpare_onlyTag n b l o s
  have hnext := passedOnSpare_next (b := b) (l := l) (o := o) hab hw hlt
  have htag : (passedOnSpare n b l o s).tag n = ((s.tag n).needing (s.jrnl.lastStarted + 1)).passBlock true := by
    rw [passedOnSpare_tag, if_pos rfl]
  have hstate : ((afterPass n (passedOnSpare n b l o s)).tag n).prog = none ∧
      ((afterPass n (passedOnSpare n b l o s)).tag n).state =
        if (s.tag n).completed + 1 = (s.tag n).count then .ending else .active := by
    rw [hnext]
    split
    · rw [becomeEnding_tag, if_pos rfl, htag]
      exact ⟨rfl, rfl⟩
    · rw [htag]
      exact ⟨rfl, (needing_origin ..).1.trans hact⟩
  obtain ⟨hprog, hst⟩ := hstate
  have hkept := passedOnSpare_tag_kept hprog
  have hq' : n ∈ (resolveOwed (afterPass n (passedOnSpare n b l o s))).req.queue := by simpa [honly.queue] using hq
  obtain ⟨hothers, hcleared, hoffered⟩ := passedOnSpare_others howed hnodup hq hprog
  obtain ⟨hcount, hmapped, hreason⟩ := passedOnSpare_counted n b l o s
  obtain ⟨hcompleted, hpassed, hreallocs, hsoFar, -, hneeded, -⟩ := afterPass_fields n (passedOnSpare n b l o s)
  obtain ⟨hcompleted', hpassed', -, hreallocs', hsoFar', -⟩ := needing_keeps (s.jrnl.lastStarted + 1) (s.tag n)
  refine ⟨_, exec_programPass_onSpare ho hreq hop hpur hl hb fun _ => hmax, hmapped, hcount,
    passedOnSpare_sparesReported n b l o s, hreason, ?_, ?_, ?_, ?_, ?_, fun k hk => passedOnSpare_slotFreed l o s hk,
    hothers, hcleared, hoffered, ?_⟩
  · rw [settle_tag_needed, hkept, hneeded, htag]
    exact (needing_needed ..).trans (if_pos hab)
  · rw [settle_tag_completed, hkept, hcompleted, htag, ← hcompleted']
    rfl
  · simp [hkept, hpassed, htag, Tag.passBlock, hpassed']
  · simp [hkept, hreallocs, htag, Tag.passBlock, hreallocs']
  · simp [hkept, hsoFar, htag, Tag.passBlock, hsoFar']
  · by_cases hlast : (s.tag n).completed + 1 = (s.tag n).count
    · rw [if_pos hlast] at hst ⊢
      exact settle_staysIn_ending s _ n hq' (by rw [hkept, hst])
    · rw [if_neg hlast] at hst ⊢
      exact settle_staysIn_active s _ n hq' (by rw [hkept, hst])

end Sys2Proof.Machine
end

section
/-! PROOFS. O32: the FAIL of an unmarked tag's reallocation (R105, R106, R107). -/
namespace Sys2Proof.Machine

/-! ## The spares that are left -/

/-- A retired spare is no longer free (R101, R105). -/
theorem freeSpares_of_retired {p : Nat} {s t : State} (h : SpareRetired p s t) :
    freeSpares t = (freeSpares s).filter (· ≠ p) := by
  obtain ⟨hremap, hretired⟩ := h
  unfold freeSpares
  rw [List.filter_filter]
  refine List.filter_congr fun q _ => ?_
  have hmapped : isMapped t q = isMapped s q := by rw [isMapped, isMapped, hremap]
  rw [hmapped, Bool.eq_iff_iff]
  simp only [Bool.and_eq_true, Bool.not_eq_true', List.contains_eq_mem, decide_eq_false_iff_not, decide_eq_true_eq,
    hretired q]
  tauto

/-- The machine after a FAIL on a spare, before what is owed is resolved. -/
def failedOnSpare (n : TagNo) (l : Nat) (o : ArrayOp) (s : State) : State := blockFailed n l (spareFailed n o s)

theorem failedOnSpare_tag (n : TagNo) (l : Nat) (o : ArrayOp) (s : State) :
    (failedOnSpare n l o s).tag n = ((s.tag n).needing (s.jrnl.lastStarted + 1)).owing := by
  rw [failedOnSpare, blockFailed_tag, if_pos rfl, spareFailed_tag, if_pos rfl]

theorem failedOnSpare_freeSpares (n : TagNo) (l : Nat) (o : ArrayOp) (s : State) :
    freeSpares (failedOnSpare n l o s) = (freeSpares s).filter (· ≠ o.pbn) :=
  freeSpares_of_retired ((spareFailed_retired n o s).congr ⟨by simp [failedOnSpare], by simp [failedOnSpare]⟩)

theorem failedOnSpare_sparesReported (n : TagNo) (l : Nat) (o : ArrayOp) (s : State) :
    SparesReported (settle s (resolveOwed (failedOnSpare n l o s))) := by
  have hreported : SparesReported (reportSpares (retire o.pbn ((programmed o .fail s).bump CondId.programFailures))) :=
    reportSpares_reported _
  have hfailed : RawKept [CondId.pendingBlocks] (reportSpares (retire o.pbn
      ((programmed o .fail s).bump CondId.programFailures))) (failedOnSpare n l o s) :=
    rawKept_of_cond (by simp [failedOnSpare, spareFailed]) _
  exact hreported.congr ((hfailed.trans (resolveOwed_rawKept _)).trans (settle_rawKept _ _))
    ⟨by simp [failedOnSpare, spareFailed], by simp [failedOnSpare, spareFailed]⟩

/-! ## An unmarked tag's block fails: what is owed, and what is given up -/

/-- With a spare left nothing is given up. -/
theorem OnlyTag.fails_kept {n : TagNo} {l : Nat} {s y : State} {x : Tag} {b : BlockInProgram} (h : OnlyTag n l s y)
    (ho : OwedOk s) (htag : y.tag n = x.owing) (hb : x.prog = some b) (hab : x.abortMark = false)
    (hw : x.wpMark = false) (hm : s.jrnl.mode ≠ .readOnly) (hf : freeSpares y ≠ []) : Machine.resolveOwed y = y := by
  have hspent : (resolveKey y).spent = false := Bool.eq_false_iff.2 fun e => hf ((resolveKey_spent y).1 e)
  refine resolveOwed_eq_self (fun u _ => ?_) (h.refreshOffers_kept ho hf)
  by_cases hu : u = n
  · rw [hu, htag]
    exact (Machine.resolved_kept (owing_prog hb) hab hw (h.readOnly_eq hm) hspent).2
  · rw [h.others u hu]
    exact (h.resolved_kept ho hf).2

/-- With no spare left the block is exhausted, and the needed sequence stays recorded (R106). -/
theorem OnlyTag.fails_spent {n : TagNo} {l : Nat} {s y : State} {x : Tag} {b : BlockInProgram} (h : OnlyTag n l s y)
    (htag : y.tag n = x.owing) (hb : x.prog = some b) (hab : x.abortMark = false) (hw : x.wpMark = false)
    (hm : s.jrnl.mode ≠ .readOnly) (hq : n ∈ s.req.queue) (hf : freeSpares y = [])
    (hx : x.completed = (s.tag n).completed ∧ x.passed = (s.tag n).passed ∧ x.issued = (s.tag n).issued ∧
      x.reallocs = (s.tag n).reallocs ∧ x.firstFail = (s.tag n).firstFail) :
    Exhausted s (settle s (Machine.resolveOwed y)) n b.lbn ∧
      ((settle s (Machine.resolveOwed y)).tag n).needed = x.needed := by
  have hq' : n ∈ y.req.queue := by rwa [h.queue]
  obtain ⟨hres, hfrees⟩ := resolved_exhausted (owing_prog hb) rfl (x := x.owing) hab hw (h.readOnly_eq hm)
    ((resolveKey_spent y).2 hf)
  have hlast : (resolveKey y).lastDone = s.jrnl.lastDone := h.lastDone
  rw [hlast] at hres
  rw [← htag] at hfrees
  have hend : (Machine.resolveOwed y).tag n = x.owing.exhausted b.lbn (x.owing.waitsAbove s.jrnl.lastDone) := by
    rw [resolveOwed_tag, if_pos hq', htag, hres]
  refine ⟨exhausted_settle hend hx hq (by simpa using hq') (resolveOwed_ownsNoSlot hq' hfrees)
    fun k hk => freed_of_cases (h.slots k) hq' hfrees hk, ?_⟩
  rw [settle_tag_needed, hend]
  unfold Tag.exhausted
  dsimp only
  split <;> rfl

/-! ## The two ends -/

theorem Exhausted.ending {s t : State} {n : TagNo} {l q : Nat} (h : Exhausted s t n l) (hn : (t.tag n).needed = some q)
    (hq : s.jrnl.lastDone < q) : StaysIn t n .ending := by
  obtain ⟨-, -, -, -, -, -, -, -, -, hwaits, -⟩ := h
  exact hwaits ⟨q, hn, hq⟩

/-- With a spare left the next one is owed or granted, and the lists are as they were (R99, R103, R105). -/
theorem failedOnSpare_owes {n : TagNo} {l : Nat} {o : ArrayOp} {b : BlockInProgram} {s : State} (howed : OwedOk s)
    (hb : (s.tag n).prog = some b) (hact : (s.tag n).state = .active) (hq : n ∈ s.req.queue) :
    let t := settle s (failedOnSpare n l o s)
    OwesOrGranted t n b ∧ (t.tag n).completed = (s.tag n).completed ∧ StaysIn t n .active ∧
      t.map.pendingLbns = s.map.pendingLbns ∧ t.map.overflow = s.map.overflow ∧ refreshAfter s.map.refresh t := by
  intro t
  obtain ⟨hcompleted, -, -, -, -, -, -, -, hprog⟩ := needing_keeps (s.jrnl.lastStarted + 1) (s.tag n)
  obtain ⟨hwrites, -⟩ := howed.1 n b hb
  obtain ⟨hstate, hkind, -⟩ := needing_origin (s.jrnl.lastStarted + 1) (s.tag n)
  have htag := failedOnSpare_tag n l o s
  have hactive : ((failedOnSpare n l o s).tag n).state = .active := by
    rw [htag]
    exact hstate.trans hact
  have hq' : n ∈ (failedOnSpare n l o s).req.queue := by simpa [failedOnSpare] using hq
  have hrefresh : (failedOnSpare n l o s).map.refresh = s.map.refresh := by simp [failedOnSpare]
  refine ⟨owesOrGranted_settle ?_ hactive ?_, ?_, settle_staysIn_active s _ n hq' hactive, by simp [t, failedOnSpare],
    by simp [t, failedOnSpare], hrefresh ▸ settle_refresh s _⟩
  · rw [htag]
    exact (congrArg Kind.writes hkind).trans hwrites
  · rw [htag]
    exact owing_prog (hprog.trans hb)
  · rw [settle_tag_completed, htag]
    exact hcompleted

/-- Settles O32: with a spare left nothing is given up (`OnlyTag.fails_kept`); with none the tag's block is exhausted
(`OnlyTag.fails_spent`), and so are the others (`OnlyTag.othersExhausted`). -/
theorem reallocationFails : Obligations.ReallocationFails := by
  rintro n l o b s ⟨ho, hreq, hact, hq, hab, hw⟩ hop hpur hl hb rfl hready hmax hlt hnodup howed left
  have hm : s.jrnl.mode ≠ .readOnly := by simp [hready]
  have honly : OnlyTag n b.lbn s (failedOnSpare n b.lbn o s) := failedOnSpare_onlyTag n b.lbn o s
  have htag := failedOnSpare_tag n b.lbn o s
  have hleft : freeSpares (failedOnSpare n b.lbn o s) = left := failedOnSpare_freeSpares n b.lbn o s
  have hend : freeSpares (settle s (resolveOwed (failedOnSpare n b.lbn o s))) = left :=
    (settle_freeSpares ..).trans ((freeSpares_of_remapKept ⟨by simp, by simp⟩).trans hleft)
  have hspares := failedOnSpare_sparesReported n b.lbn o s
  obtain ⟨hcount, hretired, hreason⟩ := failedOnSpare_counted n b.lbn o s
  obtain ⟨hcompleted, hpassed, hissued, hreallocs, -, -, hab', hw', hprog⟩ :=
    needing_keeps (s.jrnl.lastStarted + 1) (s.tag n)
  obtain ⟨-, -, hfirst⟩ := needing_origin (s.jrnl.lastStarted + 1) (s.tag n)
  have hneeded : ((s.tag n).needing (s.jrnl.lastStarted + 1)).needed =
      some (max ((s.tag n).needed.getD 0) (s.jrnl.lastStarted + 1)) := (needing_needed ..).trans (if_pos hab)
  unfold SparesReported at hspares
  rw [hend] at hspares
  have hexec : exec (.programBlockCompletion .fail) s = .next (settle s (resolveOwed (failedOnSpare n b.lbn o s))) :=
    exec_programFail_onSpare ho hreq hop hpur hl fun _ => hmax
  refine ⟨_, hexec, hretired, hend, hspares, hcount, hreason, ?_⟩
  by_cases hf : left = []
  · have hf' := hleft.trans hf
    obtain ⟨hex, hneed⟩ := honly.fails_spent htag (hprog.trans hb) (hab'.trans hab) (hw'.trans hw) hm hq hf'
      ⟨hcompleted, hpassed, hissued, hreallocs, hfirst⟩
    have hlists := honly.listsOffered_spent howed hnodup hf'
    rw [htag, owing_offers (hprog.trans hb), if_pos (by simp [(resolveKey_spent _).2 hf'])] at hlists
    have hoff := offered_settle (s₀ := s) (s := s) hlists (by simp [failedOnSpare])
    have hpending : (failedOnSpare n b.lbn o s).map.pendingLbns = s.map.pendingLbns := by simp [failedOnSpare]
    have hrefresh : (failedOnSpare n b.lbn o s).map.refresh = s.map.refresh := by simp [failedOnSpare]
    rw [hpending, hrefresh] at hoff
    exact ⟨hneed.trans hneeded, by rw [eq_true hf]; exact honly.othersExhausted howed hf', fun hno => absurd hf hno,
      fun _ => ⟨hex, hex.ending (hneed.trans hneeded) (by omega), hoff⟩⟩
  · have hkept := honly.fails_kept howed htag (hprog.trans hb) (hab'.trans hab) (hw'.trans hw) hm (by rwa [hleft])
    rw [hkept, settle_tag_needed, htag]
    exact ⟨hneeded, by rw [eq_false hf]; exact honly.othersOwed howed s, fun _ => failedOnSpare_owes howed hb hact hq,
      fun hyes => absurd hyes hf⟩

end Sys2Proof.Machine
end

section
/-! PROOFS. The end of a refresh program (R144, R147): what it does to the patrol, to the lists, and to what is owed. -/
namespace Sys2Proof.Machine

/-! ## What every end has in common -/

/-- `y` is the machine after the refresh program, when the event closes, and `w` the one before the lists and the refresh
block are seen to: the requests and the scan are as they were, of the patrol only the buffer and the refresh block change. -/
structure RefreshEnd (s w y : State) : Prop where
  req : y.req = s.req
  patrol : y.patrol = { s.patrol with buf := y.patrol.buf, refreshBlock := y.patrol.refreshBlock }
  mode : y.jrnl.mode = s.jrnl.mode
  jrnl : y.jrnl = w.jrnl
  remap : RemapKept w y
  raw : RawKept [CondId.pendingBlocks] w y

/-- While the queue's tags are live the close of an event leaves the patrol's state (R135). -/
theorem settle_patrolState_of_live {s₀ s : State} (hq : s₀.req.queue = s.req.queue) (hl : queueLive s) :
    (settle s₀ s).patrol.state = s.patrol.state := by
  have harb : (settle s₀ s).patrol.state = (closedEvent s₀ s).patrol.state := by simp [settle_eq]
  rw [harb, closedEvent_patrol_of_live hq hl]

/-- The refresh block is over, and the buffer is empty (R144). -/
def refreshOver (t : State) : Prop :=
  t.patrol.refreshBlock = none ∧ t.patrol.buf.valid = false ∧ t.patrol.buf.words = []

/-- What a refresh program leaves of the scan. -/
def scanKept (s t : State) : Prop :=
  t.patrol.state = s.patrol.state ∧ t.patrol.mode = s.patrol.mode ∧ t.patrol.status = s.patrol.status ∧
    t.patrol.resume = s.patrol.resume ∧ t.jrnl.mode = s.jrnl.mode

theorem refreshOver_settle {s₀ y : State} (hn : y.patrol.refreshBlock = none)
    (hb : y.patrol.buf = PatrolBuffer.discarded) : refreshOver (settle s₀ y) := by
  refine ⟨settle_refreshBlock_none hn (by rw [hb]; rfl), ?_, ?_⟩
  all_goals
    rw [settle_buf, hb]
    rfl

section
variable {s w y : State}

theorem RefreshEnd.scanKept (h : RefreshEnd s w y) (hl : queueLive s) : scanKept s (settle s y) := by
  have hlive : queueLive y := fun u hu => by
    rw [tag_eq_of_req h.req]
    exact hl u (h.req ▸ hu)
  refine ⟨?_, ?_, ?_, ?_, (settle_mode s y).trans h.mode⟩
  · rw [settle_patrolState_of_live (by rw [h.req]) hlive, h.patrol]
  all_goals
    have hp := h.patrol
    simp [congrArg PatrolEngine.mode hp, congrArg PatrolEngine.status hp, congrArg PatrolEngine.resume hp]

theorem RefreshEnd.remap_settle (h : RefreshEnd s w y) : RemapKept w (settle s y) := by
  obtain ⟨hremap, hretired⟩ := h.remap
  exact ⟨by simpa using hremap, by simpa using hretired⟩

theorem RefreshEnd.raw_settle (h : RefreshEnd s w y) : RawKept [CondId.pendingBlocks] w (settle s y) :=
  h.raw.trans (settle_rawKept s y)

theorem RefreshEnd.reasonMade (h : RefreshEnd s w y) (hw : w.jrnl.commitNeeded = true)
    (hs : w.jrnl.lastStarted = s.jrnl.lastStarted) : reasonMade s (settle s y) :=
  settle_reasonMade s y s (by rw [h.jrnl, hw]) (by rw [h.jrnl, hs])

end

/-- The counts of what the program did stand when the event closes, and condition 5 is the number of free spares. -/
theorem RefreshEnd.counted {s w y : State} {i : CondId} (h : RefreshEnd s w y)
    (hc : RawCounted i [CondId.sparesRemaining, CondId.pendingBlocks] s w)
    (hi : i ∉ [CondId.sparesRemaining, CondId.pendingBlocks]) (hr : SparesReported w) :
    SparesReported (settle s y) ∧ RawCounted i [CondId.sparesRemaining, CondId.pendingBlocks] s (settle s y) :=
  ⟨hr.congr h.raw_settle h.remap_settle, hc.of_kept (.refl _ s) (h.raw_settle.mono (by decide)) hi⟩

/-! ## Which programs these are -/

/-- The refresh program of the refresh block `b` of LBN `l` is in flight, and no other block owes a reallocation. -/
structure RefreshProgram (s : State) (o : ArrayOp) (l : Nat) (b : BlockInProgram) : Prop where
  op : s.array.op = some o
  operation : o.operation = .programBlock
  requester : o.requester = .patrol
  lbn : o.lbn = some l
  block : s.patrol.refreshBlock = some b
  blockLbn : b.lbn = l
  live : queueLive s
  others : NoOtherOwes s none l
  sequence : s.jrnl.mode = .ready → s.jrnl.lastStarted < 4294967295

theorem foldl_resolveOwedTag_unowed {s : State} {us : List TagNo}
    (h : ∀ u ∈ us, ∀ b, (s.tag u).prog = some b → b.owed = false) : us.foldl resolveOwedTag s = s := by
  induction us with
  | nil => rfl
  | cons u us ih =>
    obtain ⟨hu, hus⟩ := List.forall_mem_cons.1 h
    rw [List.foldl_cons, resolveOwedTag_unowed hu]
    exact ih hus

section
variable {s w y : State} {o : ArrayOp} {l : Nat} {b : BlockInProgram}

theorem RefreshProgram.programDone (h : RefreshProgram s o l b) (out : ProgramOutcome) :
    programDone o out (programmed o out s) = refreshDone l o.pbn (o.purpose == .reallocation) out (programmed o out s) := by
  have hblock : (programmed o out s).patrol.refreshBlock = some b := h.block
  unfold Machine.programDone
  simp only [h.requester, h.lbn, Option.getD_some, patrolProgramDone, hblock]

/-- No tag's block is given up: only the refresh block can be. -/
theorem RefreshProgram.resolveOwed (h : RefreshProgram s o l b) (hreq : y.req = s.req) :
    resolveOwed y = resolveOwedRefresh y := by
  obtain ⟨htags, -⟩ := h.others
  unfold Machine.resolveOwed
  rw [foldl_resolveOwedTag_unowed]
  intro u hu b' hb'
  rw [hreq] at hu
  rw [tag_eq_of_req hreq] at hb'
  exact htags u hu nofun b' hb'

theorem RefreshProgram.checkSequence (h : RefreshProgram s o l b) (hm : y.jrnl.mode = s.jrnl.mode)
    (hs : y.jrnl.lastStarted = s.jrnl.lastStarted) : checkSequence y = y :=
  checkSequence_eq_self (by rw [hm, hs]; exact h.sequence)

end

/-! ## A PASS -/

/-- A PASS in place is counted as condition 9 (R144). -/
def refreshCounted (l : Nat) (o : ArrayOp) (s : State) : State := (clearLists l (programmed o .pass s)).bump CondId.refreshes

section
variable {s : State} {o : ArrayOp} {l : Nat} {b : BlockInProgram}

theorem endRefresh_keeps (x : State) : (endRefresh x).map = x.map ∧ (endRefresh x).cond = x.cond ∧
    (endRefresh x).jrnl = x.jrnl ∧ (endRefresh x).req = x.req ∧ (endRefresh x).patrol.refreshBlock = none ∧
    (endRefresh x).patrol.buf = PatrolBuffer.discarded := ⟨rfl, rfl, rfl, rfl, rfl, rfl⟩

theorem refreshCounted_end (l : Nat) (o : ArrayOp) (s : State) :
    RefreshEnd s (refreshCounted l o s) (endRefresh (refreshCounted l o s)) := by
  have hp : (refreshCounted l o s).patrol = s.patrol := by simp [refreshCounted]
  refine ⟨by simp [refreshCounted, endRefresh], ?_, by simp [refreshCounted, endRefresh], rfl, ⟨rfl, rfl⟩, .refl _ _⟩
  unfold endRefresh discardBuffer
  rw [hp]

theorem orphanRemapped_end (l : Nat) (o : ArrayOp) (s : State) :
    RefreshEnd s (orphanRemapped l o s) (endRefresh (clearLists l (orphanRemapped l o s))) := by
  have hw := orphanRemapped_before l o s
  have hp : (clearLists l (orphanRemapped l o s)).patrol = s.patrol := by simp [hw.patrol]
  refine ⟨by simp [endRefresh, hw.req], ?_, by simp [endRefresh, hw.mode], by simp [endRefresh],
    ⟨by simp [endRefresh], by simp [endRefresh]⟩, clearLists_rawKept l _⟩
  unfold endRefresh discardBuffer
  rw [hp]

theorem RefreshProgram.exec_passInPlace (h : RefreshProgram s o l b) (hpur : o.purpose ≠ .reallocation) :
    exec (.programBlockCompletion .pass) s = .next (settle s (endRefresh (refreshCounted l o s))) := by
  rw [exec_programCompletion h.op h.operation, h.programDone, beq_eq_false_iff_ne.2 hpur]
  rfl

theorem RefreshProgram.exec_passOnSpare (h : RefreshProgram s o l b) (hpur : o.purpose = .reallocation) :
    exec (.programBlockCompletion .pass) s =
      .next (settle s (endRefresh (clearLists l (orphanRemapped l o s)))) := by
  have hend := orphanRemapped_end l o s
  have hw := orphanRemapped_before l o s
  have hdone : refreshDone l o.pbn true .pass (programmed o .pass s) =
      Machine.checkSequence (Machine.resolveOwed (endRefresh (clearLists l (orphanRemapped l o s)))) := rfl
  have hgone : resolveOwedRefresh (endRefresh (clearLists l (orphanRemapped l o s))) =
      endRefresh (clearLists l (orphanRemapped l o s)) := rfl
  rw [h.resolveOwed hend.req, hgone, h.checkSequence hend.mode (by rw [hend.jrnl, hw.lastStarted])] at hdone
  rw [exec_programCompletion h.op h.operation, h.programDone, beq_iff_eq.2 hpur, hdone]

/-- The lists after the PASS: the LBN has left both. -/
theorem endRefresh_listsCleared {w : State} (hp : w.map.pendingLbns = s.map.pendingLbns)
    (ho : w.map.overflow = s.map.overflow) (hr : w.map.refresh = s.map.refresh) (l : Nat) {y : State}
    (hy : y.map = (clearLists l w).map) : ListsCleared l s (settle s y) := by
  obtain ⟨hp', ho', hr'⟩ := clearLists_lists l w
  exact listsCleared_settle (by rw [hy, hp', hp]) (by rw [hy, ho', ho]) (by rw [hy, hr', hr])

theorem RefreshProgram.passes_inPlace (h : RefreshProgram s o l b) :
    let t := settle s (endRefresh (refreshCounted l o s))
    (refreshOver t ∧ scanKept s t ∧ ListsCleared l s t) ∧ RemapKept s t ∧
      RawCounted CondId.refreshes [CondId.pendingBlocks] s t := by
  intro t
  have hend := refreshCounted_end l o s
  have hraw : RawKept [CondId.pendingBlocks] s (clearLists l (programmed o .pass s)) :=
    clearLists_rawKept l (programmed o .pass s)
  obtain ⟨hremap, hretired⟩ := hend.remap_settle
  refine ⟨⟨refreshOver_settle rfl rfl, hend.scanKept h.live, ?_⟩, ⟨hremap.trans ?_, hretired.trans ?_⟩, ?_⟩
  · exact endRefresh_listsCleared (w := programmed o .pass s) rfl rfl rfl l (by simp [refreshCounted, endRefresh])
  · simp [refreshCounted]
  · simp [refreshCounted]
  · exact (bump_rawCounted _ _ _).of_kept hraw hend.raw_settle (by decide)

theorem orphanRemapped_counted (l : Nat) (o : ArrayOp) (s : State) :
    RawCounted CondId.reallocations [CondId.sparesRemaining, CondId.pendingBlocks] s (orphanRemapped l o s) := by
  have hspares : RawKept [CondId.sparesRemaining] _ (orphanRemapped l o s) := reportSpares_rawKept _
  exact (bump_rawCounted _ _ _).of_kept (rawKept_of_cond (by simp) _) (hspares.mono (by decide)) (by decide)

theorem orphanRemapped_mapped (l : Nat) (o : ArrayOp) (s : State) : MappedTo l o.pbn s (orphanRemapped l o s) :=
  MappedTo.congr (t := remapTo l o.pbn (programmed o .pass s)) (remapTo_mapped l o.pbn (programmed o .pass s))
    ⟨by simp [orphanRemapped], by simp [orphanRemapped]⟩

theorem RefreshProgram.passes_onSpare (h : RefreshProgram s o l b) :
    let t := settle s (endRefresh (clearLists l (orphanRemapped l o s)))
    (refreshOver t ∧ scanKept s t ∧ ListsCleared l s t) ∧ MappedTo l o.pbn s t ∧ reasonMade s t ∧ SparesReported t ∧
      RawCounted CondId.reallocations [CondId.sparesRemaining, CondId.pendingBlocks] s t := by
  intro t
  have hend := orphanRemapped_end l o s
  have hw := orphanRemapped_before l o s
  exact ⟨⟨refreshOver_settle rfl rfl, hend.scanKept h.live, endRefresh_listsCleared hw.pending hw.overflow hw.refresh l rfl⟩,
    (orphanRemapped_mapped l o s).congr hend.remap_settle,
    hend.reasonMade (by simp [orphanRemapped, commitReason]) hw.lastStarted,
    hend.counted (orphanRemapped_counted l o s) (by decide) (reportSpares_reported _)⟩

end

/-! ## A FAIL -/

/-- A spare is owed to the refresh block; the buffer is invalid, and its words stay (R147). -/
def refreshOwing (w : State) : State := { w with patrol := w.patrol.owing }

/-- The refresh block is given up: the LBN is offered to the pending list, and the buffer's words are discarded (R106). -/
def refreshGivenUp (l : Nat) (w : State) : State :=
  discardBuffer (offerPending l { w with patrol := { w.patrol.owing with refreshBlock := none } })

section
variable {s w : State} {o : ArrayOp} {l : Nat} {b : BlockInProgram}

theorem RefreshProgram.refreshOwes (h : RefreshProgram s o l b) (hw : BeforeOrphanEnd s w) :
    refreshOwes w = if s.jrnl.mode = .readOnly ∨ freeSpares w = [] then refreshGivenUp l w else refreshOwing w := by
  have hblock : (refreshOwing w).patrol.refreshBlock = some { b with inFlight := false, owed := true } := by
    simp [refreshOwing, PatrolEngine.owing, hw.patrol, h.block]
  have hfree : freeSpares (refreshOwing w) = freeSpares w := freeSpares_of_remapKept ⟨rfl, rfl⟩
  have hmode : (refreshOwing w).jrnl.mode = s.jrnl.mode := hw.mode
  have howes : Machine.refreshOwes w = Machine.resolveOwed (refreshOwing w) := rfl
  rw [howes, h.resolveOwed (y := refreshOwing w) hw.req]
  unfold resolveOwedRefresh
  simp only [hblock, hfree, hmode, h.blockLbn, Bool.true_and, Bool.or_eq_true, beq_iff_eq, List.isEmpty_iff]
  rfl

theorem BeforeOrphanEnd.owing (hw : BeforeOrphanEnd s w) : RefreshEnd s w (refreshOwing w) := by
  refine ⟨hw.req, ?_, hw.mode, rfl, ⟨rfl, rfl⟩, .refl _ _⟩
  unfold refreshOwing PatrolEngine.owing
  rw [hw.patrol]

theorem BeforeOrphanEnd.givenUp (hw : BeforeOrphanEnd s w) (l : Nat) : RefreshEnd s w (refreshGivenUp l w) := by
  refine ⟨by simp [refreshGivenUp, hw.req], ?_, by simp [refreshGivenUp, hw.mode], by simp [refreshGivenUp],
    ⟨by simp [refreshGivenUp], by simp [refreshGivenUp]⟩, ?_⟩
  · simp [refreshGivenUp, discardBuffer, PatrolEngine.owing, hw.patrol]
  · exact offerPending_rawKept l { w with patrol := { w.patrol.owing with refreshBlock := none } }

/-- With a spare left the refresh block owes it, or is granted the lowest one (R103, R147). -/
theorem RefreshProgram.owing_settle (h : RefreshProgram s o l b) (hw : BeforeOrphanEnd s w) {p : Nat} {rest : List Nat}
    (hf : freeSpares w = p :: rest) :
    let t := settle s (refreshOwing w)
    (t.patrol.refreshBlock = some { b with inFlight := false, owed := true } ∨
      t.patrol.refreshBlock = some { b with stage := .spare, target := p, inFlight := true, owed := false }) ∧
    t.patrol.buf.valid = false ∧ t.patrol.buf.words = s.patrol.buf.words ∧ t.map.pendingLbns = s.map.pendingLbns ∧
      t.map.overflow = s.map.overflow ∧ refreshAfter s.map.refresh t := by
  intro t
  have hblock : (refreshOwing w).patrol.refreshBlock = some { b with inFlight := false, owed := true } := by
    simp [refreshOwing, PatrolEngine.owing, hw.patrol, h.block]
  have hfree : freeSpares t = p :: rest :=
    (settle_freeSpares ..).trans ((freeSpares_of_remapKept (t := refreshOwing w) ⟨rfl, rfl⟩).trans hf)
  have hbuf : t.patrol.buf = { s.patrol.buf with valid := false } := by
    rw [settle_buf, refreshOwing, PatrolEngine.owing, hw.patrol]
  have hrefresh := settle_refresh s (refreshOwing w)
  have hlist : (refreshOwing w).map.refresh = s.map.refresh := hw.refresh
  obtain ⟨hp, ho⟩ := Prod.mk.inj (settle_pending s (refreshOwing w))
  refine ⟨(refreshOwes_settle hblock).imp_right fun ⟨q, hq, e⟩ => ?_, by rw [hbuf], by rw [hbuf], hp.trans hw.pending,
    ho.trans hw.overflow, hlist ▸ hrefresh⟩
  rw [hfree] at hq
  cases hq
  exact e

/-- The block that is given up is over, and its LBN has been offered (R106, R144). -/
theorem BeforeOrphanEnd.givenUp_settle (hw : BeforeOrphanEnd s w) (l : Nat) :
    refreshOver (settle s (refreshGivenUp l w)) ∧ OfferedPending l s (settle s (refreshGivenUp l w)) := by
  obtain ⟨hlists, hr⟩ := offerPending_lists l { w with patrol := { w.patrol.owing with refreshBlock := none } }
  have hrefresh := settle_refresh s (refreshGivenUp l w)
  refine ⟨refreshOver_settle (by simp [refreshGivenUp]) rfl, (settle_pending s _).trans ?_, ?_⟩
  · refine hlists.trans ?_
    rw [← hw.pending, ← hw.overflow]
  · rw [← hw.refresh, ← hr]
    exact hrefresh

/-- The state in which a FAIL leaves the machine when the event closes. -/
def refreshFailed (l : Nat) (s w : State) : State :=
  if s.jrnl.mode = .readOnly ∨ freeSpares w = [] then refreshGivenUp l w else refreshOwing w

theorem refreshFailed_end (hw : BeforeOrphanEnd s w) (l : Nat) : RefreshEnd s w (refreshFailed l s w) := by
  unfold refreshFailed
  split
  · exact hw.givenUp l
  · exact hw.owing

/-- What a FAIL leaves, whether a spare or the block itself failed. -/
theorem RefreshProgram.fails (h : RefreshProgram s o l b) (hw : BeforeOrphanEnd s w) {left : List Nat}
    (hf : freeSpares w = left) :
    let t := settle s (refreshFailed l s w)
    scanKept s t ∧
    (s.jrnl.mode ≠ .readOnly → ∀ p rest, left = p :: rest →
      (t.patrol.refreshBlock = some { b with inFlight := false, owed := true } ∨
        t.patrol.refreshBlock = some { b with stage := .spare, target := p, inFlight := true, owed := false }) ∧
      t.patrol.buf.valid = false ∧ t.patrol.buf.words = s.patrol.buf.words ∧
      t.map.pendingLbns = s.map.pendingLbns ∧ t.map.overflow = s.map.overflow ∧ refreshAfter s.map.refresh t) ∧
    (s.jrnl.mode = .readOnly ∨ left = [] → refreshOver t ∧ OfferedPending l s t) := by
  subst hf
  refine ⟨(refreshFailed_end hw l).scanKept h.live, fun hm p rest hp => ?_, fun hover => ?_⟩
  · rw [refreshFailed, if_neg (by simp [hm, hp])]
    exact h.owing_settle hw hp
  · rw [refreshFailed, if_pos hover]
    exact hw.givenUp_settle l

theorem RefreshProgram.exec_failInPlace (h : RefreshProgram s o l b) (hpur : o.purpose ≠ .reallocation) :
    exec (.programBlockCompletion .fail) s = .next (settle s (refreshFailed l s (failureCounted o s))) := by
  have hdone : refreshDone l o.pbn false .fail (programmed o .fail s) = Machine.refreshOwes (failureCounted o s) := rfl
  rw [exec_programCompletion h.op h.operation, h.programDone, beq_eq_false_iff_ne.2 hpur, hdone,
    h.refreshOwes (failureCounted_before o s)]
  rfl

theorem RefreshProgram.exec_failOnSpare (h : RefreshProgram s o l b) (hpur : o.purpose = .reallocation) :
    exec (.programBlockCompletion .fail) s = .next (settle s (refreshFailed l s (orphanSpareFailed o s))) := by
  have hw := orphanSpareFailed_before o s
  have hend := refreshFailed_end hw l
  have hdone : refreshDone l o.pbn true .fail (programmed o .fail s) =
      Machine.checkSequence (Machine.refreshOwes (orphanSpareFailed o s)) := rfl
  have howes : Machine.refreshOwes (orphanSpareFailed o s) = refreshFailed l s (orphanSpareFailed o s) := h.refreshOwes hw
  rw [howes, h.checkSequence hend.mode (by rw [hend.jrnl, hw.lastStarted])] at hdone
  rw [exec_programCompletion h.op h.operation, h.programDone, beq_iff_eq.2 hpur, hdone]

/-- The failure in place is counted, and no spare is touched (R99). -/
theorem refreshFails_inPlace (l : Nat) (o : ArrayOp) (s : State) :
    let t := settle s (refreshFailed l s (failureCounted o s))
    RemapKept s t ∧ RawCounted CondId.programFailures [CondId.pendingBlocks] s t := by
  intro t
  have hend := refreshFailed_end (failureCounted_before o s) l
  obtain ⟨hremap, hretired⟩ := hend.remap_settle
  exact ⟨⟨hremap.trans (by simp [failureCounted]), hretired.trans (by simp [failureCounted])⟩,
    (failureCounted_counted o s _).of_kept (.refl _ s) hend.raw_settle (by decide)⟩

theorem orphanSpareFailed_retired (o : ArrayOp) (s : State) : SpareRetired o.pbn s (orphanSpareFailed o s) := by
  have hretired : SpareRetired o.pbn s (retire o.pbn (failureCounted o s)) := retire_spare o.pbn (failureCounted o s)
  exact hretired.congr ⟨by simp [orphanSpareFailed], by simp [orphanSpareFailed]⟩

theorem orphanSpareFailed_reported (o : ArrayOp) (s : State) : SparesReported (orphanSpareFailed o s) :=
  (reportSpares_reported (retire o.pbn (failureCounted o s))).congr (rawKept_of_cond rfl _) ⟨rfl, rfl⟩

theorem orphanSpareFailed_counted (o : ArrayOp) (s : State) :
    RawCounted CondId.programFailures [CondId.sparesRemaining, CondId.pendingBlocks] s (orphanSpareFailed o s) := by
  have hspares : RawKept [CondId.sparesRemaining] _ (orphanSpareFailed o s) :=
    reportSpares_rawKept (retire o.pbn (failureCounted o s))
  exact (failureCounted_counted o s _).of_kept (.refl _ s)
    (RawKept.trans (t := retire o.pbn (failureCounted o s)) (rawKept_of_cond rfl _) (hspares.mono (by decide))) (by decide)

/-- The failed spare is retired, with a commit reason (R105). -/
theorem refreshFails_onSpare (l : Nat) (o : ArrayOp) (s : State) :
    let t := settle s (refreshFailed l s (orphanSpareFailed o s))
    SpareRetired o.pbn s t ∧ reasonMade s t ∧ SparesReported t ∧
      RawCounted CondId.programFailures [CondId.sparesRemaining, CondId.pendingBlocks] s t := by
  intro t
  have hw := orphanSpareFailed_before o s
  have hend := refreshFailed_end hw l
  exact ⟨(orphanSpareFailed_retired o s).congr hend.remap_settle,
    hend.reasonMade (by simp [orphanSpareFailed, commitReason]) hw.lastStarted,
    hend.counted (orphanSpareFailed_counted o s) (by decide) (orphanSpareFailed_reported o s)⟩

end

/-! ## O33 -/

/-- Settles O33, from the two ends of a PASS and the two of a FAIL. -/
theorem refreshProgramEnds : Obligations.RefreshProgramEnds := by
  intro l o b s ho hop hreq hl hb hbl hlive hothers hseq left isOver _
  have h : RefreshProgram s o l b := ⟨ho, hop, hreq, hl, hb, hbl, hlive, hothers, hseq⟩
  by_cases hpur : o.purpose = .reallocation
  · obtain ⟨⟨hover, hscan, hcleared⟩, hpass⟩ := h.passes_onSpare
    have hleft : freeSpares (orphanSpareFailed o s) = left :=
      (freeSpares_of_retired (orphanSpareFailed_retired o s)).trans (if_pos hpur).symm
    obtain ⟨hscan', hkept, hgiven⟩ := h.fails (orphanSpareFailed_before o s) hleft
    obtain ⟨hretired, hreason, hreported, hcount⟩ := refreshFails_onSpare l o s
    have hspares : ((settle s (refreshFailed l s (orphanSpareFailed o s))).cond[CondId.sparesRemaining]).raw =
        left.length := by
      rw [hreported, freeSpares_of_retired hretired]
      exact congrArg List.length (if_pos hpur).symm
    obtain ⟨hmapped, hmade, hrep, hcounted⟩ := hpass
    exact ⟨⟨_, h.exec_passOnSpare hpur, hover, hscan, hcleared, fun hne => absurd hpur hne,
        fun _ => ⟨hmapped, hmade, hrep, hcounted⟩⟩,
      _, h.exec_failOnSpare hpur, hscan', fun hne => absurd hpur hne, fun _ => ⟨hretired, hreason, hspares, hcount⟩,
        hkept, hgiven⟩
  · obtain ⟨⟨hover, hscan, hcleared⟩, hpass⟩ := h.passes_inPlace
    have hfree : freeSpares (failureCounted o s) = freeSpares s :=
      freeSpares_of_remapKept ⟨by simp [failureCounted], by simp [failureCounted]⟩
    have hleft : freeSpares (failureCounted o s) = left := hfree.trans (if_neg hpur).symm
    obtain ⟨hscan', hkept, hgiven⟩ := h.fails (failureCounted_before o s) hleft
    exact ⟨⟨_, h.exec_passInPlace hpur, hover, hscan, hcleared, fun _ => hpass, fun he => absurd he hpur⟩,
      _, h.exec_failInPlace hpur, hscan', fun _ => refreshFails_inPlace l o s, fun he => absurd he hpur, hkept, hgiven⟩

end Sys2Proof.Machine
end

section
/-! PROOFS. The Journal and the Patrol Engine seen together: what their invariants speak of, and what holds of it after each
shared operation (R130, R134, R135, R137, R147, R152, R160). -/
namespace Sys2Proof.Machine

/-! ## The view -/

/-- What the invariants of the Journal and of the Patrol Engine speak of. -/
structure Engine where
  low : Bool
  op : Option ArrayOp
  queue : List TagNo
  store : StoreMode
  lastStarted : Nat
  lastDone : Nat
  nextPos : Nat
  commit : Option Commit
  scanNext : Option Nat
  state : PatrolState
  mode : Option PatrolMode
  quietTimer : Option Nat
  quietElapsed : Bool
  gapTimer : Option Nat

/-- The view of a state. -/
def engine (s : State) : Engine where
  low := s.rstnLow
  op := s.array.op
  queue := s.req.queue
  store := s.jrnl.mode
  lastStarted := s.jrnl.lastStarted
  lastDone := s.jrnl.lastDone
  nextPos := s.jrnl.nextPos
  commit := s.jrnl.commit
  scanNext := s.jrnl.scanNext
  state := s.patrol.state
  mode := s.patrol.mode
  quietTimer := s.patrol.quietTimer
  quietElapsed := s.patrol.quietElapsed
  gapTimer := s.patrol.gapTimer

/-- Background is permitted (R134). -/
def Engine.permitted (e : Engine) : Prop := e.queue = [] ∧ e.quietElapsed = true ∧ e.store ≠ .starting

theorem bgPermitted_iff (s : State) : bgPermitted s = true ↔ (engine s).permitted := by
  simp [bgPermitted, foregroundIdle, Engine.permitted, engine, and_assoc]

/-- What the invariant says of the Journal while RSTn is high (R152, R160, R163, R166). -/
structure JournalPart (e : Engine) : Prop where
  done : e.lastDone ≤ e.lastStarted
  started : ∀ c, e.commit = some c → c.sequence ≤ e.lastStarted ∧ 1 ≤ c.attempts
  position : e.nextPos ≤ 31
  scanStarting : e.store ≠ .starting → e.scanNext = none
  journalOp : ∀ o, e.op = some o → o.requester = .journal →
    e.scanNext = none ∧ (o.operation = .readBlock → e.store = .starting ∧ e.commit = none)
  scanFirst : e.scanNext ≠ none → e.commit = none

/-- What the invariant says of the patrol while RSTn is high (R130, R134, R135, R137). -/
structure PatrolPart (e : Engine) : Prop where
  running : e.state = .running → e.permitted
  waiting : e.state = .waiting → ¬ e.permitted
  idle : e.state = .idle ↔ e.mode = none
  gap : e.state = .gap ↔ e.gapTimer ≠ none
  busy : e.queue ≠ [] → e.quietTimer = none ∧ e.quietElapsed = false
  starting : e.store = .starting → e.queue = [] ∧ e.state = .idle

/-- RSTn is high, and both parts of the invariant hold. -/
structure EngineOk (e : Engine) : Prop where
  high : e.low = false
  journal : JournalPart e
  patrol : PatrolPart e

/-- The invariant of a state with RSTn high. -/
def RunOk (s : State) : Prop := EngineOk (engine s)

/-- With RSTn high the invariant is that of O58. -/
theorem runOk_iff {s : State} (hr : s.rstnLow = false) : RunOk s ↔ JournalOk s ∧ PatrolOk s := by
  have hw : bgPermitted s = false ↔ ¬ (engine s).permitted := by
    rw [← bgPermitted_iff, Bool.not_eq_true]
  unfold JournalOk PatrolOk
  rw [bgPermitted_iff, hw, hr]
  constructor
  · rintro ⟨-, ⟨hdone, hstarted, hpos, hstarting, hop, hfirst⟩, ⟨hrun, hwait, hidle, hgap, hbusy, hstart⟩⟩
    exact ⟨⟨hdone, hstarted, hpos, hstarting, hop, hfirst, nofun⟩, hrun, hwait, hidle, hgap, hbusy,
      fun h => hstart (h.resolve_left nofun)⟩
  · rintro ⟨⟨hdone, hstarted, hpos, hstarting, hop, hfirst, -⟩, hrun, hwait, hidle, hgap, hbusy, hstart⟩
    exact ⟨hr, ⟨hdone, hstarted, hpos, hstarting, hop, hfirst⟩, ⟨hrun, hwait, hidle, hgap, hbusy, fun h => hstart (.inr h)⟩⟩

/-- An operation that leaves the view as it was. -/
theorem RunOk.congr {s t : State} (h : RunOk s) (e : engine t = engine s) : RunOk t := by
  unfold RunOk at h ⊢
  rwa [e]

theorem RunOk.high {s : State} (h : RunOk s) : s.rstnLow = false := EngineOk.high h

theorem RunOk.starting {s : State} (h : RunOk s) (hm : s.jrnl.mode = .starting) :
    s.req.queue = [] ∧ s.patrol.state = .idle := h.patrol.starting hm

theorem RunOk.scanNext {s : State} (h : RunOk s) (hm : s.jrnl.mode ≠ .starting) : s.jrnl.scanNext = none :=
  h.journal.scanStarting hm

/-- A RUNNING engine has the queue empty (R134). -/
theorem RunOk.not_running {s : State} (h : RunOk s) (hq : s.req.queue ≠ []) : s.patrol.state ≠ .running :=
  fun hs => hq (h.patrol.running hs).1

/-- A running timer belongs to the state it stands for: GAP alone has a gap timer (R137). -/
theorem RunOk.gapTimer {s : State} (h : RunOk s) (hs : s.patrol.state ≠ .gap) : s.patrol.gapTimer = none :=
  of_not_not fun hne => hs (h.patrol.gap.2 hne)

/-! ## The unit -/

/-- The operation in flight is over, or another one than the Journal's begins. -/
theorem RunOk.setOp {s t : State} (h : RunOk s) {o : Option ArrayOp} (e : engine t = { engine s with op := o })
    (ho : ∀ p, o = some p → p.requester ≠ .journal) : RunOk t := by
  obtain ⟨hhigh, ⟨hdone, hstarted, hpos, hstarting, -, hfirst⟩, ⟨hrun, hwait, hidle, hgap, hbusy, hstart⟩⟩ := h
  unfold RunOk
  rw [e]
  exact ⟨hhigh, ⟨hdone, hstarted, hpos, hstarting, fun p hp hj => absurd hj (ho p hp), hfirst⟩,
    ⟨hrun, hwait, hidle, hgap, hbusy, hstart⟩⟩

/-! ## The patrol's state and timers -/

/-- The scan of the patrol is set to a state and a mode, with or without the gap timer (R137, R138, R139, R142). -/
theorem RunOk.setScan {s t : State} (h : RunOk s) {st : PatrolState} {m : Option PatrolMode} {g : Option Nat}
    (e : engine t = { engine s with state := st, mode := m, gapTimer := g })
    (hst : st = .idle ∨ st = .gap ∨ st = runOrWait s) (hidle : st = .idle ↔ m = none) (hgap : st = .gap ↔ g ≠ none)
    (hm : s.jrnl.mode ≠ .starting) : RunOk t := by
  obtain ⟨hhigh, hjournal, ⟨-, -, -, -, hbusy, -⟩⟩ := h
  have hrun : st = .running → (engine s).permitted := by
    rintro rfl
    rw [← bgPermitted_iff]
    unfold runOrWait at hst
    split at hst <;> simp_all
  have hwait : st = .waiting → ¬ (engine s).permitted := by
    rintro rfl
    rw [← bgPermitted_iff]
    unfold runOrWait at hst
    split at hst <;> simp_all
  unfold RunOk
  rw [e]
  exact ⟨hhigh, ⟨hjournal.done, hjournal.started, hjournal.position, hjournal.scanStarting, hjournal.journalOp,
    hjournal.scanFirst⟩, ⟨hrun, hwait, hidle, hgap, hbusy, fun hs => absurd hs hm⟩⟩

theorem runOrWait_cases (s : State) : runOrWait s = .running ∨ runOrWait s = .waiting := by
  unfold runOrWait
  split
  · exact .inl rfl
  · exact .inr rfl

theorem RunOk.setPatrolStatus {s : State} (h : RunOk s) (st : PatrolStatus) : RunOk (setPatrolStatus st s) :=
  h.congr (by simp [engine])

/-- The queue, or the quiet time, changes, and with it an engine that runs or waits (R134, R135). -/
theorem RunOk.setQuiet {s t : State} (h : RunOk s) {q : List TagNo} {st : PatrolState} {quiet : Option Nat} {b : Bool}
    (e : engine t = { engine s with queue := q, state := st, quietTimer := quiet, quietElapsed := b })
    (hst : st = s.patrol.state ∨ (s.patrol.state = .running ∧ st = .waiting) ∨
      (s.patrol.state = .waiting ∧ st = .running))
    (hrun : st = .running → q = [] ∧ b = true ∧ s.jrnl.mode ≠ .starting)
    (hwait : st = .waiting → ¬ (q = [] ∧ b = true ∧ s.jrnl.mode ≠ .starting))
    (hbusy : q ≠ [] → quiet = none ∧ b = false) (hstart : s.jrnl.mode = .starting → q = []) : RunOk t := by
  obtain ⟨hhigh, hjournal, ⟨-, -, hidle, hgap, -, hstarting⟩⟩ := h
  have hclass : (st = .idle ↔ s.patrol.state = .idle) ∧ (st = .gap ↔ s.patrol.state = .gap) := by
    rcases hst with rfl | ⟨hs, rfl⟩ | ⟨hs, rfl⟩ <;> simp_all
  unfold RunOk
  rw [e]
  exact ⟨hhigh, ⟨hjournal.done, hjournal.started, hjournal.position, hjournal.scanStarting, hjournal.journalOp,
    hjournal.scanFirst⟩, ⟨hrun, hwait, hclass.1.trans hidle, hclass.2.trans hgap, hbusy,
      fun hm => ⟨hstart hm, hclass.1.2 (hstarting hm).2⟩⟩⟩

theorem quietOver_engine (s : State) :
    engine (quietOver s) = { engine s with
      state := if s.patrol.state = .waiting ∧ s.req.queue = [] ∧ s.jrnl.mode ≠ .starting then .running
        else s.patrol.state
      quietTimer := none
      quietElapsed := true } := by
  unfold quietOver
  by_cases hs : s.patrol.state = .waiting ∧ s.req.queue = [] ∧ s.jrnl.mode ≠ .starting
  · obtain ⟨hw, hq, hm⟩ := hs
    simp [engine, bgPermitted, foregroundIdle, hw, hq, hm]
  · have hno : (bgPermitted { s with patrol := { s.patrol with quietTimer := none, quietElapsed := true } } &&
        s.patrol.state == .waiting) = false := by
      rw [Bool.eq_false_iff]
      intro h
      refine hs ?_
      simpa [bgPermitted, foregroundIdle, and_comm, and_assoc] using h
    simp only [hno, if_neg hs]
    rfl

/-- The quiet time runs out, the queue being empty (R135). -/
theorem RunOk.quietOver {s : State} (h : RunOk s) (hq : s.req.queue = []) : RunOk (quietOver s) := by
  refine h.setQuiet (q := s.req.queue) (quietOver_engine s) ?_ ?_ ?_ (fun hne => absurd hq hne) fun _ => hq
  · split
    · rename_i hs
      exact .inr (.inr ⟨hs.1, rfl⟩)
    · exact .inl rfl
  · split
    · rename_i hs
      exact fun _ => ⟨hq, rfl, hs.2.2⟩
    · intro hs
      have hp := h.patrol.running hs
      exact ⟨hq, rfl, hp.2.2⟩
  · split
    · exact nofun
    · rename_i hno
      exact fun hs hp => hno ⟨hs, hq, hp.2.2⟩

/-- The quiet timer starts, or with code 0 has run out (R135). -/
theorem RunOk.startQuiet {s : State} (h : RunOk s) (hq : s.req.queue = []) (hs : s.patrol.state ≠ .running) :
    RunOk (startQuiet s) := by
  unfold Machine.startQuiet
  split
  · exact h.quietOver hq
  · exact h.setQuiet (q := s.req.queue) (st := s.patrol.state) (quiet := some (quietTime s.cfg.quietCode)) (b := false)
      rfl (.inl rfl) (fun hr => absurd hr hs) (fun _ hp => nomatch hp.2.1) (fun hne => absurd hq hne) fun _ => hq

/-- A request is accepted: the queue is not empty, and background is permitted no more (R12, R134, R135). -/
theorem RunOk.endQuiet {s t : State} (h : RunOk s) {q : List TagNo} (hm : s.jrnl.mode ≠ .starting)
    (e : engine t = { engine s with
      queue := q
      state := if s.patrol.state == .running then .waiting else s.patrol.state
      quietTimer := none
      quietElapsed := false }) : RunOk t := by
  refine h.setQuiet e ?_ ?_ (fun _ hp => nomatch hp.2.1) (fun _ => ⟨rfl, rfl⟩) fun hs => absurd hs hm
  · split
    · rename_i hs
      exact .inr (.inl ⟨by simpa using hs, rfl⟩)
    · exact .inl rfl
  · split
    · exact nofun
    · rename_i hno
      exact fun hs => absurd hs (by simpa using hno)

/-! ## The change to READ_ONLY -/

theorem haltPatrol_mode {s : State} (h : s.patrol.state = .idle) : (haltPatrol s).patrol.mode = s.patrol.mode := by
  have hscan : haltScan s = s := by simp [haltScan, h]
  have hwork : (haltWork s).patrol.mode = s.patrol.mode := by simp [haltWork, hscan]
  rcases haltPatrol_cases s with e | ⟨r, -, -, e⟩ <;> rw [e]
  · exact hwork
  · simpa using hwork

/-- At the change the patrol is IDLE, its gap timer stopped (R147, R161). -/
theorem becomeReadOnly_engine {s : State} (h : s.patrol.state = .idle → s.patrol.mode = none) :
    engine (becomeReadOnly s) =
      { engine s with store := .readOnly, state := .idle, mode := none, gapTimer := none } := by
  obtain ⟨hidle, hstop, hgap, -⟩ := becomeReadOnly_halted s
  have hmode : (becomeReadOnly s).patrol.mode = none := by
    by_cases hs : s.patrol.state = .idle
    · unfold becomeReadOnly
      simp only [failWaitingCommand_keeps]
      rw [haltPatrol_mode (by simpa using hs)]
      simpa using h hs
    · exact (hstop hs).1
  simp [engine, hidle, hmode, hgap]

/-- No ring read is in flight. -/
def noRingRead (s : State) : Prop :=
  ∀ o, s.array.op = some o → o.requester = .journal → o.operation ≠ .readBlock

theorem noRingRead_of_idle {s : State} (h : s.array.op = none) : noRingRead s := fun _ ho => nomatch h.symm.trans ho

/-- The change comes after the scan, and not while a ring read is in flight (R159, R161). -/
theorem RunOk.becomeReadOnly {s : State} (h : RunOk s) (hs : s.jrnl.scanNext = none) (ho : noRingRead s) :
    RunOk (becomeReadOnly s) := by
  obtain ⟨hhigh, hjournal, hpatrol⟩ := h
  unfold RunOk
  rw [becomeReadOnly_engine hpatrol.idle.1]
  exact ⟨hhigh, ⟨hjournal.done, hjournal.started, hjournal.position, fun _ => hs,
    fun o hop hj => ⟨hs, fun hr => absurd hr (ho o hop hj)⟩, hjournal.scanFirst⟩,
    ⟨nofun, nofun, ⟨fun _ => rfl, fun _ => rfl⟩, ⟨nofun, fun hg => absurd rfl hg⟩, hpatrol.busy, nofun⟩⟩

theorem RunOk.checkSequence {s : State} (h : RunOk s) : RunOk (checkSequence s) := by
  unfold Machine.checkSequence
  split
  · rename_i hc
    have hm : s.jrnl.mode = .ready := by simpa using (Bool.and_eq_true_iff.1 hc).2
    refine h.becomeReadOnly (h.scanNext (by simp [hm])) fun o ho hj hr => ?_
    exact nomatch hm.symm.trans ((h.journal.journalOp o ho hj).2 hr).1
  · exact h

/-! ## The close of an event and the arbiter's choice -/

/-- The queue loses tags (R8, R14). -/
theorem RunOk.shrinkQueue {s t : State} (h : RunOk s) {q : List TagNo} (e : engine t = { engine s with queue := q })
    (hq : s.req.queue = [] → q = []) : RunOk t := by
  refine h.setQuiet (q := q) (st := s.patrol.state) (quiet := s.patrol.quietTimer) (b := s.patrol.quietElapsed) e (.inl rfl)
    (fun hs => ?_) (fun hs hp => ?_) (fun hne => h.patrol.busy (mt hq hne)) fun hm => hq (h.starting hm).1
  · obtain ⟨hempty, helapsed, hm⟩ := h.patrol.running hs
    exact ⟨hq hempty, helapsed, hm⟩
  · by_cases hempty : s.req.queue = []
    · exact h.patrol.waiting hs ⟨hempty, hp.2⟩
    · exact nomatch hp.2.1.symm.trans (h.patrol.busy hempty).2

theorem RunOk.closeQueue {s₀ s : State} (h : RunOk s) (hq : s.req.queue = [] → s₀.req.queue = []) :
    RunOk (closeQueue s₀ s) := by
  have hclosed : RunOk (closedQueue s₀ s) :=
    h.shrinkQueue (q := liveQueue s) (by simp [engine, closedQueue, serviceDones]) fun he => by simp [liveQueue, he]
  rw [closeQueue_eq]
  split
  · rename_i hc
    obtain ⟨hlive, hne⟩ : liveQueue s = [] ∧ s₀.req.queue ≠ [] := by simpa using hc
    have hstate : (closedQueue s₀ s).patrol.state = s.patrol.state := by simp [closedQueue]
    refine RunOk.startQuiet (hclosed.congr rfl) hlive ?_
    exact hstate.trans_ne (h.not_running (mt hq hne))
  · exact hclosed

/-- Of the view only what the Journal owns changes, and the operation in flight. -/
theorem RunOk.setJournal {s t : State} (h : RunOk s) {o : Option ArrayOp} {started done pos : Nat} {c : Option Commit}
    {scan : Option Nat}
    (e : engine t = { engine s with
      op := o, lastStarted := started, lastDone := done, nextPos := pos, commit := c, scanNext := scan })
    (hj : JournalPart (engine t)) : RunOk t := by
  obtain ⟨hhigh, -, ⟨hrun, hwait, hidle, hgap, hbusy, hstart⟩⟩ := h
  refine ⟨?_, hj, ?_⟩ <;> rw [e]
  · exact hhigh
  · exact ⟨hrun, hwait, hidle, hgap, hbusy, hstart⟩

/-- The next read of the scan is granted (R69, R163). -/
theorem RunOk.grantRingRead {s : State} (h : RunOk s) {p : Nat} (hp : s.jrnl.scanNext = some p)
    (hm : s.jrnl.mode = .starting) : RunOk (grantRingRead p s) := by
  have hc : s.jrnl.commit = none := h.journal.scanFirst (by simp [engine, hp])
  exact h.setJournal rfl ⟨h.journal.done, h.journal.started, h.journal.position, fun _ => rfl,
    fun _ _ _ => ⟨rfl, fun _ => ⟨hm, hc⟩⟩, fun hne => absurd rfl hne⟩

/-- A commit's first attempt takes the next sequence (R154). -/
theorem RunOk.grantCommitFirst {s : State} (h : RunOk s) (hs : s.jrnl.scanNext = none) : RunOk (grantCommitFirst s) := by
  refine h.setJournal rfl ⟨Nat.le_succ_of_le h.journal.done, fun c hc => ?_, h.journal.position, fun _ => hs,
    fun o ho _ => ⟨hs, fun hr => ?_⟩, fun hne => absurd hs hne⟩
  · cases hc
    exact ⟨le_rfl, le_rfl⟩
  · cases ho
    cases hr

theorem RunOk.grantCommitNext {s : State} (h : RunOk s) (hs : s.jrnl.scanNext = none) : RunOk (grantCommitNext s) := by
  refine h.setJournal rfl ⟨h.journal.done, fun c hc => ?_, h.journal.position, fun _ => hs,
    fun o ho _ => ⟨hs, fun hr => ?_⟩, fun hne => absurd hs hne⟩
  · obtain ⟨c', hc', rfl⟩ := Option.map_eq_some_iff.1 hc
    exact ⟨(h.journal.started c' hc').1, Nat.le_add_left ..⟩
  · cases ho
    cases hr

/-- A grant is the next ring read, an attempt of a commit, or an operation of another block (R68, R69, R154, R156). -/
theorem RunOk.applyGrant {s : State} (h : RunOk s) {g : Grant} (hg : Choice s g) : RunOk (applyGrant g s) := by
  cases hg with
  | ringRead p hp hm => exact h.grantRingRead hp hm
  | commitFirst hs => exact h.grantCommitFirst hs
  | commitNext c hs => exact h.grantCommitNext hs
  | tag n g _ _ _ _ _ hr hg =>
    obtain ⟨o, ho, hreq⟩ := op_of_opTag (hg.effect hr).1
    refine h.setOp (o := (Machine.applyGrant g s).array.op) ?_ fun p hp => ?_
    · cases hg <;> simp [engine, Machine.applyGrant]
    · cases ho.symm.trans hp
      simp [hreq]
  | background g _ _ _ _ hg =>
    obtain ⟨o, ho, hreq⟩ := hg.requester
    refine h.setOp (o := (Machine.applyGrant g s).array.op) ?_ fun p hp => ?_
    · cases hg <;> simp [engine, Machine.applyGrant]
    · cases ho.symm.trans hp
      simp [hreq]

theorem RunOk.arbitrate {s : State} (h : RunOk s) : RunOk (arbitrate s) := by
  rcases arbitrate_cases s with e | ⟨g, -, hg, e⟩ <;> rw [e]
  · exact h
  · exact h.applyGrant (choose_cases hg)

theorem RunOk.settle {s₀ s : State} (h : RunOk s) (hq : s.req.queue = [] → s₀.req.queue = []) : RunOk (settle s₀ s) := by
  have hclosed : RunOk (closedEvent s₀ s) := (h.closeQueue hq).congr (by simp [engine, closedEvent])
  rw [settle_eq]
  exact hclosed.arbitrate

end Sys2Proof.Machine
end

section
/-! PROOFS. The effects of the completions and of the commands keep the invariant of the Journal and of the patrol. -/
namespace Sys2Proof.Machine

/-- The effects of an event leave the queue as it was, and keep the invariant. -/
structure RunKept (s t : State) : Prop where
  queue : t.req.queue = s.req.queue
  run : RunOk s → RunOk t

theorem RunKept.of_eq {s t : State} (e : engine t = engine s) : RunKept s t :=
  ⟨congrArg Engine.queue e, fun h => h.congr e⟩

theorem RunKept.refl (s : State) : RunKept s s := .of_eq rfl

theorem RunKept.trans {s t u : State} (h : RunKept s t) (h' : RunKept t u) : RunKept s u :=
  ⟨h'.queue.trans h.queue, fun hs => h'.run (h.run hs)⟩

/-- The event closes (R8, R34, R51, R68). -/
theorem RunKept.settle {s₀ s t : State} (h : RunKept s t) (hs : RunOk s) (hq : s.req.queue = s₀.req.queue) :
    RunOk (settle s₀ t) :=
  (h.run hs).settle fun he => by rw [← hq, ← h.queue, he]

theorem checkSequence_run (s : State) : RunKept s (checkSequence s) := ⟨by simp, fun h => h.checkSequence⟩

/-! ## Reads of tags, of orphans and of the patrol -/

theorem tagReadDone_run (n : TagNo) (o : ArrayOp) (out : ReadOutcome) (s : State) : RunKept s (tagReadDone n o out s) := by
  unfold tagReadDone tagReadFinal readTagFinal endRead
  dsimp only
  refine .of_eq ?_
  (repeat' split) <;> simp [engine]

theorem orphanReadDone_run (o : ArrayOp) (out : ReadOutcome) (s : State) : RunKept s (orphanReadDone o out s) := by
  unfold orphanReadDone
  split <;> exact .of_eq (by simp [engine])

theorem passEnd_run (s : State) : RunKept s (passEnd s) := .of_eq (by simp [engine, passEnd])

/-- A patrol that is over is IDLE, without a mode and without a gap timer (R139, R142). -/
theorem RunOk.patrolIdle {s : State} (h : RunOk s) (hg : s.patrol.gapTimer = none) (hm : s.jrnl.mode ≠ .starting) :
    RunOk (patrolIdle s) :=
  h.setScan (st := .idle) (m := none) (g := none) (by simp [engine, Machine.patrolIdle, hg]) (.inl rfl) (by simp)
    (by simp) hm

/-- The gap begins, or with a gap of 0 the next pass (R137). -/
theorem RunOk.startGap {s : State} (h : RunOk s) (hmode : s.patrol.mode ≠ none) (hg : s.patrol.gapTimer = none)
    (hm : s.jrnl.mode ≠ .starting) : RunOk (startGap s) := by
  have hnext := runOrWait_cases s
  unfold Machine.startGap
  split
  · refine (h.setScan (st := runOrWait s) (m := s.patrol.mode) (g := none) (by simp [engine, hg]) (.inr (.inr rfl)) ?_ ?_
      hm).setPatrolStatus _
    all_goals rcases hnext with e | e <;> simp [e, hmode]
  · exact h.setScan (st := .gap) (m := s.patrol.mode) (g := some s.cfg.passGap.toNat) rfl (.inr (.inl rfl))
      (by simp [hmode]) (by simp) hm

/-- The tests after a patrol read meet an engine that runs or waits: the scan is over, and no gap timer runs (R142). -/
theorem RunOk.testEnds {s : State} (h : RunOk s) (l : Nat) : RunOk (testEnds l s) := by
  unfold Machine.testEnds
  split
  · rename_i hs
    have hs : s.patrol.state = .running ∨ s.patrol.state = .waiting := by simpa using hs
    have hm : s.jrnl.mode ≠ .starting := fun hm => by
      rcases hs with e | e <;> exact nomatch e.symm.trans (h.starting hm).2
    have hg : s.patrol.gapTimer = none := h.gapTimer (by rcases hs with e | e <;> simp [e])
    have hpass := (passEnd_run s).run h
    have hg' : (passEnd s).patrol.gapTimer = none := by simpa using hg
    have hm' : (passEnd s).jrnl.mode ≠ .starting := by simpa using hm
    split
    · exact h
    · split
      · exact (h.patrolIdle hg hm).setPatrolStatus _
      · exact h
    · split
      · exact (hpass.patrolIdle hg' hm').checkSequence
      · exact h
    · rename_i hmode
      split
      · exact (hpass.startGap (by simp [hmode]) hg' hm').checkSequence
      · exact h
  · exact h

theorem testEnds_run (l : Nat) (s : State) : RunKept s (testEnds l s) := ⟨by simp, fun h => h.testEnds l⟩

theorem patrolReadDone_run (o : ArrayOp) (out : ReadOutcome) (s : State) : RunKept s (patrolReadDone o out s) := by
  unfold patrolReadDone
  split
  · exact .refl s
  · rename_i r _
    split
    · exact .of_eq rfl
    · dsimp only
      have hkeep : RunKept s (if keepsWords s r (classify (decide (0 < r.retries)) out) then
            fillBuffer r.lbn o.pbn (closeBgRead r (classify (decide (0 < r.retries)) out) s)
          else closeBgRead r (classify (decide (0 < r.retries)) out) s) := by
        split <;> exact .of_eq (by simp [engine, fillBuffer_eq])
      split
      · exact hkeep.trans (testEnds_run ..)
      · exact hkeep

/-! ## The start-up scan -/

theorem ringTaken_engine (o : ArrayOp) (out : ReadOutcome) (s : State) : engine (ringTaken o out s) = engine s := by
  have hconsider : ∀ p i t, engine (considerImage p i t) = engine t := fun p i t => by
    rcases considerImage_cases p i t with e | e <;> exact (congrArg engine e).trans rfl
  unfold ringTaken
  split
  · rfl
  · split
    · exact hconsider ..
    · rfl
    · rfl

theorem nextRing_le (p : Nat) : nextRing p ≤ 31 := by
  unfold nextRing
  split <;> omega

/-- The patrol as it is before start-up ends, the Journal past its scan: the quiet timer starts (R135, R165, R166). -/
theorem RunOk.endStartUp {s : State} (h : RunOk s) (hq : s.req.queue = []) (hs : s.patrol.state = .idle) :
    RunOk (endStartUp s) :=
  RunOk.startQuiet (s := latch .start s) (h.congr (by simp [engine])) hq (by simp [hs])

/-- Start-up ends with an IDLE engine and an empty queue, whatever the store mode becomes (R165, R166). -/
theorem RunOk.setStore {s t : State} (h : RunOk s) (hm : s.jrnl.mode = .starting) {m : StoreMode}
    {started done pos : Nat}
    (e : engine t = { engine s with
      store := m, lastStarted := started, lastDone := done, nextPos := pos, commit := none, scanNext := none })
    (hop : noRingRead s) (hdone : done ≤ started) (hpos : pos ≤ 31) : RunOk t := by
  obtain ⟨hq, hs⟩ := h.starting hm
  obtain ⟨hhigh, -, ⟨-, -, hidle, hgap, hbusy, -⟩⟩ := h
  unfold RunOk
  rw [e]
  refine ⟨hhigh, ⟨hdone, nofun, hpos, fun _ => rfl, fun o ho hj => ⟨rfl, fun hr => absurd hr (hop o ho hj)⟩,
      fun hne => absurd rfl hne⟩,
    ⟨fun hr => ?_, fun hw => ?_, hidle, hgap, hbusy, fun _ => ⟨hq, hs⟩⟩⟩
  · exact nomatch hs.symm.trans hr
  · exact nomatch hs.symm.trans hw

/-- The scan ends: the candidate is loaded, or the fresh start begins (R165, R166). -/
theorem RunOk.endScan {s : State} (h : RunOk s) (hm : s.jrnl.mode = .starting) (hc : s.jrnl.commit = none)
    (hs : s.jrnl.scanNext = none) (hop : s.array.op = none) : RunOk (endScan s) := by
  obtain ⟨hq, hidle⟩ := h.starting hm
  unfold Machine.endScan
  split
  · rename_i c _
    unfold loadImage
    dsimp only
    refine RunOk.endStartUp ?_ (by simpa using hq) (by simpa using hidle)
    exact h.setStore hm (m := .ready) (started := c.image.sequence) (done := c.image.sequence)
      (pos := nextRing c.position) (by simp [engine, hc, hs]) (noRingRead_of_idle hop) le_rfl (nextRing_le _)
  · exact h.congr (by simp [engine, freshState])

/-- A ring read ends: the next one is owed, or the scan is over (R164). -/
theorem RunOk.ringReadDone {s : State} (h : RunOk s) (hm : s.jrnl.mode = .starting) (hc : s.jrnl.commit = none)
    (hs : s.jrnl.scanNext = none) (hop : s.array.op = none) (o : ArrayOp) (out : ReadOutcome) :
    RunOk (ringReadDone o out s) := by
  have e := ringTaken_engine o out s
  have htaken : RunOk (ringTaken o out s) := h.congr e
  rw [ringReadDone_eq]
  split
  · refine htaken.setJournal rfl ⟨htaken.journal.done, htaken.journal.started, htaken.journal.position, fun hne => ?_,
      fun o' ho' => ?_, fun _ => ?_⟩
    · exact absurd ((congrArg Engine.store e).trans hm) hne
    · exact nomatch ((congrArg Engine.op e).trans hop).symm.trans ho'
    · exact (congrArg Engine.commit e).trans hc
  · exact htaken.endScan ((congrArg Engine.store e).trans hm) ((congrArg Engine.commit e).trans hc)
      ((congrArg Engine.scanNext e).trans hs) ((congrArg Engine.op e).trans hop)

/-! ## Programs -/

theorem tagBlockPasses_run (n : TagNo) (r : Bool) (s : State) : RunKept s (tagBlockPasses n r s) := by
  unfold tagBlockPasses afterPass
  dsimp only
  refine .of_eq ?_
  (repeat' split) <;> simp [engine]

theorem resolveOwed_run (s : State) : RunKept s (resolveOwed s) := .of_eq (by simp [engine])

theorem tagOwes_run (n : TagNo) (s : State) : RunKept s (tagOwes n s) := .of_eq (by simp [engine, tagOwes])

theorem refreshOwes_run (s : State) : RunKept s (refreshOwes s) := .of_eq (by simp [engine, refreshOwes])

theorem tagProgramDone_run (n : TagNo) (l pbn : Nat) (r : Bool) (out : ProgramOutcome) (s : State) :
    RunKept s (tagProgramDone n l pbn r out s) := by
  cases out <;> cases r
  case pass.false => exact RunKept.trans (.of_eq (by simp [engine])) (tagBlockPasses_run n false _)
  case fail.false => exact RunKept.trans (.of_eq (by simp [engine])) (tagOwes_run n _)
  case pass.true =>
    refine RunKept.trans ?_ (checkSequence_run _)
    refine RunKept.trans ?_ (resolveOwed_run _)
    exact RunKept.trans (.of_eq (by simp [engine])) (tagBlockPasses_run n true _)
  case fail.true =>
    refine RunKept.trans ?_ (checkSequence_run _)
    exact RunKept.trans (.of_eq (by simp [engine])) (tagOwes_run n _)

theorem refreshDone_run (l pbn : Nat) (r : Bool) (out : ProgramOutcome) (s : State) :
    RunKept s (refreshDone l pbn r out s) := by
  cases out <;> cases r
  case pass.false => exact .of_eq (by simp [engine, refreshDone, endRefresh])
  case fail.false => exact RunKept.trans (.of_eq (by simp [engine])) (refreshOwes_run _)
  case pass.true =>
    refine RunKept.trans ?_ (checkSequence_run _)
    exact RunKept.trans (.of_eq (by simp [engine, endRefresh])) (resolveOwed_run _)
  case fail.true =>
    refine RunKept.trans ?_ (checkSequence_run _)
    exact RunKept.trans (.of_eq (by simp [engine])) (refreshOwes_run _)

theorem orphanProgramDone_run (l pbn : Nat) (r : Bool) (d : DataPlace) (out : ProgramOutcome) (s : State) :
    RunKept s (orphanProgramDone l pbn r d out s) := by
  cases out <;> cases r
  case pass.false | fail.false => exact .of_eq (by simp [engine, orphanProgramDone])
  case pass.true | fail.true =>
    refine RunKept.trans ?_ (checkSequence_run _)
    exact RunKept.trans (.of_eq (by simp [engine])) (resolveOwed_run _)

theorem patrolProgramDone_run (l pbn : Nat) (r : Bool) (out : ProgramOutcome) (s : State) :
    RunKept s (patrolProgramDone l pbn r out s) := by
  unfold patrolProgramDone
  split
  · exact refreshDone_run ..
  · dsimp only
    split
    · exact (orphanProgramDone_run l pbn r .none out s).trans (.of_eq (by simp [engine]))
    · exact orphanProgramDone_run ..

/-! ## Commit attempts -/

/-- Beside a commit no ring read is owed or in flight (R163, R166). -/
theorem RunOk.committing {s : State} (h : RunOk s) {c : Commit} (hc : s.jrnl.commit = some c) :
    s.jrnl.scanNext = none ∧ noRingRead s :=
  ⟨of_not_not fun hne => (nomatch (h.journal.scanFirst hne).symm.trans hc),
    fun o ho hj hr => (nomatch ((h.journal.journalOp o ho hj).2 hr).2.symm.trans hc)⟩

/-- A commit passes: the sequence is done, and a fresh start ends (R155, R166). -/
theorem RunOk.commitPass {s : State} (h : RunOk s) : RunOk (commitPass s) := by
  cases hc : s.jrnl.commit with
  | none =>
    unfold Machine.commitPass
    simpa only [hc] using h
  | some c =>
    obtain ⟨hscan, hop⟩ := h.committing hc
    have hseq := (h.journal.started c hc).1
    rw [commitPass_eq hc]
    split
    · rename_i hm
      have hm : s.jrnl.mode = .starting := by simpa using hm
      obtain ⟨hq, hidle⟩ := h.starting hm
      refine RunOk.endStartUp ?_ (by simpa [commitReleased] using hq) (by simpa [commitReleased] using hidle)
      exact h.setStore hm (m := .ready) (started := s.jrnl.lastStarted) (done := c.sequence)
        (pos := nextRing s.jrnl.nextPos) (by simp [engine, commitReleased, Journal.passed, hm, hscan]) hop hseq
        (nextRing_le _)
    · rename_i hm
      have hm : ¬ s.jrnl.mode = .starting := by simpa using hm
      have e : engine (commitReleased c s) = { engine s with
          lastDone := c.sequence, nextPos := nextRing s.jrnl.nextPos, commit := none } := by
        simp [engine, commitReleased, Journal.passed, hm]
      refine h.setJournal (o := s.array.op) (started := s.jrnl.lastStarted) (scan := s.jrnl.scanNext) e ?_
      rw [e]
      exact ⟨hseq, nofun, nextRing_le _, fun _ => hscan, fun o ho hj => ⟨hscan, fun hr => absurd hr (hop o ho hj)⟩,
        fun _ => rfl⟩

theorem commitPass_run (s : State) : RunKept s (commitPass s) := by
  refine ⟨?_, RunOk.commitPass⟩
  cases hc : s.jrnl.commit with
  | none => simp [commitPass, hc]
  | some c =>
    rw [commitPass_eq hc]
    split <;> simp [endStartUp, commitReleased]

/-- A commit attempt fails: a position is skipped, or the commit is given up (R156, R157, R161). -/
theorem RunOk.commitFail {s : State} (h : RunOk s) : RunOk (commitFail s) := by
  cases hc : s.jrnl.commit with
  | none =>
    unfold Machine.commitFail
    simpa only [hc] using h
  | some c =>
    obtain ⟨hscan, hop⟩ := h.committing hc
    have hskip : RunOk (commitSkipped s) :=
      h.setJournal rfl ⟨h.journal.done, h.journal.started, nextRing_le _, fun _ => hscan, h.journal.journalOp,
        fun hne => absurd hscan hne⟩
    have hdrop : RunOk (commitDropped s) :=
      h.setJournal rfl ⟨h.journal.done, nofun, nextRing_le _, fun _ => hscan,
        fun o ho hj => ⟨hscan, fun hr => absurd hr (hop o ho hj)⟩, fun _ => rfl⟩
    have hread : RunOk (Machine.becomeReadOnly (commitDropped s)) := hdrop.becomeReadOnly hscan hop
    rw [commitFail_eq hc]
    split
    · exact hdrop
    · split
      · exact hskip
      · split
        · rename_i hm
          obtain ⟨hq, -⟩ := h.starting (by simpa using hm)
          exact hread.endStartUp (by simpa [commitDropped, commitSkipped] using hq) (becomeReadOnly_halted _).idle
        · exact hread

theorem commitFail_run (s : State) : RunKept s (commitFail s) := by
  refine ⟨?_, RunOk.commitFail⟩
  cases hc : s.jrnl.commit with
  | none => simp [commitFail, hc]
  | some c =>
    rw [commitFail_eq hc]
    (repeat' split) <;> simp [endStartUp, commitSkipped, commitDropped]

theorem programDone_run (o : ArrayOp) (out : ProgramOutcome) (s : State) : RunKept s (programDone o out s) := by
  unfold programDone
  dsimp only
  split
  · exact tagProgramDone_run ..
  · exact patrolProgramDone_run ..
  · split
    · exact commitPass_run s
    · exact commitFail_run s
  · exact orphanProgramDone_run ..

/-! ## The completions -/

/-- The unit is idle again (R64, R67). -/
theorem RunOk.idle {s t : State} (h : RunOk s) (e : engine t = { engine s with op := none }) : RunOk t :=
  h.setOp e nofun

theorem RunOk.readDone {s : State} (h : RunOk s) {o : ArrayOp} (ho : s.array.op = some o)
    (hr : o.operation = .readBlock) (out : ReadOutcome) : RunOk (readDone o out (idleUnit s)) := by
  have hidle : RunOk (idleUnit s) := h.idle rfl
  unfold Machine.readDone
  split
  · exact (tagReadDone_run ..).run hidle
  · exact (patrolReadDone_run ..).run hidle
  · rename_i hj
    obtain ⟨hscan, hread⟩ := h.journal.journalOp o ho hj
    obtain ⟨hm, hc⟩ := hread hr
    exact hidle.ringReadDone hm hc hscan rfl o out
  · exact (orphanReadDone_run ..).run hidle

theorem readDone_queue (o : ArrayOp) (out : ReadOutcome) (s : State) : (readDone o out s).req.queue = s.req.queue := by
  unfold readDone
  split
  · exact (tagReadDone_run ..).queue
  · exact (patrolReadDone_run ..).queue
  · rw [ringReadDone_req]
  · exact (orphanReadDone_run ..).queue

end Sys2Proof.Machine
end

section
/-! PROOFS. O58: every command keeps the invariant of the Journal and of the patrol. -/
namespace Sys2Proof.Machine

/-! ## Requests, port and service list -/

/-- During STARTING no submission is accepted (R11). -/
theorem not_starting_of_checkSubmission {v : Word} {k : Kind} {s : State} (h : checkSubmission v s = .ok k) :
    s.jrnl.mode ≠ .starting := fun hm => by
  rw [checkSubmission_notReady hm] at h
  cases h

theorem accept_engine (v : Word) (k : Kind) (s : State) :
    engine (accept v k s) = { engine s with
      queue := (accept v k s).req.queue
      state := if s.patrol.state == .running then .waiting else s.patrol.state
      quietTimer := none
      quietElapsed := false } := by
  rw [accept_eq]
  unfold numbered
  split <;> rfl

theorem RunOk.submit {s : State} (h : RunOk s) (v : Word) : RunOk (submit v s) := by
  unfold Machine.submit
  split
  · exact h.congr rfl
  · rename_i k hk
    have hok : RunOk (accept v k s) := h.endQuiet (not_starting_of_checkSubmission hk) (accept_engine v k s)
    refine RunOk.settle (s := setQResult v .accepted (accept v k s)) (hok.congr rfl) fun he => ?_
    exact absurd he (List.ne_nil_of_mem (mem_accept_queue v k s))

theorem RunOk.requestAbort {s : State} (h : RunOk s) (v : Word) : RunOk (requestAbort v s) := by
  unfold Machine.requestAbort abortEvery abortOne setAbortIgnored
  dsimp only
  refine RunKept.settle (s := s) (.of_eq ?_) h rfl
  (repeat' split) <;> simp [engine]

theorem RunOk.readPort {s : State} (h : RunOk s) : RunOk (readPort s) := by
  unfold Machine.readPort
  split
  · exact h.congr rfl
  · dsimp only
    split
    · exact h.congr rfl
    · refine RunKept.settle (s := s) (.of_eq ?_) h rfl
      unfold deliver
      dsimp only
      split <;> simp [engine]

theorem RunOk.writePort {s : State} (h : RunOk s) (v : Word) : RunOk (writePort v s) := by
  unfold Machine.writePort
  split
  · exact h.congr rfl
  · dsimp only
    split
    · exact h.congr rfl
    · exact RunKept.settle (s := s) (.of_eq (by simp [engine, receive])) h rfl

theorem pop_engine (s : State) : engine (pop s) = engine s := by
  unfold pop
  dsimp only
  split <;> rfl

/-! ## The Command Unit -/

/-- A command is taken after start-up alone (R187). -/
theorem RunOk.requestCommand {s : State} (h : RunOk s) (c : Command) {take : State → State}
    (ht : s.jrnl.mode ≠ .starting → RunOk (take s)) : RunOk (requestCommand c take s) := by
  unfold Machine.requestCommand
  split
  · exact h.congr rfl
  · split
    · exact h.congr rfl
    · rename_i hm
      split
      · exact h.congr rfl
      · exact ht hm

theorem RunOk.beginPatrol {s : State} (h : RunOk s) (hm : s.jrnl.mode ≠ .starting) (m : PatrolMode) :
    RunOk (beginPatrol m s) := by
  refine (h.setScan (st := runOrWait s) (m := some m) (g := none) rfl (.inr (.inr rfl)) ?_ ?_ hm).setPatrolStatus _
  all_goals rcases runOrWait_cases s with e | e <;> simp [e]

/-- The mode of an engine that is not IDLE is replaced (R138). -/
theorem RunOk.setMode {s t : State} (h : RunOk s) {m : Option PatrolMode} (e : engine t = { engine s with mode := m })
    (hidle : s.patrol.state = .idle ↔ m = none) : RunOk t := by
  obtain ⟨hhigh, hjournal, ⟨hrun, hwait, -, hgap, hbusy, hstart⟩⟩ := h
  unfold RunOk
  rw [e]
  exact ⟨hhigh, ⟨hjournal.done, hjournal.started, hjournal.position, hjournal.scanStarting, hjournal.journalOp,
    hjournal.scanFirst⟩, ⟨hrun, hwait, hidle, hgap, hbusy, hstart⟩⟩

theorem RunOk.startPatrol {s : State} (h : RunOk s) (hm : s.jrnl.mode ≠ .starting) (m : PatrolMode) :
    RunOk (startPatrol m s) := by
  by_cases ha : startsAnew m s
  · rw [startPatrol_anew ha]
    exact h.beginPatrol hm m
  · rw [startPatrol_on ha]
    refine h.setMode rfl ?_
    have hidle := h.patrol.idle
    split
    · exact hidle
    · simpa using fun hs => ha (.inl hs)

theorem RunOk.takeStart {s : State} (h : RunOk s) (hm : s.jrnl.mode ≠ .starting) (c : Command) (m : PatrolMode) :
    RunOk (takeStart c m s) :=
  RunOk.arbitrate ((h.startPatrol hm m).congr rfl)

theorem RunOk.stopPatrol {s : State} (h : RunOk s) (hm : s.jrnl.mode ≠ .starting) : RunOk (stopPatrol s) := by
  by_cases hs : s.patrol.state = .idle
  · have hsame : Machine.stopPatrol s = s := by simp [Machine.stopPatrol, hs]
    rwa [hsame]
  · rw [stopPatrol_of_busy hs]
    exact h.setScan (st := .idle) (m := none) (g := none) rfl (.inl rfl) (by simp) (by simp) hm

theorem RunOk.requestStop {s : State} (h : RunOk s) : RunOk (requestStop s) :=
  h.requestCommand _ fun hm => (h.stopPatrol hm).congr rfl

theorem RunOk.requestReport {s : State} (h : RunOk s) : RunOk (requestReport s) :=
  h.requestCommand _ fun _ => h.congr rfl

theorem waitForCommit_run (r : Nat → Running) (s : State) : RunKept s (waitForCommit r s) :=
  RunKept.trans (t := commitReason { s with cmd := { s.cmd with running := some (r (neededNow s)) } }) (.of_eq rfl)
    (checkSequence_run _)

theorem RunOk.requestThresholds {s : State} (h : RunOk s) : RunOk (requestThresholds s) := by
  refine h.requestCommand _ fun _ => ?_
  unfold takeThresholds
  split
  · have hload : RunKept s (loadThresholds s) := .of_eq rfl
    exact (hload.trans (waitForCommit_run ..)).settle h rfl
  · exact h.congr rfl

theorem RunOk.requestSave {s : State} (h : RunOk s) : RunOk (requestSave s) :=
  h.requestCommand _ fun _ => (waitForCommit_run ..).settle h rfl

theorem RunOk.writeCmd {s : State} (h : RunOk s) (v : Word) : RunOk (writeCmd v s) := by
  unfold Machine.writeCmd
  cases commandOf (lowByte v) with
  | none =>
    unfold refuseCode
    dsimp only
    split <;> exact h.congr rfl
  | some c =>
    cases c with
    | patrolSegment | patrolPass | patrolAuto => exact h.requestCommand _ fun hm => h.takeStart hm ..
    | patrolStop => exact h.requestStop
    | reportBuild => exact h.requestReport
    | thresholdLoad => exact h.requestThresholds
    | conditionSave => exact h.requestSave

theorem readReport_engine (s : State) : engine (readReport s) = engine s := by
  unfold readReport
  split <;> rfl

theorem writeReport_engine (v : Word) (s : State) : engine (writeReport v s) = engine s := by
  unfold writeReport
  split <;> rfl

/-! ## Registers and timers -/

theorem RunOk.writeCfga {s : State} (h : RunOk s) (v : Word) : RunOk (writeCfga v s) := by
  unfold Machine.writeCfga
  dsimp only
  split
  · exact h.congr rfl
  · exact RunOk.arbitrate (h.congr (by simp [engine]))

theorem RunOk.gapOver {s : State} (h : RunOk s) (hg : s.patrol.gapTimer ≠ none) : RunOk (gapOver s) := by
  have hs : s.patrol.state = .gap := h.patrol.gap.2 hg
  have hmode : s.patrol.mode ≠ none := fun hn => nomatch hs.symm.trans (h.patrol.idle.2 hn)
  have hm : s.jrnl.mode ≠ .starting := fun hm => nomatch hs.symm.trans (h.starting hm).2
  refine (h.setScan (st := runOrWait s) (m := s.patrol.mode) (g := none) rfl (.inr (.inr rfl)) ?_ ?_ hm).setPatrolStatus _
  all_goals rcases runOrWait_cases s with e | e <;> simp [e, hmode]

/-! ## Resets and start-up -/

/-- A soft reset leaves the Journal alone, and the patrol IDLE with the queue empty (R148, R198). -/
theorem RunOk.resetBlocks {s : State} (h : RunOk s) : RunOk (resetBlocks s) := by
  obtain ⟨hhigh, hjournal, -⟩ := h
  refine ⟨hhigh, ⟨hjournal.done, hjournal.started, hjournal.position, hjournal.scanStarting, fun o ho hj => ?_,
    hjournal.scanFirst⟩, ⟨nofun, nofun, ⟨fun _ => rfl, fun _ => rfl⟩, ⟨nofun, fun hg => absurd rfl hg⟩,
      fun hq => absurd rfl hq, fun _ => ⟨rfl, rfl⟩⟩⟩
  obtain ⟨p, hp, rfl⟩ := Option.map_eq_some_iff.1 ho
  cases hr : p.requester <;> simp only [ArrayOp.orphan, hr] at hj ⊢
  case journal => exact hjournal.journalOp p hp hr
  all_goals exact nomatch hj

theorem RunOk.softReset {s : State} (h : RunOk s) : RunOk (softReset s) := by
  unfold Machine.softReset
  split
  · exact h
  · exact (h.resetBlocks.startQuiet rfl nofun).arbitrate

theorem RunOk.writeRegister {s : State} (h : RunOk s) (a : RegAddr) (v : Word) : RunOk (writeRegister a v s) := by
  unfold Machine.writeRegister
  split
  case h_5 => exact h.submit v
  case h_7 => exact h.writePort v
  case h_8 => exact h.requestAbort v
  case h_9 => exact h.writeCmd v
  case h_11 => exact h.congr (writeReport_engine v s)
  case h_12 => exact h.writeCfga v
  case h_15 =>
    split
    · exact h.softReset
    · exact h
  all_goals exact h.congr rfl

/-- RSTn returns high: the Journal is new, its scan owed, and the patrol and the queue are as the reset left them
(R163, R199). -/
theorem startScan_run {s : State} (hj : JournalOk s) (hp : PatrolOk s) (hr : s.rstnLow = true) : RunOk (startScan s) := by
  obtain ⟨hop, -, -⟩ := hj.2.2.2.2.2.2 hr
  obtain ⟨-, -, hidle, hgap, hbusy, hstart⟩ := hp
  obtain ⟨hq, hs⟩ := hstart (.inl hr)
  unfold startScan
  refine RunOk.arbitrate ⟨rfl, ⟨le_rfl, nofun, Nat.zero_le _, fun hm => absurd rfl hm, fun o ho => ?_, fun _ => rfl⟩,
    ⟨fun h => ?_, fun h => ?_, hidle, hgap, hbusy, fun _ => ⟨hq, hs⟩⟩⟩
  · exact nomatch hop.symm.trans ho
  · exact nomatch hs.symm.trans h
  · exact nomatch hs.symm.trans h

/-! ## Every command -/

/-- The invariant of O58. -/
def PatrolInv (s : State) : Prop := JournalOk s ∧ PatrolOk s

theorem RunOk.patrolInv {s : State} (h : RunOk s) : PatrolInv s := (runOk_iff h.high).1 h

theorem PatrolInv.runOk {s : State} (h : PatrolInv s) (hr : s.rstnLow = false) : RunOk s := (runOk_iff hr).2 h

/-- While RSTn is low the unit is idle and the timers are stopped (R185, R199). -/
theorem PatrolInv.low {s : State} (h : PatrolInv s) (hr : s.rstnLow = true) :
    s.array.op = none ∧ s.patrol.quietTimer = none ∧ s.patrol.gapTimer = none := h.1.2.2.2.2.2.2 hr

/-- So an event of the unit or of a timer finds RSTn high. -/
theorem PatrolInv.runOk_of_event {s : State} (h : PatrolInv s)
    (he : s.array.op ≠ none ∨ s.patrol.quietTimer ≠ none ∨ s.patrol.gapTimer ≠ none) : RunOk s := by
  refine h.runOk (Bool.eq_false_iff.2 fun hr => ?_)
  obtain ⟨hop, hquiet, hgap⟩ := h.low hr
  rcases he with he | he | he
  · exact he hop
  · exact he hquiet
  · exact he hgap

theorem PatrolInv.busAccess {s t : State} {f : State → State} (h : PatrolInv s) (hf : RunOk s → RunOk (f s))
    (ht : busAccess s f = .next t) : PatrolInv t := by
  cases hr : s.rstnLow with
  | true =>
    rw [busAccess_low s f hr] at ht
    cases next_inj ht
    exact h
  | false =>
    rw [busAccess_high s f hr] at ht
    cases next_inj ht
    exact (hf (h.runOk hr)).patrolInv

/-- The power-on values (R199). -/
theorem patrolInv_powerLost (s : State) : PatrolInv (powerLost s) := by
  have hop : (powerLost s).array.op = none := losePower_op s.array
  refine ⟨⟨le_rfl, nofun, Nat.zero_le _, fun _ => rfl, fun o ho => ?_, fun _ => rfl, fun _ => ⟨hop, rfl, rfl⟩⟩,
    nofun, nofun, ⟨fun _ => rfl, fun _ => rfl⟩, ⟨nofun, fun hg => absurd rfl hg⟩, fun hq => absurd rfl hq,
    fun _ => ⟨rfl, rfl⟩⟩
  exact nomatch hop.symm.trans ho

theorem exec_patrolInv {c : Instr} {s t : State} (h : PatrolInv s) (ht : exec c s = .next t) : PatrolInv t := by
  cases c with
  | submission v => exact h.busAccess (fun h => h.submit v) ht
  | abortRequest v => exact h.busAccess (fun h => h.requestAbort v) ht
  | ptagWrite | acauseWrite | aenableWrite | cfgbWrite => exact h.busAccess (fun h => h.congr rfl) ht
  | pdataRead => exact h.busAccess RunOk.readPort ht
  | pdataWrite v => exact h.busAccess (fun h => h.writePort v) ht
  | svcnextPop => exact h.busAccess (fun h => h.congr (pop_engine s)) ht
  | patrolSegment | patrolPass | patrolAuto =>
    exact h.busAccess (fun h => h.requestCommand _ fun hm => h.takeStart hm ..) ht
  | patrolStop => exact h.busAccess RunOk.requestStop ht
  | reportBuild => exact h.busAccess RunOk.requestReport ht
  | reportBuildCompletion =>
    cases next_inj ht
    split
    all_goals exact h
  | thresholdLoad => exact h.busAccess RunOk.requestThresholds ht
  | conditionSave => exact h.busAccess RunOk.requestSave ht
  | badCommand v => exact h.busAccess (fun h => h.writeCmd v) ht
  | rdataRead => exact h.busAccess (fun h => h.congr (readReport_engine s)) ht
  | rdataWrite v => exact h.busAccess (fun h => h.congr (writeReport_engine v s)) ht
  | cfgaWrite v => exact h.busAccess (fun h => h.writeCfga v) ht
  | registerWrite a v => exact h.busAccess (fun h => h.writeRegister a v) ht
  | softReset => exact h.busAccess RunOk.softReset ht
  | powerOnReset =>
    rw [exec_powerOnReset] at ht
    cases next_inj ht
    exact patrolInv_powerLost s
  | startUp =>
    cases next_inj ht
    split
    · rename_i hr
      exact (startScan_run h.1 h.2 hr).patrolInv
    · exact h
  | readBlockCompletion out =>
    cases next_inj ht
    split
    · rename_i o ho
      split
      · rename_i hop
        have hrun := h.runOk_of_event (.inl (by simp [ho]))
        refine ((hrun.readDone ho hop out).settle fun he => ?_).patrolInv
        rwa [readDone_queue] at he
      · exact h
    · exact h
  | programBlockCompletion out =>
    cases next_inj ht
    split
    · rename_i o ho
      split
      · have hrun := h.runOk_of_event (.inl (by simp [ho]))
        have hidle : RunOk (programmed o out s) := hrun.idle rfl
        exact ((programDone_run o out (programmed o out s)).settle hidle rfl).patrolInv
      · exact h
    · exact h
  | quietTimerExpiry =>
    cases next_inj ht
    split
    · rename_i hq
      have hq : s.patrol.quietTimer ≠ none := Option.isSome_iff_ne_none.1 hq
      have hrun := h.runOk_of_event (.inr (.inl hq))
      exact (hrun.quietOver (of_not_not fun hne => hq (hrun.patrol.busy hne).1)).arbitrate.patrolInv
    · exact h
  | gapTimerExpiry =>
    cases next_inj ht
    split
    · rename_i hg
      have hg : s.patrol.gapTimer ≠ none := Option.isSome_iff_ne_none.1 hg
      exact ((h.runOk_of_event (.inr (.inr hg))).gapOver hg).arbitrate.patrolInv
    · exact h

/-- Settles O58: with RSTn high each effect of a command keeps the invariant of the view (`RunOk`), and so do the close of
the event and the arbiter's choice; with RSTn low no command but START_UP acts. -/
theorem patrolKept : Obligations.PatrolKept :=
  kept_of_commands (fun _ _ h => h) fun _ _ _ => exec_patrolInv

end Sys2Proof.Machine
end

section
/-! PROOFS. O27: the final outcome of a background read, and the ends of a segment and of a pass (R141, R142, R146). -/
namespace Sys2Proof.Machine

/-! ## The tests of R142 -/

/-- The engine runs or waits. -/
def scansOn (s : State) : Prop := s.patrol.state = .running ∨ s.patrol.state = .waiting

theorem testEnds_of_scansOn {x : State} (h : scansOn x) (l : Nat) :
    testEnds l x = match x.patrol.mode with
      | none => x
      | some .segment =>
        if segmentEnd (segLength x.cfg.segCode) l then setPatrolStatus .segmentDone (patrolIdle x) else x
      | some .pass => if l = 3967 then checkSequence (patrolIdle (passEnd x)) else x
      | some .auto => if l = 3967 then checkSequence (startGap (passEnd x)) else x :=
  if_pos (by simpa [scansOn] using h)

theorem segmentEnd_iff (len l : Nat) : segmentEnd len l = true ↔ (l + 1) % len = 0 ∨ l = 3967 := by
  simp [segmentEnd]

section
variable {x : State} {l : Nat}

theorem testEnds_segment (h : scansOn x) (hm : x.patrol.mode = some .segment)
    (hl : (l + 1) % segLength x.cfg.segCode = 0 ∨ l = 3967) :
    testEnds l x = setPatrolStatus .segmentDone (patrolIdle x) := by
  rw [testEnds_of_scansOn h, hm]
  exact if_pos ((segmentEnd_iff ..).2 hl)

/-! With the sequence not exhausted the end of a pass leaves the store mode (R159). -/

theorem testEnds_pass (h : scansOn x) (hm : x.patrol.mode = some .pass) (hl : l = 3967)
    (hs : x.jrnl.mode = .ready → x.jrnl.lastStarted < 4294967295) :
    testEnds l x = patrolIdle (passEnd x) := by
  rw [testEnds_of_scansOn h, hm]
  exact (if_pos hl).trans (checkSequence_eq_self (by simpa using hs))

theorem testEnds_auto (h : scansOn x) (hm : x.patrol.mode = some .auto) (hl : l = 3967)
    (hs : x.jrnl.mode = .ready → x.jrnl.lastStarted < 4294967295) :
    testEnds l x = startGap (passEnd x) := by
  rw [testEnds_of_scansOn h, hm]
  exact (if_pos hl).trans (checkSequence_eq_self (by simpa using hs))

theorem testEnds_none (hseg : ¬ (scansOn x ∧ x.patrol.mode = some .segment ∧
      ((l + 1) % segLength x.cfg.segCode = 0 ∨ l = 3967)))
    (hpass : ∀ m, m = .pass ∨ m = .auto → ¬ (scansOn x ∧ x.patrol.mode = some m ∧ l = 3967)) : testEnds l x = x := by
  by_cases h : scansOn x
  · rw [testEnds_of_scansOn h]
    split
    · rfl
    · rename_i hm
      exact if_neg fun he => hseg ⟨h, hm, (segmentEnd_iff ..).1 he⟩
    · rename_i hm
      exact if_neg fun hl => hpass _ (.inl rfl) ⟨h, hm, hl⟩
    · rename_i hm
      exact if_neg fun hl => hpass _ (.inr rfl) ⟨h, hm, hl⟩
  · unfold testEnds
    exact if_neg (by simpa [scansOn] using h)

end

/-! ## The read's own effects -/

/-- The machine without its background read. -/
def bgGone (s : State) : State := { s with patrol := { s.patrol with bgRead := none } }

/-- The class of the final outcome. -/
def bgClass (r : BackgroundRead) (out : ReadOutcome) : ReadClass := classify (decide (0 < r.retries)) out

/-- The read is over, its outcome handed off, its words kept where they are wanted (R141, R146). -/
def bgClosed (o : ArrayOp) (r : BackgroundRead) (out : ReadOutcome) (s : State) : State :=
  if keepsWords s r (bgClass r out) then fillBuffer r.lbn o.pbn (closeBgRead r (bgClass r out) s)
  else closeBgRead r (bgClass r out) s

/-- A background read's final outcome, with the tests of R142 after a PATROL READ. -/
theorem patrolReadDone_final {r : BackgroundRead} {s : State} (o : ArrayOp) {out : ReadOutcome}
    (hr : s.patrol.bgRead = some r)
    (hfinal : out = .uncorrectable → s.cfg.retryLimit ≤ r.retries ∨ r.dropped = true ∨ s.jrnl.mode = .readOnly) :
    patrolReadDone o out s =
      if r.patrolRead then testEnds r.lbn (bgClosed o r out s) else bgClosed o r out s := by
  unfold patrolReadDone
  simp only [hr]
  refine if_neg fun ⟨hout, hlast, hlt⟩ => ?_
  have hlast : r.dropped = false ∧ s.jrnl.mode ≠ .readOnly := by simpa [bgReadLast] using hlast
  rcases hfinal hout with h | h | h
  · exact absurd hlt (Nat.not_lt.2 h)
  · exact nomatch hlast.1.symm.trans h
  · exact hlast.2 h

/-- The words enter the buffer exactly as R141, R146, R147 and R148 say. -/
theorem keepsWords_iff (s : State) (r : BackgroundRead) (out : ReadOutcome) :
    keepsWords s r (bgClass r out) = true ↔
      out ≠ .uncorrectable ∧ r.cancelled = false ∧ r.dropped = false ∧ s.jrnl.mode ≠ .readOnly ∧
        (r.patrolRead = true → weakBlock s.cfg.refreshLevel r.retries out) := by
  unfold keepsWords bgReadLast bgClass
  rw [Bool.and_eq_true, Bool.and_eq_true, Bool.and_eq_true, classify_success, Bool.or_eq_true, classify_weak]
  cases r.patrolRead <;> simp [and_assoc]

/-- `y` has the same requests, map, array, background read, buffer and resume LBN as `x`. -/
structure ScanEnd (x y : State) : Prop where
  req : y.req = x.req
  map : y.map = x.map
  array : y.array = x.array
  bgRead : y.patrol.bgRead = x.patrol.bgRead
  buf : y.patrol.buf = x.patrol.buf
  resume : y.patrol.resume = x.patrol.resume

theorem scanEnd_segment (x : State) : ScanEnd x (setPatrolStatus .segmentDone (patrolIdle x)) :=
  ⟨rfl, rfl, rfl, rfl, rfl, rfl⟩

theorem scanEnd_pass (x : State) : ScanEnd x (patrolIdle (passEnd x)) := ⟨rfl, rfl, rfl, rfl, rfl, rfl⟩

theorem scanEnd_auto (x : State) : ScanEnd x (startGap (passEnd x)) := by constructor <;> simp

section
variable (o : ArrayOp) (r : BackgroundRead) (out : ReadOutcome) (s : State)

theorem closeBgRead_map (c : ReadClass) :
    (closeBgRead r c s).map = (handOff r.lbn c (bgGone s)).map ∧
      (closeBgRead r c s).cond = (handOff r.lbn c (bgGone s)).cond := by
  unfold closeBgRead
  dsimp only
  split <;> exact ⟨rfl, rfl⟩

theorem closeBgRead_patrol (c : ReadClass) :
    (closeBgRead r c s).patrol.bgRead = none ∧
      (closeBgRead r c s).patrol.resume = if r.patrolRead then nextResume r.lbn else s.patrol.resume := by
  unfold closeBgRead
  dsimp only
  split
  · exact ⟨by simp, rfl⟩
  · simp

@[simp] theorem bgClosed_keeps :
    (bgClosed o r out s).map = (handOff r.lbn (bgClass r out) (bgGone s)).map ∧
    (bgClosed o r out s).cond = (handOff r.lbn (bgClass r out) (bgGone s)).cond ∧
    (bgClosed o r out s).req = s.req ∧ (bgClosed o r out s).array = s.array ∧ (bgClosed o r out s).jrnl = s.jrnl ∧
    (bgClosed o r out s).cfg = s.cfg ∧ (bgClosed o r out s).patrol.state = s.patrol.state ∧
    (bgClosed o r out s).patrol.mode = s.patrol.mode ∧ (bgClosed o r out s).patrol.status = s.patrol.status ∧
    (bgClosed o r out s).patrol.gapTimer = s.patrol.gapTimer ∧
    (bgClosed o r out s).patrol.quietElapsed = s.patrol.quietElapsed ∧ (bgClosed o r out s).patrol.bgRead = none ∧
    (bgClosed o r out s).patrol.resume = if r.patrolRead then nextResume r.lbn else s.patrol.resume := by
  obtain ⟨hmap, hcond⟩ := closeBgRead_map r s (bgClass r out)
  obtain ⟨hread, hresume⟩ := closeBgRead_patrol r s (bgClass r out)
  unfold bgClosed
  split <;> simp [fillBuffer_eq, hmap, hcond, hread, hresume]

theorem bgClosed_buf :
    (bgClosed o r out s).patrol.buf =
      if keepsWords s r (bgClass r out) then { lbn := some r.lbn, valid := true, words := wordsRead s o.pbn }
      else s.patrol.buf := by
  unfold bgClosed
  split
  · rw [fillBuffer_eq, blockWords_words, wordsRead_congr (s := s) (by simp) (by simp)]
  · simp

end

/-! ## The four ends -/

/-- The read ends a segment (R133, R142). -/
def SegmentEnds (s : State) (r : BackgroundRead) : Prop :=
  (r.patrolRead = true ∧ scansOn s) ∧ s.patrol.mode = some .segment ∧
    ((r.lbn + 1) % segLength s.cfg.segCode = 0 ∨ r.lbn = 3967)

/-- The read ends a pass in a mode (R142). -/
def PassEnds (s : State) (r : BackgroundRead) (m : PatrolMode) : Prop :=
  (r.patrolRead = true ∧ scansOn s) ∧ s.patrol.mode = some m ∧ r.lbn = 3967

/-- The machine when the event closes. -/
def readEnded (o : ArrayOp) (r : BackgroundRead) (out : ReadOutcome) (s : State) : State :=
  if r.patrolRead then testEnds r.lbn (bgClosed o r out s) else bgClosed o r out s

theorem bgClosed_scansOn (o : ArrayOp) (r : BackgroundRead) (out : ReadOutcome) (s : State) :
    scansOn (bgClosed o r out s) ↔ scansOn s := by simp [scansOn]

section
variable {r : BackgroundRead} {s : State} (o : ArrayOp) (out : ReadOutcome)

theorem readEnded_segment (h : SegmentEnds s r) :
    readEnded o r out s = setPatrolStatus .segmentDone (patrolIdle (bgClosed o r out s)) := by
  obtain ⟨⟨hread, hon⟩, hm, hl⟩ := h
  exact (if_pos hread).trans
    (testEnds_segment ((bgClosed_scansOn ..).2 hon) (by simpa using hm) (by simpa using hl))

theorem readEnded_pass (h : PassEnds s r .pass) (hs : s.jrnl.mode = .ready → s.jrnl.lastStarted < 4294967295) :
    readEnded o r out s = patrolIdle (passEnd (bgClosed o r out s)) := by
  obtain ⟨⟨hread, hon⟩, hm, hl⟩ := h
  exact (if_pos hread).trans
    (testEnds_pass ((bgClosed_scansOn ..).2 hon) (by simpa using hm) hl (by simpa using hs))

theorem readEnded_auto (h : PassEnds s r .auto) (hs : s.jrnl.mode = .ready → s.jrnl.lastStarted < 4294967295) :
    readEnded o r out s = startGap (passEnd (bgClosed o r out s)) := by
  obtain ⟨⟨hread, hon⟩, hm, hl⟩ := h
  exact (if_pos hread).trans
    (testEnds_auto ((bgClosed_scansOn ..).2 hon) (by simpa using hm) hl (by simpa using hs))

theorem readEnded_none (hseg : ¬ SegmentEnds s r) (hpass : ¬ PassEnds s r .pass) (hauto : ¬ PassEnds s r .auto) :
    readEnded o r out s = bgClosed o r out s := by
  unfold readEnded
  split
  · rename_i hread
    refine testEnds_none (fun h => hseg ?_) fun m hm h => ?_
    · simpa [SegmentEnds, hread, bgClosed_scansOn] using h
    · have he : PassEnds s r m := by simpa [PassEnds, hread, bgClosed_scansOn] using h
      rcases hm with rfl | rfl
      · exact hpass he
      · exact hauto he
  · rfl

/-- Whatever ends, requests, map, array, buffer and resume LBN stand as the read left them. -/
theorem readEnded_scanEnd (hs : s.jrnl.mode = .ready → s.jrnl.lastStarted < 4294967295) :
    ScanEnd (bgClosed o r out s) (readEnded o r out s) := by
  by_cases hseg : SegmentEnds s r
  · rw [readEnded_segment o out hseg]
    exact scanEnd_segment _
  · by_cases hpass : PassEnds s r .pass
    · rw [readEnded_pass o out hpass hs]
      exact scanEnd_pass _
    · by_cases hauto : PassEnds s r .auto
      · rw [readEnded_auto o out hauto hs]
        exact scanEnd_auto _
      · rw [readEnded_none o out hseg hpass hauto]
        exact ⟨rfl, rfl, rfl, rfl, rfl, rfl⟩

end

theorem passEnd_reason (s : State) :
    (passEnd s).jrnl.commitNeeded = true ∧ (passEnd s).jrnl.lastStarted = s.jrnl.lastStarted ∧
      (passEnd s).attn.latched.getLsbD 3 = true ∧ (passEnd s).patrol.status = .passDone ∧
      (passEnd s).cond = (s.bump CondId.patrolPasses).cond :=
  ⟨rfl, rfl, latch_sets .patrol _, rfl, rfl⟩

/-- After an AUTO pass: the gap, or with a gap of 0 the next pass (R137). -/
theorem startGap_patrol (x : State) (hm : x.jrnl.mode ≠ .starting) :
    (x.cfg.passGap ≠ 0 → (startGap x).patrol.state = .gap ∧ (startGap x).patrol.status = x.patrol.status ∧
      (startGap x).patrol.gapTimer = some x.cfg.passGap.toNat) ∧
    (x.cfg.passGap = 0 → (startGap x).patrol.status = .inProgress ∧
      ((x.req.queue = [] ∧ x.patrol.quietElapsed = true) → (startGap x).patrol.state = .running) ∧
      (¬ (x.req.queue = [] ∧ x.patrol.quietElapsed = true) → (startGap x).patrol.state = .waiting)) := by
  have hp : bgPermitted x = true ↔ x.req.queue = [] ∧ x.patrol.quietElapsed = true := by
    simp [bgPermitted, foregroundIdle, hm]
  unfold startGap
  refine ⟨fun hg => ?_, fun hg => ?_⟩
  · rw [if_neg hg]
    exact ⟨rfl, rfl, rfl⟩
  · rw [if_pos hg]
    exact ⟨rfl, fun h => if_pos (hp.2 h), fun h => if_neg fun hb => h (hp.1 hb)⟩

/-! ## The counts -/

theorem CountsAfterRead.passes_kept {retries : Nat} {out : ReadOutcome} {s t : State}
    (h : CountsAfterRead retries out s t) :
    (t.cond[CondId.patrolPasses]).raw = (s.cond[CondId.patrolPasses]).raw := by
  have hraised : raisedBy retries out ≠ some CondId.patrolPasses := by
    cases out <;> by_cases hr : 0 < retries <;> simp only [raisedBy, hr, if_true, if_false] <;> decide
  unfold CountsAfterRead at h
  split at h
  · exact h _ (by decide)
  · rename_i i hi
    refine h.2 _ fun hm => ?_
    rcases List.mem_cons.1 hm with e | e
    · exact hraised (e ▸ hi)
    · exact absurd e (by decide)

/-- A pass counts once in condition 8 beside the read's own count (R142). -/
theorem passEnd_counted (o : ArrayOp) (r : BackgroundRead) (out : ReadOutcome) (s : State) :
    ((passEnd (bgClosed o r out s)).cond[CondId.patrolPasses]).raw =
      oneMore (s.cond[CondId.patrolPasses]).raw := by
  obtain ⟨-, -, -, -, hcond⟩ := passEnd_reason (bgClosed o r out s)
  have hread : CountsAfterRead r.retries out (bgGone s) (handOff r.lbn (bgClass r out) (bgGone s)) :=
    handOff_counts r.lbn r.retries out (bgGone s)
  have hkept := hread.passes_kept
  rw [hcond, (bump_rawCounted _ _ []).1]
  simp only [bgClosed_keeps]
  rw [hkept]
  rfl

/-! ## The close of the event -/

/-- After a read that is over, a background read in flight is a new one (R140). -/
theorem arbitrate_bgRead_new {s : State} (h : s.patrol.bgRead = none) {r' : BackgroundRead}
    (hr : (arbitrate s).patrol.bgRead = some r') : r'.inFlight = true ∧ r'.retries = 0 ∧ r'.retryOwed = false := by
  have hnew : ∀ l b, some (newBgRead l b) = some r' → _ := fun l b e =>
    Option.some.inj e ▸ (⟨rfl, rfl, rfl⟩ : (newBgRead l b).inFlight = true ∧ (newBgRead l b).retries = 0 ∧
      (newBgRead l b).retryOwed = false)
  rcases arbitrate_cases s with e | ⟨g, -, hg, e⟩ <;> rw [e] at hr
  · exact nomatch h.symm.trans hr
  · rcases (choose_cases hg).patrol with ⟨-, hb⟩ | ⟨hp, -⟩
    · cases hb with
      | retry r hs => exact nomatch h.symm.trans hs
      | reallocate | program =>
        simp only [applyGrant, grantRefreshReallocate_keeps, grantRefreshProgram_keeps, h] at hr
        cases hr
      | refreshRead l rest _ _ _ hl =>
        rw [applyGrant, grantRefreshRead_eq hl] at hr
        exact hnew _ _ hr
      | patrolRead => exact hnew _ _ hr
    · rw [hp, h] at hr
      cases hr

theorem settle_bgRead_new {s₀ y : State} (h : y.patrol.bgRead = none) {r' : BackgroundRead}
    (hr : (settle s₀ y).patrol.bgRead = some r') : r'.inFlight = true ∧ r'.retries = 0 ∧ r'.retryOwed = false :=
  arbitrate_bgRead_new (s := closedEvent s₀ y) (by simpa using h) hr

/-! ## O27 -/

section
variable {o : ArrayOp} {r : BackgroundRead} {out : ReadOutcome} {s : State}

/-- The state of the patrol stands to the close of the event, since the queue's tags are live (R135). -/
theorem settle_readEnded_state (hlive : queueLive s) (hs : s.jrnl.mode = .ready → s.jrnl.lastStarted < 4294967295) :
    (settle s (readEnded o r out (idleUnit s))).patrol.state = (readEnded o r out (idleUnit s)).patrol.state := by
  have hreq : (readEnded o r out (idleUnit s)).req = s.req :=
    (readEnded_scanEnd (s := idleUnit s) o out hs).req.trans (bgClosed_keeps ..).2.2.1
  refine settle_patrolState_of_live (by rw [hreq]) fun u hu => ?_
  rw [tag_eq_of_req hreq]
  exact hlive u (hreq ▸ hu)

/-- What the read does whatever it ends: lists, resume LBN, buffer, the next background read, map and array. -/
theorem readEnded_common (hm : s.jrnl.mode ≠ .starting) (hs : s.jrnl.mode = .ready → s.jrnl.lastStarted < 4294967295) :
    let t := settle s (readEnded o r out (idleUnit s))
    let enters := out ≠ .uncorrectable ∧ r.cancelled = false ∧ r.dropped = false ∧ s.jrnl.mode = .ready ∧
      (r.patrolRead = true → weakBlock s.cfg.refreshLevel r.retries out)
    ListsAfterRead r.lbn r.retries out s t ∧
      t.patrol.resume = (if r.patrolRead then (if r.lbn = 3967 then 0 else r.lbn + 1) else s.patrol.resume) ∧
      (enters → t.patrol.buf = { lbn := some r.lbn, valid := true, words := wordsRead s o.pbn }) ∧
      (¬ enters → t.patrol.buf = s.patrol.buf) ∧
      (∀ r', t.patrol.bgRead = some r' → r'.inFlight = true ∧ r'.retries = 0 ∧ r'.retryOwed = false) ∧
      RemapKept s t ∧ ArrayKept s t := by
  intro t enters
  obtain ⟨-, hmap, harray, hread, hbuf, hresume⟩ := readEnded_scanEnd (r := r) (s := idleUnit s) o out hs
  have hready : s.jrnl.mode ≠ .readOnly ↔ s.jrnl.mode = .ready := by
    cases h : s.jrnl.mode <;> simp_all
  have henters : keepsWords (idleUnit s) r (bgClass r out) = true ↔ enters := by
    rw [keepsWords_iff]
    exact and_congr_right fun _ => and_congr_right fun _ => and_congr_right fun _ => and_congr_left fun _ => hready
  rw [bgClosed_buf] at hbuf
  simp only [bgClosed_keeps] at hmap harray hread hresume
  refine ⟨listsAfterRead_settle (s := bgGone (idleUnit s)) hmap, ?_, fun h => ?_, fun h => ?_,
    fun r' => settle_bgRead_new hread, ?_, ?_⟩
  · simpa [t, nextResume] using hresume
  · rw [settle_buf, hbuf, if_pos (henters.2 h)]
    rfl
  · rw [settle_buf, hbuf, if_neg (mt henters.1 h)]
    rfl
  · exact ⟨by simp [t, hmap, bgGone], by simp [t, hmap, bgGone]⟩
  · exact arrayKept_of_eq (by simp [t, harray]) (by simp [t, harray])

/-- The machine after the event. -/
def bgEnded (o : ArrayOp) (r : BackgroundRead) (out : ReadOutcome) (s : State) : State :=
  settle s (readEnded o r out (idleUnit s))

theorem segmentEnds_ended (h : SegmentEnds s r)
    (hstate : (bgEnded o r out s).patrol.state = (readEnded o r out (idleUnit s)).patrol.state) :
    (bgEnded o r out s).patrol.state = .idle ∧ (bgEnded o r out s).patrol.mode = none ∧
      (bgEnded o r out s).patrol.status = .segmentDone ∧ (bgEnded o r out s).attn.latched.getLsbD 3 = true := by
  have he := readEnded_segment (s := idleUnit s) o out h
  refine ⟨hstate.trans ?_, ?_, ?_, settle_keeps_bits _ _ 3 ?_⟩
  · rw [he]
    rfl
  · simp only [bgEnded, settle_keeps, he, setPatrolStatus_keeps]
    rfl
  · simp only [bgEnded, settle_keeps, he]
    rfl
  · rw [he]
    exact latch_sets .patrol _

theorem passEnds_ended (h : PassEnds s r .pass) (hs : s.jrnl.mode = .ready → s.jrnl.lastStarted < 4294967295)
    (hstate : (bgEnded o r out s).patrol.state = (readEnded o r out (idleUnit s)).patrol.state) :
    (bgEnded o r out s).patrol.state = .idle ∧ (bgEnded o r out s).patrol.mode = none ∧
      (bgEnded o r out s).patrol.status = .passDone ∧ (bgEnded o r out s).attn.latched.getLsbD 3 = true ∧
      reasonMade s (bgEnded o r out s) := by
  have he := readEnded_pass (s := idleUnit s) o out h hs
  obtain ⟨hcommit, hstarted, hlatch, hstatus, -⟩ := passEnd_reason (bgClosed o r out (idleUnit s))
  refine ⟨hstate.trans ?_, ?_, ?_, settle_keeps_bits _ _ 3 ?_, settle_reasonMade _ _ _ ?_ ?_⟩
  · rw [he]
    rfl
  · simp only [bgEnded, settle_keeps, he]
    rfl
  · simp only [bgEnded, settle_keeps, he, patrolIdle_keeps, hstatus]
  · rw [he]
    exact hlatch
  · rw [he]
    exact hcommit
  · rw [he]
    exact hstarted.trans (congrArg _ (bgClosed_keeps ..).2.2.2.2.1)

theorem autoEnds_ended (h : PassEnds s r .auto) (hm : s.jrnl.mode ≠ .starting)
    (hs : s.jrnl.mode = .ready → s.jrnl.lastStarted < 4294967295)
    (hstate : (bgEnded o r out s).patrol.state = (readEnded o r out (idleUnit s)).patrol.state) :
    (bgEnded o r out s).patrol.mode = some .auto ∧ (bgEnded o r out s).attn.latched.getLsbD 3 = true ∧
      reasonMade s (bgEnded o r out s) ∧
      (s.cfg.passGap ≠ 0 → (bgEnded o r out s).patrol.state = .gap ∧ (bgEnded o r out s).patrol.status = .passDone ∧
        (bgEnded o r out s).patrol.gapTimer = some s.cfg.passGap.toNat) ∧
      (s.cfg.passGap = 0 → (bgEnded o r out s).patrol.status = .inProgress ∧
        (s.req.queue = [] ∧ s.patrol.quietElapsed = true → (bgEnded o r out s).patrol.state = .running) ∧
        (¬ (s.req.queue = [] ∧ s.patrol.quietElapsed = true) → (bgEnded o r out s).patrol.state = .waiting)) := by
  have he := readEnded_auto (s := idleUnit s) o out h hs
  obtain ⟨hcommit, -, hlatch, hstatus, -⟩ := passEnd_reason (bgClosed o r out (idleUnit s))
  have hgap := startGap_patrol (passEnd (bgClosed o r out (idleUnit s))) (by simpa using hm)
  simp only [passEnd_keeps, bgClosed_keeps, idleUnit_keeps, hstatus] at hgap
  rw [hstate]
  refine ⟨?_, settle_keeps_bits _ _ 3 ?_, settle_reasonMade _ _ _ ?_ ?_, ?_⟩
  · simpa [bgEnded, he] using h.2.1
  · simpa [he] using hlatch
  · simpa [he] using hcommit
  · simp [he]
  · simpa only [bgEnded, settle_keeps, he] using hgap

theorem pass_counted (h : PassEnds s r .pass ∨ PassEnds s r .auto)
    (hs : s.jrnl.mode = .ready → s.jrnl.lastStarted < 4294967295) :
    ((bgEnded o r out s).cond[CondId.patrolPasses]).raw = oneMore (s.cond[CondId.patrolPasses]).raw := by
  have hcond : (bgEnded o r out s).cond = (passEnd (bgClosed o r out (idleUnit s))).cond := by
    rcases h with h | h
    · simp [bgEnded, readEnded_pass (s := idleUnit s) o out h hs]
    · simp [bgEnded, readEnded_auto (s := idleUnit s) o out h hs]
  rw [hcond]
  exact passEnd_counted o r out (idleUnit s)

/-- With no pass ended the conditions are those of the read alone; with no segment ended the scan goes on. -/
theorem noPass_ended (hpass : ¬ PassEnds s r .pass) (hauto : ¬ PassEnds s r .auto)
    (hstate : (bgEnded o r out s).patrol.state = (readEnded o r out (idleUnit s)).patrol.state) :
    CountsAfterRead r.retries out s (bgEnded o r out s) ∧
      (¬ SegmentEnds s r → (bgEnded o r out s).patrol.state = s.patrol.state ∧
        (bgEnded o r out s).patrol.mode = s.patrol.mode ∧ (bgEnded o r out s).patrol.status = s.patrol.status ∧
        (bgEnded o r out s).patrol.gapTimer = s.patrol.gapTimer) := by
  have hcounts (hcond : (readEnded o r out (idleUnit s)).cond = (bgClosed o r out (idleUnit s)).cond) :
      CountsAfterRead r.retries out s (bgEnded o r out s) :=
    countsAfterRead_settle (l := r.lbn) (s := bgGone (idleUnit s)) (hcond.trans (bgClosed_keeps ..).2.1)
  by_cases hseg : SegmentEnds s r
  · refine ⟨hcounts ?_, fun h => absurd hseg h⟩
    simp [readEnded_segment (s := idleUnit s) o out hseg]
  · have he := readEnded_none (s := idleUnit s) o out hseg hpass hauto
    refine ⟨hcounts (by rw [he]), fun _ => ⟨hstate.trans ?_, ?_, ?_, ?_⟩⟩
    · simp [he]
    all_goals simp [bgEnded, he]

end

/-- Settles O27: the read's own effects (`bgClosed`) stand whatever it ends (`readEnded_scanEnd`), and the close of the event
keeps each of the four ends. -/
theorem backgroundReadEnds : Obligations.BackgroundReadEnds := by
  intro o r out s ho hop hreq hr hm hs hlive hfinal scanning permitted passEnds segmentEnds enters
  have hexec := exec_patrolRead ho hop hreq out
  rw [patrolReadDone_final (s := idleUnit s) o hr hfinal] at hexec
  have hstate := settle_readEnded_state (o := o) (r := r) (out := out) hlive hs
  obtain ⟨hlists, hresume, henters, hstays, hnew, hremap, harray⟩ := readEnded_common (o := o) (r := r) (out := out) hm hs
  exact ⟨bgEnded o r out s, hexec, hlists, hresume, henters, hstays, hnew, fun h => segmentEnds_ended h hstate,
    fun h => passEnds_ended h hs hstate, fun h => autoEnds_ended h hm hs hstate, fun h => pass_counted h hs,
    fun hpass hauto => noPass_ended hpass hauto hstate, hremap, harray⟩

end Sys2Proof.Machine
end

section
/-! PROOFS. O45: the expiry of the quiet timer and of the gap timer (R135, R137). -/
namespace Sys2Proof.Machine

theorem exec_gapTimerExpiry {s : State} (h : s.patrol.gapTimer ≠ none) :
    exec .gapTimerExpiry s = .next (arbitrate (gapOver s)) := by
  have hs : s.patrol.gapTimer.isSome = true := Option.isSome_iff_ne_none.2 h
  change execGapTimerExpiry s = _
  simp only [execGapTimerExpiry, hs, if_true]

/-- After the gap the engine runs or waits, IN_PROGRESS, its timer stopped (R137). -/
theorem gapOver_patrol (s : State) :
    (gapOver s).patrol.gapTimer = none ∧ (gapOver s).patrol.status = .inProgress ∧
      (gapOver s).patrol.state = runOrWait s := ⟨rfl, rfl, rfl⟩

theorem runOrWait_of_permitted {s : State} (h : (engine s).permitted) : runOrWait s = .running :=
  if_pos ((bgPermitted_iff s).2 h)

theorem runOrWait_of_not_permitted {s : State} (h : ¬ (engine s).permitted) : runOrWait s = .waiting :=
  if_neg fun hb => h ((bgPermitted_iff s).1 hb)

/-- `x` differs from `s` in the timers, the quiet time, the state and the status of the patrol alone. -/
structure TimerOnly (s x : State) : Prop where
  req : x.req = s.req
  pool : x.pool = s.pool
  port : x.port = s.port
  svc : x.svc = s.svc
  array : x.array = s.array
  map : x.map = s.map
  jrnl : x.jrnl = s.jrnl
  cond : x.cond = s.cond
  cmd : x.cmd = s.cmd
  cfg : x.cfg = s.cfg
  attn : x.attn = s.attn
  mode : x.patrol.mode = s.patrol.mode
  resume : x.patrol.resume = s.patrol.resume

theorem quietOver_timerOnly (s : State) : TimerOnly s (quietOver s) := by constructor <;> simp

theorem gapOver_timerOnly (s : State) : TimerOnly s (gapOver s) := by constructor <;> simp

/-- The arbiter's choice after a timer touches nothing but background work (R68). -/
theorem TimerOnly.arbitrate {s x : State} (h : TimerOnly s x) :
    HealthKept s (arbitrate x) ∧ (arbitrate x).patrol.mode = s.patrol.mode ∧
      (arbitrate x).patrol.resume = s.patrol.resume ∧ (arbitrate x).cmd = s.cmd ∧ (arbitrate x).cfg = s.cfg ∧
      (arbitrate x).attn = s.attn ∧ (arbitrate x).port = s.port ∧ (arbitrate x).svc = s.svc ∧
      ArrayKept s (arbitrate x) ∧
      (UnitOk s → (arbitrate x).req = s.req ∧ (arbitrate x).pool = s.pool ∧ (arbitrate x).jrnl = s.jrnl) := by
  obtain ⟨hreq, hpool, hport, hsvc, harray, hmap, hjrnl, hcond, hcmd, hcfg, hattn, hmode, hresume⟩ := h
  have hhealth : HealthKept s (Machine.arbitrate x) := by
    refine ⟨?_, ?_, ?_, ?_, ?_⟩ <;> simp [hmap, hcond]
  have hblocks : ArrayKept s (Machine.arbitrate x) := arrayKept_of_eq (by simp [harray]) (by simp [harray])
  simp only [arbitrate_keeps]
  exact ⟨hhealth, hmode, hresume, hcmd, hcfg, hattn, hport, hsvc, hblocks, fun hs =>
    arbitrate_of_foreground_kept hs harray hreq hpool hmap hjrnl⟩

/-- Settles O45: each timer changes the patrol's timers, quiet time, state and status alone (`TimerOnly`), and the arbiter's
choice keeps them. -/
theorem timersExpire : Obligations.TimersExpire := by
  intro s idle kept
  refine ⟨fun h => ⟨_, exec_quietTimerExpiry h, ?_⟩, fun h => ⟨_, exec_gapTimerExpiry h, ?_⟩⟩
  · have he := quietOver_engine s
    have htimer : (quietOver s).patrol.quietTimer = none := congrArg Engine.quietTimer he
    have helapsed : (quietOver s).patrol.quietElapsed = true := congrArg Engine.quietElapsed he
    have hstate : (quietOver s).patrol.state = _ := congrArg Engine.state he
    simp only [arbitrate_keeps, quietOver_keeps, htimer, helapsed, hstate, true_and]
    refine ⟨fun hi => if_pos ?_, fun hi => if_neg ?_, (quietOver_timerOnly s).arbitrate⟩
    · obtain ⟨⟨hq, hm⟩, hw⟩ := hi
      exact ⟨hw, hq, hm⟩
    · rintro ⟨hw, hq, hm⟩
      exact hi ⟨⟨hq, hm⟩, hw⟩
  · obtain ⟨htimer, hstatus, hstate⟩ := gapOver_patrol s
    simp only [arbitrate_keeps, gapOver_keeps, htimer, hstatus, hstate, true_and]
    refine ⟨fun hi => runOrWait_of_permitted ?_, fun hi => runOrWait_of_not_permitted ?_, (gapOver_timerOnly s).arbitrate⟩
    · obtain ⟨⟨hq, hm⟩, hquiet⟩ := hi
      exact ⟨hq, hquiet, hm⟩
    · rintro ⟨hq, hquiet, hm⟩
      exact hi ⟨⟨hq, hm⟩, hquiet⟩

end Sys2Proof.Machine
end

section
/-! PROOFS. O40: REPORT_BUILD (R177, R178, R191). -/
namespace Sys2Proof.Machine

/-! ## The words of a report -/

theorem at16_zero (v : Nat) : at16 0 v = BitVec.ofNat 16 v := BitVec.shiftLeft_zero _

/-- Words 0 to 15 of a report are its header (R178). -/
theorem reportOf_header (s : State) (k : Nat) (h : k < 16) :
    (reportOf s)[k] = headerWord s k := by
  have hk : k ≠ 255 := by omega
  rw [reportOf, Vector.getElem_ofFn, if_neg hk]
  exact if_pos h

theorem headerWord_reserved (s : State) {k : Nat} (h : 10 ≤ k) : headerWord s k = 0 := by
  obtain ⟨j, rfl⟩ := Nat.exists_eq_add_of_le' h
  rfl

/-- The segment counts of the four segment lengths (R133). -/
theorem segmentCount_of_code (s : State) :
    (s.cfg.segCode = 0 → segmentCount s = 62) ∧ (s.cfg.segCode = 1 → segmentCount s = 31) ∧
      (s.cfg.segCode = 2 → segmentCount s = 16) ∧ (s.cfg.segCode = 3 → segmentCount s = 8) := by
  unfold segmentCount
  refine ⟨fun h => ?_, fun h => ?_, fun h => ?_, fun h => ?_⟩ <;> rw [h] <;> rfl

/-- Word 5 of a report is the segment count. -/
theorem reportOf_segmentCount {s : State} {n : Nat} (h : segmentCount s = n) :
    (reportOf s)[5] = BitVec.ofNat 16 n := by
  rw [reportOf_header s 5 (by decide), headerWord, h, at16_zero]

/-! ## The command -/

/-- REPORT_BUILD is taken in READ_ONLY also (R177). -/
theorem exec_reportBuild {s : State} (hi : BitVec 8) (hr : s.rstnLow = false) (hn : s.cmd.running = none)
    (hm : s.jrnl.mode ≠ .starting) : exec (.reportBuild hi) s = .next (takeReport s) := by
  change busAccess s requestReport = _
  rw [busAccess_high s _ hr, requestReport, requestCommand_taken _ hn hm fun _ => rfl]

theorem exec_reportBuildCompletion {w : Vector Word 256} {s : State} (h : s.cmd.running = some (.reportBuild w)) :
    exec .reportBuildCompletion s = .next (finishReport w s) := by
  change execReportBuildCompletion s = _
  rw [execReportBuildCompletion, h]

/-- Settles O40: the report of the take is `reportOf` of the state at that event, and its header is the table of R178. -/
theorem reportBuildFixesReport : Obligations.ReportBuildFixesReport := by
  refine ⟨fun hi s hr hn hm => ⟨reportOf s, exec_reportBuild hi hr hn hm, ?_⟩, fun w s h => ?_⟩
  · obtain ⟨hcode0, hcode1, hcode2, hcode3⟩ := segmentCount_of_code s
    have hword (k : Nat) (hk : k < 16) : (reportOf s)[k] = headerWord s k := reportOf_header s k hk
    refine ⟨hword 0 (by decide), ?_, ?_, ?_, ?_, fun h => reportOf_segmentCount (hcode0 h),
      fun h => reportOf_segmentCount (hcode1 h), fun h => reportOf_segmentCount (hcode2 h),
      fun h => reportOf_segmentCount (hcode3 h), ?_, hword 7 (by decide), hword 8 (by decide), ?_, fun k hlo hk => ?_⟩
    · exact (hword 1 (by decide)).trans (at16_zero _)
    · exact (hword 2 (by decide)).trans (at16_zero _)
    · exact (hword 3 (by decide)).trans (at16_zero _)
    · exact (hword 4 (by decide)).trans (at16_zero _)
    · exact (hword 6 (by decide)).trans (at16_zero _)
    · exact (hword 9 (by decide)).trans (at16_zero _)
    · exact (hword k.val hk).trans (headerWord_reserved s hlo)
  · rw [exec_reportBuildCompletion h, finishReport, completeCommand_eq]
    rfl

end Sys2Proof.Machine
end

section
/-! PROOFS. O57: the Journal's invariant without the patrol's. The laws of O58 are used on the state seen with its queue
empty and its patrol at rest, of which the patrol's part holds by itself (R152, R160, R163, R166). -/
namespace Sys2Proof.Machine

/-! ## The state with the patrol at rest -/

/-- The state with the queue empty and the patrol's scan and timers at rest: what the Journal's invariant speaks of is
unchanged. -/
def atRest (s : State) : State :=
  { s with
    req := { s.req with queue := [] }
    patrol := { s.patrol with
      state := .idle, mode := none, quietTimer := none, quietElapsed := false, gapTimer := none } }

/-- What the Journal's invariant speaks of. -/
def journalView (s : State) : Engine := engine (atRest s)

theorem journalView_eq (s : State) :
    journalView s =
      { low := s.rstnLow, op := s.array.op, queue := [], store := s.jrnl.mode, lastStarted := s.jrnl.lastStarted,
        lastDone := s.jrnl.lastDone, nextPos := s.jrnl.nextPos, commit := s.jrnl.commit, scanNext := s.jrnl.scanNext,
        state := .idle, mode := none, quietTimer := none, quietElapsed := false, gapTimer := none } := rfl

/-- The Journal's invariant while RSTn is high. -/
def JournalRun (s : State) : Prop := RunOk (atRest s)

theorem JournalRun.of_journal {s : State} (hr : s.rstnLow = false) (hj : JournalPart (journalView s)) : JournalRun s :=
  ⟨hr, hj, ⟨nofun, nofun, ⟨fun _ => rfl, fun _ => rfl⟩, ⟨nofun, fun hg => absurd rfl hg⟩, fun hq => absurd rfl hq,
    fun _ => ⟨rfl, rfl⟩⟩⟩

theorem JournalRun.high {s : State} (h : JournalRun s) : s.rstnLow = false := RunOk.high (s := atRest s) h

theorem journalRun_iff {s : State} (hr : s.rstnLow = false) : JournalRun s ↔ JournalOk s := by
  constructor
  · intro h
    obtain ⟨⟨hdone, hstarted, hpos, hstarting, hop, hfirst, -⟩, -⟩ := (runOk_iff (s := atRest s) hr).1 h
    exact ⟨hdone, hstarted, hpos, hstarting, hop, hfirst, fun hl => nomatch hr.symm.trans hl⟩
  · rintro ⟨hdone, hstarted, hpos, hstarting, hop, hfirst, -⟩
    exact .of_journal hr ⟨hdone, hstarted, hpos, hstarting, hop, hfirst⟩

theorem JournalRun.congr {s t : State} (h : JournalRun s) (e : journalView t = journalView s) : JournalRun t :=
  RunOk.congr h e

/-- What O58 says of an operation on the state at rest holds of the operation, the patrol aside. -/
theorem RunOk.journalRun {x t : State} (h : RunOk x) (e : journalView t = journalView x) : JournalRun t :=
  JournalRun.congr (.of_journal h.high ⟨h.journal.done, h.journal.started, h.journal.position, h.journal.scanStarting,
    h.journal.journalOp, h.journal.scanFirst⟩) e

/-! ## The unit, the arbiter's choice, the close of an event -/

/-- The operation in flight is over, or another one than the Journal's begins. -/
theorem JournalRun.setOp {s t : State} (h : JournalRun s) {o : Option ArrayOp}
    (e : journalView t = { journalView s with op := o }) (ho : ∀ p, o = some p → p.requester ≠ .journal) :
    JournalRun t :=
  RunOk.setOp h e ho

/-- The Journal's own grants keep the invariant as in O58, and the others begin no operation of the Journal (R68). -/
theorem JournalRun.applyGrant {s : State} (h : JournalRun s) {g : Grant} (hg : Choice s g) :
    JournalRun (applyGrant g s) := by
  cases hg with
  | ringRead p hp hm => exact (RunOk.grantRingRead h hp hm).journalRun rfl
  | commitFirst hs => exact (RunOk.grantCommitFirst h hs).journalRun rfl
  | commitNext c hs => exact (RunOk.grantCommitNext h hs).journalRun rfl
  | tag n g _ _ _ _ _ hr hg =>
    obtain ⟨o, ho, hreq⟩ := op_of_opTag (hg.effect hr).1
    refine h.setOp (o := (Machine.applyGrant g s).array.op) ?_ fun p hp => ?_
    · cases hg <;> simp [journalView_eq, Machine.applyGrant]
    · cases ho.symm.trans hp
      simp [hreq]
  | background g _ _ _ _ hg =>
    obtain ⟨o, ho, hreq⟩ := hg.requester
    refine h.setOp (o := (Machine.applyGrant g s).array.op) ?_ fun p hp => ?_
    · cases hg <;> simp [journalView_eq, Machine.applyGrant]
    · cases ho.symm.trans hp
      simp [hreq]

theorem JournalRun.arbitrate {s : State} (h : JournalRun s) : JournalRun (arbitrate s) := by
  rcases arbitrate_cases s with e | ⟨g, -, hg, e⟩ <;> rw [e]
  · exact h
  · exact h.applyGrant (choose_cases hg)

theorem JournalRun.settle {s : State} (h : JournalRun s) (s₀ : State) : JournalRun (settle s₀ s) := by
  have hclosed : JournalRun (closedEvent s₀ s) := h.congr (by simp [journalView_eq, closedEvent])
  rw [settle_eq]
  exact hclosed.arbitrate

/-! ## The change to READ_ONLY -/

/-- At rest or not, the patrol and the queue make no difference to what `f` does to the Journal. -/
def ActsOnJournal (f : State → State) : Prop := ∀ s, journalView (f s) = journalView (f (atRest s))

theorem becomeReadOnly_acts : ActsOnJournal becomeReadOnly := fun s => by simp [journalView_eq, atRest]

theorem checkSequence_acts : ActsOnJournal checkSequence := fun s => by
  unfold checkSequence
  rw [apply_ite journalView, apply_ite journalView, becomeReadOnly_acts s]
  rfl

theorem JournalRun.checkSequence {s : State} (h : JournalRun s) : JournalRun (checkSequence s) :=
  (RunOk.checkSequence h).journalRun (checkSequence_acts s)

/-! ## The ends of the scan and of a commit attempt -/

theorem endStartUp_journalView (s : State) : journalView (endStartUp s) = journalView s := by
  simp [journalView_eq, endStartUp]

theorem endScan_of_candidate {s : State} {c : Candidate} (h : s.jrnl.candidate = some c) :
    endScan s = loadImage c s := by
  unfold endScan
  rw [h]

theorem endScan_of_none {s : State} (h : s.jrnl.candidate = none) : endScan s = freshState s := by
  unfold endScan
  rw [h]

/-- The Journal once an image is loaded (R165). -/
theorem loadImage_jrnl (c : Candidate) (s : State) :
    (loadImage c s).jrnl = { s.jrnl with
      lastStarted := c.image.sequence, lastDone := c.image.sequence, nextPos := nextRing c.position, candidate := none
      mode := .ready } := by
  simp [loadImage]

theorem endScan_acts : ActsOnJournal endScan := fun s => by
  cases hc : s.jrnl.candidate with
  | none =>
    rw [endScan_of_none hc, endScan_of_none (s := atRest s) hc]
    rfl
  | some c =>
    rw [endScan_of_candidate hc, endScan_of_candidate (s := atRest s) hc]
    simp [journalView_eq, loadImage, endStartUp, atRest]

theorem considerImage_atRest (p : Nat) (i : StateImage) (s : State) :
    considerImage p i (atRest s) = atRest (considerImage p i s) := by
  unfold considerImage
  dsimp only
  rw [apply_ite atRest]
  rfl

theorem ringTaken_atRest (o : ArrayOp) (out : ReadOutcome) (s : State) :
    ringTaken o out (atRest s) = atRest (ringTaken o out s) := by
  have hread : ringContent (atRest s) o.pbn = ringContent s o.pbn := rfl
  unfold ringTaken
  rw [hread]
  split
  · rfl
  · cases ringContent s o.pbn with
    | image i => exact considerImage_atRest _ i { s with jrnl := { s.jrnl with imageBuffer := .image i } }
    | nothing | undefined => rfl

theorem ringReadDone_acts (o : ArrayOp) (out : ReadOutcome) : ActsOnJournal (ringReadDone o out) := fun s => by
  rw [ringReadDone_eq, ringReadDone_eq, ringTaken_atRest, apply_ite journalView, apply_ite journalView, endScan_acts]
  rfl

theorem commitPass_acts : ActsOnJournal commitPass := fun s => by
  cases hc : s.jrnl.commit with
  | none =>
    have hc' : (atRest s).jrnl.commit = none := hc
    simp only [commitPass, hc, hc']
    rfl
  | some c =>
    have hc' : (atRest s).jrnl.commit = some c := hc
    have hreleased : ∀ x, journalView (commitReleased c x) = { journalView x with
        store := (x.jrnl.passed c).mode, lastDone := c.sequence, nextPos := nextRing x.jrnl.nextPos,
        commit := none } := fun x => by
      simp [journalView_eq, commitReleased, Journal.passed]
    rw [commitPass_eq hc, commitPass_eq hc']
    simp only [apply_ite journalView, endStartUp_journalView, hreleased]
    rfl

theorem commitFail_acts : ActsOnJournal commitFail := fun s => by
  cases hc : s.jrnl.commit with
  | none =>
    have hc' : (atRest s).jrnl.commit = none := hc
    simp only [commitFail, hc, hc']
    rfl
  | some c =>
    have hc' : (atRest s).jrnl.commit = some c := hc
    rw [commitFail_eq hc, commitFail_eq hc']
    simp only [apply_ite journalView, endStartUp_journalView]
    simp [journalView_eq, commitDropped, commitSkipped, atRest]

/-! ## Reads and programs -/

theorem tagReadDone_journalView (n : TagNo) (o : ArrayOp) (out : ReadOutcome) (s : State) :
    journalView (tagReadDone n o out s) = journalView s := by
  unfold tagReadDone tagReadFinal readTagFinal endRead
  dsimp only
  (repeat' split) <;> simp [journalView_eq]

theorem testEnds_journalRun {s : State} (h : JournalRun s) (l : Nat) : JournalRun (testEnds l s) := by
  have hpass : JournalRun (passEnd s) := h.congr (by simp [journalView_eq])
  unfold testEnds
  split
  · split
    · exact h
    · split
      · exact h.congr (by simp [journalView_eq])
      · exact h
    · split
      · exact JournalRun.checkSequence (hpass.congr (by simp [journalView_eq]))
      · exact h
    · split
      · exact JournalRun.checkSequence (hpass.congr (by simp [journalView_eq]))
      · exact h
  · exact h

theorem patrolReadDone_journalRun {s : State} (h : JournalRun s) (o : ArrayOp) (out : ReadOutcome) :
    JournalRun (patrolReadDone o out s) := by
  unfold patrolReadDone
  split
  · exact h
  · rename_i r _
    split
    · exact h.congr rfl
    · dsimp only
      have hkeep : JournalRun (if keepsWords s r (classify (decide (0 < r.retries)) out) then
            fillBuffer r.lbn o.pbn (closeBgRead r (classify (decide (0 < r.retries)) out) s)
          else closeBgRead r (classify (decide (0 < r.retries)) out) s) := by
        split <;> exact h.congr (by simp [journalView_eq, fillBuffer_eq])
      split
      · exact testEnds_journalRun hkeep _
      · exact hkeep

theorem readDone_journalRun {s : State} (h : JournalRun s) {o : ArrayOp} (ho : s.array.op = some o)
    (hr : o.operation = .readBlock) (out : ReadOutcome) : JournalRun (readDone o out (idleUnit s)) := by
  have hidle : JournalRun (idleUnit s) := h.setOp (o := none) rfl nofun
  unfold Machine.readDone
  split
  · exact hidle.congr (tagReadDone_journalView ..)
  · exact patrolReadDone_journalRun hidle ..
  · rename_i hj
    obtain ⟨hscan, hread⟩ := h.journal.journalOp o ho hj
    obtain ⟨hm, hc⟩ := hread hr
    exact (RunOk.ringReadDone hidle hm hc hscan rfl o out).journalRun (ringReadDone_acts o out _)
  · refine hidle.congr ?_
    unfold orphanReadDone
    split <;> simp [journalView_eq]

theorem resolveOwed_journalView (s : State) : journalView (resolveOwed s) = journalView s := by
  simp [journalView_eq]

theorem tagProgramDone_journalRun {s : State} (h : JournalRun s) (n : TagNo) (l pbn : Nat) (r : Bool)
    (out : ProgramOutcome) : JournalRun (tagProgramDone n l pbn r out s) := by
  have hpass : ∀ x, journalView (tagBlockPasses n r x) = journalView x := fun x => by
    unfold tagBlockPasses afterPass
    dsimp only
    (repeat' split) <;> simp [journalView_eq]
  cases out <;> cases r
  case pass.false => exact h.congr ((hpass _).trans (by simp [journalView_eq]))
  case fail.false => exact h.congr (by simp [journalView_eq, tagProgramDone, tagOwes])
  case pass.true =>
    exact JournalRun.checkSequence
      (h.congr ((resolveOwed_journalView _).trans ((hpass _).trans (by simp [journalView_eq]))))
  case fail.true => exact JournalRun.checkSequence (h.congr (by simp [journalView_eq, tagOwes]))

theorem refreshDone_journalRun {s : State} (h : JournalRun s) (l pbn : Nat) (r : Bool) (out : ProgramOutcome) :
    JournalRun (refreshDone l pbn r out s) := by
  cases out <;> cases r
  case pass.false => exact h.congr (by simp [journalView_eq, refreshDone, endRefresh])
  case fail.false => exact h.congr (by simp [journalView_eq, refreshDone, refreshOwes])
  case pass.true => exact JournalRun.checkSequence (h.congr (by simp [journalView_eq, endRefresh]))
  case fail.true => exact JournalRun.checkSequence (h.congr (by simp [journalView_eq, refreshOwes]))

theorem orphanProgramDone_journalRun {s : State} (h : JournalRun s) (l pbn : Nat) (r : Bool) (d : DataPlace)
    (out : ProgramOutcome) : JournalRun (orphanProgramDone l pbn r d out s) := by
  cases out <;> cases r
  case pass.false | fail.false => exact h.congr (by simp [journalView_eq, orphanProgramDone])
  case pass.true | fail.true => exact JournalRun.checkSequence (h.congr (by simp [journalView_eq]))

theorem programDone_journalRun {s : State} (h : JournalRun s) (o : ArrayOp) (out : ProgramOutcome) :
    JournalRun (programDone o out s) := by
  unfold programDone
  dsimp only
  split
  · exact tagProgramDone_journalRun h ..
  · unfold patrolProgramDone
    split
    · exact refreshDone_journalRun h ..
    · have horphan := orphanProgramDone_journalRun h (o.lbn.getD 0) o.pbn (o.purpose == .reallocation) .none out
      dsimp only
      split
      · exact horphan.congr (by simp [journalView_eq])
      · exact horphan
  · split
    · exact (RunOk.commitPass h).journalRun (commitPass_acts s)
    · exact (RunOk.commitFail h).journalRun (commitFail_acts s)
  · exact orphanProgramDone_journalRun h ..

/-! ## Requests, port and Command Unit -/

theorem submit_journalRun {s : State} (h : JournalRun s) (v : Word) : JournalRun (submit v s) := by
  unfold submit
  split
  · exact h.congr rfl
  · rename_i k _
    have e := accept_engine v k s
    simp only [engine, Engine.mk.injEq] at e
    exact JournalRun.settle (h.congr (by simp [journalView_eq, setQResult, e])) s

theorem requestAbort_journalRun {s : State} (h : JournalRun s) (v : Word) : JournalRun (requestAbort v s) := by
  unfold requestAbort abortEvery abortOne setAbortIgnored
  dsimp only
  refine JournalRun.settle (h.congr ?_) s
  (repeat' split) <;> simp [journalView_eq]

theorem readPort_journalRun {s : State} (h : JournalRun s) : JournalRun (readPort s) := by
  unfold readPort
  split
  · exact h.congr rfl
  · dsimp only
    split
    · exact h.congr rfl
    · refine JournalRun.settle (h.congr ?_) s
      unfold deliver
      dsimp only
      split <;> simp [journalView_eq]

theorem writePort_journalRun {s : State} (h : JournalRun s) (v : Word) : JournalRun (writePort v s) := by
  unfold writePort
  split
  · exact h.congr rfl
  · dsimp only
    split
    · exact h.congr rfl
    · exact JournalRun.settle (h.congr (by simp [journalView_eq, receive])) s

theorem requestCommand_journalRun {s : State} (h : JournalRun s) (c : Command) {take : State → State}
    (ht : JournalRun (take s)) : JournalRun (requestCommand c take s) := by
  unfold requestCommand
  (repeat' split)
  · exact h.congr rfl
  · exact h.congr rfl
  · exact h.congr rfl
  · exact ht

theorem takeStart_journalRun {s : State} (h : JournalRun s) (c : Command) (m : PatrolMode) :
    JournalRun (takeStart c m s) :=
  JournalRun.arbitrate (h.congr (by simp [journalView_eq]))

theorem requestStop_journalRun {s : State} (h : JournalRun s) : JournalRun (requestStop s) :=
  requestCommand_journalRun h _ (h.congr (by simp [journalView_eq]))

theorem requestReport_journalRun {s : State} (h : JournalRun s) : JournalRun (requestReport s) :=
  requestCommand_journalRun h _ (h.congr rfl)

theorem waitForCommit_journalRun {s : State} (h : JournalRun s) (r : Nat → Running) : JournalRun (waitForCommit r s) :=
  JournalRun.checkSequence (s := commitReason { s with cmd := { s.cmd with running := some (r (neededNow s)) } })
    (h.congr rfl)

theorem requestThresholds_journalRun {s : State} (h : JournalRun s) : JournalRun (requestThresholds s) := by
  refine requestCommand_journalRun h _ ?_
  unfold takeThresholds
  split
  · have hload : JournalRun (loadThresholds s) := h.congr rfl
    exact (waitForCommit_journalRun hload _).settle s
  · exact h.congr rfl

theorem requestSave_journalRun {s : State} (h : JournalRun s) : JournalRun (requestSave s) :=
  requestCommand_journalRun h _ ((waitForCommit_journalRun h _).settle s)

theorem writeCmd_journalRun {s : State} (h : JournalRun s) (v : Word) : JournalRun (writeCmd v s) := by
  unfold writeCmd
  cases commandOf (lowByte v) with
  | none =>
    unfold refuseCode
    dsimp only
    split <;> exact h.congr rfl
  | some c =>
    cases c with
    | patrolSegment | patrolPass | patrolAuto => exact requestCommand_journalRun h _ (takeStart_journalRun h ..)
    | patrolStop => exact requestStop_journalRun h
    | reportBuild => exact requestReport_journalRun h
    | thresholdLoad => exact requestThresholds_journalRun h
    | conditionSave => exact requestSave_journalRun h

/-! ## Registers and resets -/

/-- What leaves the whole of O58's view leaves the Journal's. -/
theorem JournalRun.of_engine {s t : State} (h : JournalRun s) (e : engine t = engine s) : JournalRun t := by
  simp only [engine, Engine.mk.injEq] at e
  exact h.congr (by simp [journalView_eq, e])

theorem writeCfga_journalRun {s : State} (h : JournalRun s) (v : Word) : JournalRun (writeCfga v s) := by
  unfold writeCfga
  dsimp only
  split
  · exact h.congr rfl
  · exact JournalRun.arbitrate (h.congr (by simp [journalView_eq]))

/-- A soft reset leaves the Journal and its operation in flight alone (R75, R198). -/
theorem softReset_journalRun {s : State} (h : JournalRun s) : JournalRun (softReset s) := by
  unfold softReset
  split
  · exact h
  · have hblocks : JournalRun (resetBlocks s) := (RunOk.resetBlocks h).journalRun rfl
    exact JournalRun.arbitrate (hblocks.congr (by simp [journalView_eq]))

theorem writeRegister_journalRun {s : State} (h : JournalRun s) (a : RegAddr) (v : Word) :
    JournalRun (writeRegister a v s) := by
  unfold writeRegister
  split
  case h_5 => exact submit_journalRun h v
  case h_7 => exact writePort_journalRun h v
  case h_8 => exact requestAbort_journalRun h v
  case h_9 => exact writeCmd_journalRun h v
  case h_11 => exact h.of_engine (writeReport_engine v s)
  case h_12 => exact writeCfga_journalRun h v
  case h_15 =>
    split
    · exact softReset_journalRun h
    · exact h
  all_goals exact h.congr rfl

/-- RSTn returns high: the Journal is new, and its scan owed (R163, R199). -/
theorem startScan_journalRun {s : State} (hop : s.array.op = none) : JournalRun (startScan s) := by
  unfold startScan
  refine JournalRun.arbitrate (.of_journal rfl ⟨le_rfl, nofun, Nat.zero_le _, fun hm => absurd rfl hm, fun o ho => ?_,
    fun _ => rfl⟩)
  exact nomatch hop.symm.trans ho

/-! ## Every command -/

/-- While RSTn is low the unit is idle and the timers are stopped (R185, R199). -/
theorem JournalOk.low {s : State} (h : JournalOk s) (hr : s.rstnLow = true) :
    s.array.op = none ∧ s.patrol.quietTimer = none ∧ s.patrol.gapTimer = none := h.2.2.2.2.2.2 hr

theorem JournalRun.journalOk {s : State} (h : JournalRun s) : JournalOk s :=
  (journalRun_iff h.high).1 h

/-- An event of the unit or of a timer finds RSTn high. -/
theorem JournalOk.run_of_event {s : State} (h : JournalOk s)
    (he : s.array.op ≠ none ∨ s.patrol.quietTimer ≠ none ∨ s.patrol.gapTimer ≠ none) : JournalRun s := by
  refine (journalRun_iff (Bool.eq_false_iff.2 fun hr => ?_)).2 h
  obtain ⟨hop, hquiet, hgap⟩ := h.low hr
  rcases he with he | he | he
  · exact he hop
  · exact he hquiet
  · exact he hgap

theorem JournalOk.busAccess {s t : State} {f : State → State} (h : JournalOk s) (hf : JournalRun s → JournalRun (f s))
    (ht : busAccess s f = .next t) : JournalOk t := by
  cases hr : s.rstnLow with
  | true =>
    rw [busAccess_low s f hr] at ht
    cases next_inj ht
    exact h
  | false =>
    rw [busAccess_high s f hr] at ht
    cases next_inj ht
    exact (hf ((journalRun_iff hr).2 h)).journalOk

theorem exec_journalOk {c : Instr} {s t : State} (h : JournalOk s) (ht : exec c s = .next t) : JournalOk t := by
  cases c with
  | submission v => exact h.busAccess (fun h => submit_journalRun h v) ht
  | abortRequest v => exact h.busAccess (fun h => requestAbort_journalRun h v) ht
  | ptagWrite | acauseWrite | aenableWrite | cfgbWrite => exact h.busAccess (fun h => h.congr rfl) ht
  | pdataRead => exact h.busAccess readPort_journalRun ht
  | pdataWrite v => exact h.busAccess (fun h => writePort_journalRun h v) ht
  | svcnextPop => exact h.busAccess (fun h => h.of_engine (pop_engine s)) ht
  | patrolSegment | patrolPass | patrolAuto =>
    exact h.busAccess (fun h => requestCommand_journalRun h _ (takeStart_journalRun h ..)) ht
  | patrolStop => exact h.busAccess requestStop_journalRun ht
  | reportBuild => exact h.busAccess requestReport_journalRun ht
  | reportBuildCompletion =>
    cases next_inj ht
    split
    all_goals exact h
  | thresholdLoad => exact h.busAccess requestThresholds_journalRun ht
  | conditionSave => exact h.busAccess requestSave_journalRun ht
  | badCommand v => exact h.busAccess (fun h => writeCmd_journalRun h v) ht
  | rdataRead => exact h.busAccess (fun h => h.of_engine (readReport_engine s)) ht
  | rdataWrite v => exact h.busAccess (fun h => h.of_engine (writeReport_engine v s)) ht
  | cfgaWrite v => exact h.busAccess (fun h => writeCfga_journalRun h v) ht
  | registerWrite a v => exact h.busAccess (fun h => writeRegister_journalRun h a v) ht
  | softReset => exact h.busAccess softReset_journalRun ht
  | powerOnReset =>
    rw [exec_powerOnReset] at ht
    cases next_inj ht
    exact (patrolInv_powerLost s).1
  | startUp =>
    cases next_inj ht
    split
    · rename_i hr
      exact (startScan_journalRun (h.low hr).1).journalOk
    · exact h
  | readBlockCompletion out =>
    cases next_inj ht
    split
    · rename_i o ho
      split
      · rename_i hop
        have hrun := h.run_of_event (.inl (by simp [ho]))
        exact ((readDone_journalRun hrun ho hop out).settle s).journalOk
      · exact h
    · exact h
  | programBlockCompletion out =>
    cases next_inj ht
    split
    · rename_i o ho
      split
      · have hrun := h.run_of_event (.inl (by simp [ho]))
        have hidle : JournalRun (programmed o out s) := hrun.setOp (o := none) rfl nofun
        exact ((programDone_journalRun hidle o out).settle s).journalOk
      · exact h
    · exact h
  | quietTimerExpiry =>
    cases next_inj ht
    split
    · rename_i hq
      have hrun := h.run_of_event (.inr (.inl (Option.isSome_iff_ne_none.1 hq)))
      exact (JournalRun.arbitrate (hrun.congr (by simp [journalView_eq]))).journalOk
    · exact h
  | gapTimerExpiry =>
    cases next_inj ht
    split
    · rename_i hg
      have hrun := h.run_of_event (.inr (.inr (Option.isSome_iff_ne_none.1 hg)))
      exact (JournalRun.arbitrate (hrun.congr (by simp [journalView_eq]))).journalOk
    · exact h

/-- Settles O57: with RSTn high each effect of a command keeps the invariant (`JournalRun`), and so do the close of the
event and the arbiter's choice; with RSTn low no command but START_UP acts. -/
theorem journalKept : Obligations.JournalKept :=
  kept_of_commands (fun _ _ h => h) fun _ _ _ => exec_journalOk

end Sys2Proof.Machine
end

section
/-! PROOFS. O6: the start-up scan (R151, R163 to R166, R183). -/
namespace Sys2Proof.Machine

/-! ## The candidate after a ring read -/

/-- The read of `o` with outcome `out` finds an image (R65, R151). -/
def ringFound (o : ArrayOp) (out : ReadOutcome) (s : State) (i : StateImage) : Prop :=
  out ≠ .uncorrectable ∧ (blockAt s o.pbn).2 = some i

/-- A valid image that beats the candidate, if there is one (R164). -/
def betterImage (s : State) (i : StateImage) : Prop :=
  imageValid i = true ∧ ∀ k, s.jrnl.candidate = some k → k.image.sequence < i.sequence

/-- The best image once the read of `o`, of ring position `p`, is done: the image it finds, or else the candidate before
(R164). -/
def bestImage (p : Nat) (o : ArrayOp) (out : ReadOutcome) (s : State) (k : Candidate) : Prop :=
  (k.position = p ∧ ringFound o out s k.image ∧ betterImage s k.image) ∨
    (s.jrnl.candidate = some k ∧ ∀ i, ringFound o out s i → ¬ betterImage s i)

theorem considerImage_of_better {s : State} {i : StateImage} (h : betterImage s i) (p : Nat) :
    considerImage p i s = { s with jrnl := { s.jrnl with candidate := some { position := p, image := i } } } := by
  obtain ⟨hv, hb⟩ := h
  unfold considerImage
  cases hc : s.jrnl.candidate with
  | none => simp [hv]
  | some c => simp [hv, hb c hc]

theorem considerImage_of_not_better {s : State} {i : StateImage} (h : ¬ betterImage s i) (p : Nat) :
    considerImage p i s = s := by
  unfold considerImage
  refine if_neg fun hb => h ?_
  obtain ⟨hv, hb⟩ := Bool.and_eq_true_iff.1 hb
  exact ⟨hv, fun k hk => by simpa [hk] using hb⟩

/-- A ring read changes the image buffer and the candidate alone. -/
theorem ringTaken_shape (o : ArrayOp) (out : ReadOutcome) (s : State) :
    ∃ b, ringTaken o out s =
      { s with jrnl := { s.jrnl with imageBuffer := b, candidate := (ringTaken o out s).jrnl.candidate } } := by
  unfold ringTaken
  split
  · exact ⟨_, rfl⟩
  · cases ringContent s o.pbn with
    | image i =>
      rcases considerImage_cases (o.pbn - 4064) i { s with jrnl := { s.jrnl with imageBuffer := .image i } } with e | e
      all_goals exact ⟨.image i, by simp only [e]⟩
    | nothing | undefined => exact ⟨_, rfl⟩

theorem ringTaken_of_found {o : ArrayOp} {out : ReadOutcome} {s : State} {i : StateImage} (h : ringFound o out s i) :
    ringTaken o out s = considerImage (o.pbn - 4064) i { s with jrnl := { s.jrnl with imageBuffer := .image i } } := by
  obtain ⟨hout, hfound⟩ := h
  have hread : ringContent s o.pbn = .image i := by
    unfold ringContent
    rw [show Memory.find s.array.ring o.pbn = some i from hfound]
  simp only [ringTaken, if_neg hout, hread]

theorem ringTaken_candidate_of_not_found {o : ArrayOp} {out : ReadOutcome} {s : State} (h : ∀ i, ¬ ringFound o out s i) :
    (ringTaken o out s).jrnl.candidate = s.jrnl.candidate := by
  unfold ringTaken
  split
  · rfl
  · rename_i hout
    have hread : ringContent s o.pbn = .undefined := by
      unfold ringContent
      cases hf : Memory.find s.array.ring o.pbn with
      | none => rfl
      | some i => exact absurd ⟨hout, hf⟩ (h i)
    rw [hread]

/-- With no better image found the candidate stays (R164). -/
theorem ringTaken_candidate_kept {o : ArrayOp} {out : ReadOutcome} {s : State}
    (h : ∀ i, ringFound o out s i → ¬ betterImage s i) : (ringTaken o out s).jrnl.candidate = s.jrnl.candidate := by
  by_cases hf : ∃ i, ringFound o out s i
  · obtain ⟨i, hi⟩ := hf
    have hno : ¬ betterImage { s with jrnl := { s.jrnl with imageBuffer := .image i } } i := h i hi
    rw [ringTaken_of_found hi, considerImage_of_not_better hno]
  · exact ringTaken_candidate_of_not_found (not_exists.1 hf)

theorem ringTaken_candidate_best {p : Nat} {o : ArrayOp} {out : ReadOutcome} {s : State} {k : Candidate}
    (hp : o.pbn - 4064 = p) (h : bestImage p o out s k) : (ringTaken o out s).jrnl.candidate = some k := by
  rcases h with ⟨hpos, hfound, hbetter⟩ | ⟨hk, hno⟩
  · have hb : betterImage { s with jrnl := { s.jrnl with imageBuffer := .image k.image } } k.image := hbetter
    rw [ringTaken_of_found hfound, considerImage_of_better hb, hp, ← hpos]
  · rw [ringTaken_candidate_kept hno, hk]

/-! ## The scan goes on -/

theorem exec_ringRead {o : ArrayOp} {s : State} (ho : s.array.op = some o) (hop : o.operation = .readBlock)
    (hreq : o.requester = .journal) (out : ReadOutcome) :
    exec (.readBlockCompletion out) s = .next (settle s (ringReadDone o out (idleUnit s))) := by
  change execReadBlockCompletion out s = _
  unfold execReadBlockCompletion
  rw [ho]
  simp only [hop, if_true, readDone, hreq]

/-- A ring read that is owed is granted as soon as the unit is idle (R69, R163). -/
theorem arbitrate_of_scan {s : State} {p : Nat} (ho : s.array.op = none) (hm : s.jrnl.mode = .starting)
    (hs : s.jrnl.scanNext = some p) : arbitrate s = grantRingRead p s := by
  refine arbitrate_grant s (.ringRead p) ho ?_
  unfold choose journalWork
  simp [hs, hm]

/-- A reason that is owed starts a commit as soon as the unit is idle (R69, R154). -/
theorem arbitrate_of_reason {s : State} (ho : s.array.op = none) (hm : s.jrnl.mode ≠ .readOnly)
    (hs : s.jrnl.scanNext = none) (hc : s.jrnl.commit = none) (hn : s.jrnl.commitNeeded = true) :
    arbitrate s = grantCommitFirst s := by
  refine arbitrate_grant s .commitFirst ho ?_
  unfold choose journalWork
  simp [hs, hm, hc, hn]

/-- With nothing of the Journal owed the close of an event leaves it alone. -/
theorem settle_jrnl_of_nothing_due (s₀ : State) {s : State} (hs : s.jrnl.scanNext = none) (hc : s.jrnl.commit = none)
    (hn : s.jrnl.commitNeeded = false) : (settle s₀ s).jrnl = s.jrnl := by
  have hj : (closedEvent s₀ s).jrnl = s.jrnl := by simp
  rw [settle_eq]
  rcases arbitrate_jrnl (closedEvent s₀ s) with e | ⟨p, hp, -⟩ | ⟨-, hneeded, -⟩ | ⟨c, hcommit, -⟩
  · rw [e, hj]
  · exact nomatch hs.symm.trans ((congrArg Journal.scanNext hj).symm.trans hp)
  · exact nomatch hn.symm.trans ((congrArg Journal.commitNeeded hj).symm.trans hneeded)
  · exact nomatch hc.symm.trans ((congrArg Journal.commit hj).symm.trans hcommit)

/-- With no block to refresh the close of an event leaves the map alone. -/
theorem settle_map_of_no_refresh (s₀ : State) {s : State} (h : s.map.refresh = []) : (settle s₀ s).map = s.map := by
  have hrefresh : (settle s₀ s).map.refresh = s.map.refresh := by
    rcases settle_refresh s₀ s with e | e <;> simp [e, h]
  calc (settle s₀ s).map = { (settle s₀ s).map with refresh := (settle s₀ s).map.refresh } := rfl
    _ = s.map := by simp [hrefresh]

/-! ## The image is loaded -/

/-- The state with the candidate's image in place, before the start is counted (R165, R183). -/
def imageLoaded (c : Candidate) (s : State) : State :=
  let i := c.image
  let x : State := { s with
    map := { remap := i.remap, retired := i.retired, pendingLbns := i.pendingLbns, overflow := 0, refresh := [] }
    patrol := { s.patrol with resume := i.resume }
    jrnl := { s.jrnl with lastStarted := i.sequence, lastDone := i.sequence, nextPos := nextRing c.position,
                          candidate := none, mode := .ready } }
  { x with cond := loadedConditions i (freeSpares x).length i.pendingLbns.length }

theorem loadImage_eq (c : Candidate) (s : State) :
    loadImage c s = endStartUp ((imageLoaded c s).bump CondId.powerStarts) := rfl

theorem loadImage_keeps (c : Candidate) (s : State) :
    (loadImage c s).map = (imageLoaded c s).map ∧ (loadImage c s).patrol.resume = c.image.resume ∧
      (loadImage c s).attn.latched.getLsbD 7 = true ∧
      (loadImage c s).cond = ((imageLoaded c s).bump CondId.powerStarts).cond := by
  rw [loadImage_eq]
  refine ⟨by simp, ?_, endStartUp_start _, by simp⟩
  simp [endStartUp, imageLoaded]

/-- A condition's record from an image (R183). -/
def Condition.loaded (i : StateImage) (k : CondId) (c : Condition) : Prop :=
  c.threshold = i.thresholds.getD k.val 0 ∧ c.grade = gradeOf k c.raw ∧ c.worst = min (i.worst.getD k.val 100) c.grade

theorem imageLoaded_table (c : Candidate) (s : State) :
    (imageLoaded c s).cond =
      loadedConditions c.image (freeSpares (imageLoaded c s)).length c.image.pendingLbns.length := rfl

theorem imageLoaded_cond (c : Candidate) (s : State) (k : CondId) : (imageLoaded c s).cond[k].loaded c.image k := by
  simp [imageLoaded_table, loadedConditions, Condition.loaded]

theorem imageLoaded_raw (c : Candidate) (s : State) (k : CondId) :
    ((imageLoaded c s).cond[k]).raw =
      if k = CondId.sparesRemaining then (freeSpares (imageLoaded c s)).length
      else if k = CondId.pendingBlocks then c.image.pendingLbns.length
      else c.image.raws.getD (imageRawIds.idxOf k) 0 := by
  simp [imageLoaded_table, loadedConditions]

/-- The start counted in condition 12, whose grade is 100 whatever its raw value (R169, R172). -/
theorem bump_powerStarts_loaded {i : StateImage} {c : Condition} (h : c.loaded i CondId.powerStarts) :
    (c.bump CondId.powerStarts).loaded i CondId.powerStarts := by
  have hcount : c.bump CondId.powerStarts = c ∨
      c.bump CondId.powerStarts = { c with raw := c.raw + 1, grade := 100, worst := min c.worst 100 } := by
    unfold Condition.bump Condition.setRaw
    split
    · exact .inl rfl
    · exact .inr (if_neg (Nat.ne_of_lt (Nat.lt_succ_self _)))
  rcases hcount with e | e <;> rw [e]
  · exact h
  · obtain ⟨ht, hg, hw⟩ := h
    have hgrade : c.grade = 100 := hg
    exact ⟨ht, rfl, by simp [hw, hgrade]⟩

theorem loadImage_cond_loaded (c : Candidate) (s : State) (k : CondId) : (loadImage c s).cond[k].loaded c.image k := by
  obtain ⟨-, -, -, hcond⟩ := loadImage_keeps c s
  rw [hcond]
  by_cases hk : k = CondId.powerStarts
  · subst hk
    rw [bump_cond_same]
    exact bump_powerStarts_loaded (imageLoaded_cond ..)
  · rw [bump_cond_other _ _ _ hk]
    exact imageLoaded_cond ..

theorem loadImage_raw {k : CondId} (hk : k ≠ CondId.powerStarts) (c : Candidate) (s : State) :
    ((loadImage c s).cond[k]).raw = ((imageLoaded c s).cond[k]).raw := by
  obtain ⟨-, -, -, hcond⟩ := loadImage_keeps c s
  rw [hcond, bump_cond_other _ _ _ hk]

theorem loadImage_powerStarts (c : Candidate) (s : State) :
    ((loadImage c s).cond[CondId.powerStarts]).raw = oneMore (c.image.raws.getD 9 0) := by
  obtain ⟨-, -, -, hcond⟩ := loadImage_keeps c s
  rw [hcond, bump_cond_same, bump_raw, imageLoaded_raw]
  rfl

/-! ## The fresh state -/

theorem freshState_keeps (s : State) :
    (freshState s).array = s.array ∧ (freshState s).jrnl = { s.jrnl with commitNeeded := true } ∧
      (freshState s).map = { s.map with remap := [], retired := [], pendingLbns := [] } ∧
      (freshState s).patrol.resume = 0 :=
  ⟨rfl, rfl, rfl, rfl⟩

/-- The power-on table with the start counted in condition 12 (R166, R183). -/
theorem freshState_cond (s : State) :
    ((freshState s).cond[CondId.powerStarts]).raw = 1 ∧
      ∀ i : CondId, i ≠ CondId.powerStarts → (freshState s).cond[i] = State.reset.cond[i] := by
  have hcond : (freshState s).cond = (State.reset.bump CondId.powerStarts).cond := rfl
  rw [hcond, bump_cond_same, bump_raw]
  exact ⟨rfl, fun i hi => bump_cond_other _ _ _ hi⟩

/-! ## The three ends of a ring read -/

/-- A ring read of `s` has ended in `x`, with nothing of the Journal owed yet: only its image buffer and its candidate may
differ (R163, R164). -/
structure ReadTaken (s x : State) : Prop where
  op : x.array.op = none
  mode : x.jrnl.mode = .starting
  needed : x.jrnl.commitNeeded = false
  commit : x.jrnl.commit = none
  scan : x.jrnl.scanNext = none
  started : x.jrnl.lastStarted = s.jrnl.lastStarted
  position : x.jrnl.nextPos = s.jrnl.nextPos
  map : x.map = s.map
  cond : x.cond = s.cond

/-- Before position 31 the next position is read (R164). -/
theorem ReadTaken.next {s x : State} (h : ReadTaken s x) (p : Nat) :
    let t := settle s { x with jrnl := { x.jrnl with scanNext := some p } }
    t.jrnl.mode = .starting ∧ t.array.op = some (ringOp .readBlock .ringRead p .none) ∧
      t.jrnl.candidate = x.jrnl.candidate ∧ HealthKept s t := by
  refine ⟨by simpa using h.mode, ?_, by simp, by simp [HealthKept, h.map, h.cond]⟩
  rw [settle_eq, arbitrate_of_scan (p := p) (by simpa using h.op) (by simpa using h.mode) (by simp)]
  rfl

/-- After position 31 the candidate is loaded, and nothing of the Journal is owed then (R165). -/
theorem ReadTaken.loads {s x : State} (h : ReadTaken s x) (k : Candidate) :
    (settle s (loadImage k x)).jrnl = (loadImage k x).jrnl ∧
      (settle s (loadImage k x)).map = (imageLoaded k x).map := by
  obtain ⟨hmap, -⟩ := loadImage_keeps k x
  refine ⟨settle_jrnl_of_nothing_due s ?_ ?_ ?_, ?_⟩
  · rw [loadImage_jrnl, h.scan]
  · rw [loadImage_jrnl, h.commit]
  · rw [loadImage_jrnl, h.needed]
  · rw [settle_map_of_no_refresh s (by rw [hmap]; rfl), hmap]

/-- After position 31 and no valid image the fresh state's commit is started (R166). -/
theorem ReadTaken.fresh {s x : State} (h : ReadTaken s x) :
    settle s (freshState x) = grantCommitFirst (closedEvent s (freshState x)) := by
  obtain ⟨harray, hjrnl, -⟩ := freshState_keeps x
  rw [settle_eq]
  refine arbitrate_of_reason ?_ ?_ ?_ ?_ ?_ <;> simp [harray, hjrnl, h.op, h.mode, h.scan, h.commit]

/-- What O6 says of the state after the fresh start (R166, R183). -/
theorem ReadTaken.freshStarted {s x : State} (h : ReadTaken s x) :
    let t := settle s (freshState x)
    t.jrnl.mode = .starting ∧ t.map.remap = [] ∧ t.map.retired = [] ∧ t.map.pendingLbns = [] ∧
      t.patrol.resume = 0 ∧ t.cond = (freshState x).cond ∧
      t.jrnl.commit = some { sequence := s.jrnl.lastStarted + 1, attempts := 1 } ∧
      ∃ i, i.sequence = s.jrnl.lastStarted + 1 ∧ i.remap = [] ∧ i.pendingLbns = [] ∧ i.resume = 0 ∧
        t.array.op = some (ringOp .programBlock .ringProgram s.jrnl.nextPos (.image i)) := by
  obtain ⟨-, hjrnl, hmap, hresume⟩ := freshState_keeps x
  obtain ⟨-, -, hclosed, -⟩ := closedEvent_keeps s (freshState x)
  intro t
  have hneeded : neededNow (closedEvent s (freshState x)) = s.jrnl.lastStarted + 1 := by
    rw [neededNow, hclosed, hjrnl, h.started]
  have hposition : (closedEvent s (freshState x)).jrnl.nextPos = s.jrnl.nextPos := by
    rw [hclosed, hjrnl, h.position]
  have hgrant : t = grantCommitFirst (closedEvent s (freshState x)) := h.fresh
  have hcommit : t.jrnl.commit = some { sequence := s.jrnl.lastStarted + 1, attempts := 1 } := by
    rw [hgrant, ← hneeded]
    rfl
  have hop : t.array.op = some (ringOp .programBlock .ringProgram s.jrnl.nextPos
      (.image (snapshot (closedEvent s (freshState x)) (s.jrnl.lastStarted + 1)))) := by
    rw [hgrant, ← hneeded, ← hposition]
    rfl
  refine ⟨?_, ?_, ?_, ?_, ?_, by simp [t], hcommit, _, rfl, ?_, ?_, ?_, hop⟩
  · simp [t, hjrnl, h.mode]
  · simp [t, hmap]
  · simp [t, hmap]
  · simp [t, hmap]
  · simp [t, hresume]
  · simp [snapshot, hmap]
  · simp [snapshot, hmap]
  · simp [snapshot, hresume]

theorem ringTaken_taken {s : State} (o : ArrayOp) (out : ReadOutcome) (hm : s.jrnl.mode = .starting)
    (hn : s.jrnl.commitNeeded = false) (hc : s.jrnl.commit = none) (hs : s.jrnl.scanNext = none) :
    ReadTaken s (ringTaken o out (idleUnit s)) := by
  obtain ⟨b, e⟩ := ringTaken_shape o out (idleUnit s)
  rw [e]
  exact ⟨rfl, hm, hn, hc, hs, rfl, rfl, rfl, rfl⟩

/-! ## START_UP -/

theorem exec_startUp {s : State} (hr : s.rstnLow = true) (ho : s.array.op = none) :
    exec .startUp s = .next { s with
      rstnLow := false
      jrnl := { mode := .starting, lastStarted := 0, lastDone := 0, nextPos := 0, commitNeeded := false, commit := none,
                imageBuffer := .nothing, candidate := none, scanNext := none }
      array := { s.array with op := some (ringOp .readBlock .ringRead 0 .none) } } := by
  change execStartUp s = _
  unfold execStartUp startScan
  rw [if_pos hr]
  refine congrArg Host.Outcome.next ((arbitrate_of_scan (p := 0) ?_ ?_ ?_).trans rfl)
  · exact ho
  · rfl
  · rfl

/-- What O6 says of the state after the load (R165, R183). -/
theorem ReadTaken.loaded {s x : State} (h : ReadTaken s x) (k : Candidate) (hk : k.position ≤ 31) :
    let t := settle s (loadImage k x)
    t.jrnl.mode = .ready ∧ t.jrnl.lastStarted = k.image.sequence ∧ t.jrnl.lastDone = k.image.sequence ∧
      t.jrnl.nextPos = (k.position + 1) % 32 ∧
      t.map = { remap := k.image.remap, retired := k.image.retired, pendingLbns := k.image.pendingLbns,
                overflow := 0, refresh := [] } ∧
      t.patrol.resume = k.image.resume ∧ t.attn.latched.getLsbD 7 = true := by
  intro t
  obtain ⟨hjrnl, hmap⟩ := h.loads k
  obtain ⟨-, hresume, hstart, -⟩ := loadImage_keeps k x
  have hj : t.jrnl = _ := hjrnl.trans (loadImage_jrnl k x)
  refine ⟨by rw [hj], by rw [hj], by rw [hj], by rw [hj, ← nextRing_eq hk], hmap, ?_, settle_keeps_bits _ _ _ hstart⟩
  simpa [t] using hresume

/-- What O6 says of the condition table after the load (R183). -/
theorem ReadTaken.loaded_cond {s x : State} (h : ReadTaken s x) (k : Candidate) :
    let t := settle s (loadImage k x)
    (∀ i : CondId, (t.cond[i]).loaded k.image i) ∧
      (t.cond[CondId.sparesRemaining]).raw = (freeSpares t).length ∧
      (t.cond[CondId.powerStarts]).raw = oneMore (k.image.raws.getD 9 0) ∧
      ∀ i : CondId, i ≠ CondId.powerStarts → i ≠ CondId.sparesRemaining → (t.cond[i]).raw =
        if i = CondId.pendingBlocks then k.image.pendingLbns.length else k.image.raws.getD (imageRawIds.idxOf i) 0 := by
  intro t
  have hcond : t.cond = (loadImage k x).cond := by simp [t]
  obtain ⟨-, hmap⟩ := h.loads k
  have hfree : freeSpares t = freeSpares (imageLoaded k x) := by
    have hm : t.map = (imageLoaded k x).map := hmap
    exact freeSpares_of_remapKept ⟨by rw [hm], by rw [hm]⟩
  rw [hcond, hfree]
  refine ⟨loadImage_cond_loaded k x, ?_, loadImage_powerStarts k x, fun i hi hspare => ?_⟩
  · rw [loadImage_raw (by decide), imageLoaded_raw, if_pos rfl]
  · rw [loadImage_raw hi, imageLoaded_raw, if_neg hspare]

/-- The places of the raw counts in an image, but for the starts (R150). -/
theorem imageRawIds_places :
    ∀ q ∈ [(CondId.correctedReads, 0), (CondId.retryRecoveries, 1), (CondId.uncorrectableReads, 2),
        (CondId.reallocations, 3), (CondId.programFailures, 4), (CondId.patrolPasses, 5), (CondId.refreshes, 6),
        (CondId.journalCommits, 7), (CondId.journalSkips, 8)],
      q.1 ≠ CondId.powerStarts ∧ q.1 ≠ CondId.sparesRemaining ∧ q.1 ≠ CondId.pendingBlocks ∧
        imageRawIds.idxOf q.1 = q.2 := by decide

/-- Settles O6: the candidate after a ring read is the best image (`ringTaken_candidate_best`), and the event closes with the
next position's read, with the candidate loaded, or with the fresh state's commit started (`ReadTaken`). -/
theorem startUpScan : Obligations.StartUpScan := by
  refine ⟨fun s hr ho => exec_startUp hr ho, ?_⟩
  intro p o out s ho hop hreq hpbn hp hm hneeded hcommit hscan hq found better best noImage
  have hring : o.pbn - 4064 = p := by omega
  have htaken := ringTaken_taken o out hm hneeded hcommit hscan
  have hbest : ∀ k, best k → (ringTaken o out (idleUnit s)).jrnl.candidate = some k := fun k hk =>
    ringTaken_candidate_best (s := idleUnit s) hring hk
  have hnone : noImage → (ringTaken o out (idleUnit s)).jrnl.candidate = none := fun ⟨hc, hno⟩ =>
    (ringTaken_candidate_kept (s := idleUnit s) fun i hi hb => nomatch hb.1.symm.trans (hno i hi)).trans hc
  have hexec := exec_ringRead ho hop hreq out
  have harray := (exec_ends hexec nofun nofun).contentKept.arrayKept
  rw [ringReadDone_eq, hring] at hexec harray
  refine ⟨fun hlt => ⟨_, hexec, ?_⟩, fun hlast k hk hpos => ⟨_, hexec, ?_⟩, fun hlast hno _ => ⟨_, hexec, ?_⟩⟩
  · rw [if_pos hlt] at harray ⊢
    obtain ⟨hmode, hread, hcand, hhealth⟩ := htaken.next (p + 1)
    exact ⟨hmode, hread, fun k hk => hcand.trans (hbest k hk), fun hno => hcand.trans (hnone hno), hhealth, harray⟩
  · rw [if_neg (by omega), endScan_of_candidate (hbest k hk)] at harray ⊢
    obtain ⟨hmode, hstarted, hdone, hnext, hmap, hresume, hstart⟩ := htaken.loaded k hpos
    obtain ⟨hcond, hspares, hpower, hraw⟩ := htaken.loaded_cond k
    refine ⟨hmode, hstarted, hdone, hnext, hmap, hresume, hstart, hcond, hspares, ?_, fun q hq => ?_, hpower, harray⟩
    · exact hraw _ (by decide) (by decide)
    · obtain ⟨hstarts, hspare, hpending, hplace⟩ := imageRawIds_places q hq
      rw [hraw _ hstarts hspare, if_neg hpending, hplace]
  · rw [if_neg (by omega), endScan_of_none (hnone hno)] at harray ⊢
    obtain ⟨hmode, hremap, hretired, hpending, hresume, hcond, hcommit', hprogram⟩ := htaken.freshStarted
    obtain ⟨hpower, hothers⟩ := freshState_cond (ringTaken o out (idleUnit s))
    rw [← hcond] at hpower hothers
    exact ⟨hmode, hremap, hretired, hpending, hresume, hpower, hothers, hcommit', hprogram, harray⟩

end Sys2Proof.Machine
end

section
/-! PROOFS. What the effects of an event do to the condition table, act by act (R169, R170, R171, R172, R173), and what holds
of the table after them. -/
namespace Sys2Proof.Machine

/-! ## A record -/

/-- The record of condition `i` is in order: its grade is that of its raw value, and 1 ≤ worst ≤ grade ≤ 100 (R172, R173). -/
structure Condition.Ok (i : CondId) (c : Condition) : Prop where
  worst_pos : 1 ≤ c.worst
  worst_le : c.worst ≤ c.grade
  grade_le : c.grade ≤ 100
  grade_eq : c.grade = gradeOf i c.raw

/-- The formulas stay within 1 to 100: conditions 5 and 6 while their raw values are bounded, the others always (R172). -/
theorem gradeOf_range {i : CondId} {raw : Nat} (hspares : i = CondId.sparesRemaining → raw ≤ 96)
    (hpending : i = CondId.pendingBlocks → raw ≤ 16) : 1 ≤ gradeOf i raw ∧ gradeOf i raw ≤ 100 := by
  have hs : i.val = 4 → raw ≤ 96 := fun h => hspares (Fin.ext h)
  have hp : i.val = 5 → raw ≤ 16 := fun h => hpending (Fin.ext h)
  unfold gradeOf
  split
  case h_5 h =>
    have := hs h
    omega
  case h_6 h =>
    have := hp h
    omega
  all_goals omega

theorem Condition.Ok.setRaw {i : CondId} {c : Condition} (h : c.Ok i) {v : Nat}
    (hv : 1 ≤ gradeOf i v ∧ gradeOf i v ≤ 100) : (c.setRaw i v).Ok i := by
  unfold Condition.setRaw
  split
  · exact h
  · obtain ⟨hpos, hle⟩ := hv
    exact ⟨Nat.le_min.2 ⟨h.worst_pos, hpos⟩, Nat.min_le_right .., hle, rfl⟩

theorem Condition.Ok.bump {i : CondId} {c : Condition} (h : c.Ok i) (hspares : i ≠ CondId.sparesRemaining)
    (hpending : i ≠ CondId.pendingBlocks) : (c.bump i).Ok i := by
  unfold Condition.bump
  split
  · exact h
  · exact h.setRaw (gradeOf_range (absurd · hspares) (absurd · hpending))

theorem bump_cond (s : State) (i j : CondId) : (s.bump i).cond[j] = if j = i then (s.cond[j]).bump j else s.cond[j] := by
  split
  · rename_i h
    rw [h, bump_cond_same]
  · rename_i h
    exact bump_cond_other s i j h

theorem setRaw_cond (s : State) (i j : CondId) (v : Nat) :
    (s.setRaw i v).cond[j] = if j = i then (s.cond[j]).setRaw j v else s.cond[j] := by
  split
  · rename_i h
    rw [h]
    exact setCond_same ..
  · rename_i h
    exact setRaw_cond_other s i j v h

theorem setPending_cond_eq (l : List Nat) (s : State) (j : CondId) :
    (setPending l s).cond[j] = if j = CondId.pendingBlocks then (s.cond[j]).setRaw j l.length else s.cond[j] :=
  setRaw_cond ..

theorem reportSpares_cond (s : State) (j : CondId) :
    (reportSpares s).cond[j] =
      if j = CondId.sparesRemaining then (s.cond[j]).setRaw j (freeSpares s).length else s.cond[j] :=
  setRaw_cond ..

/-! ## The acts -/

/-- What the Condition Monitor reads and holds is as before: the table, the map and the pending list that conditions 5 and 6
report, the scan candidate and HEALTH. -/
structure MonitorKept (s t : State) : Prop where
  cond : t.cond = s.cond
  pending : t.map.pendingLbns = s.map.pendingLbns
  remap : RemapKept s t
  candidate : t.jrnl.candidate = s.jrnl.candidate
  health : hasCause .health t = hasCause .health s

/-- An operation that leaves the table, the map, the candidate and the causes as they were. -/
theorem MonitorKept.of_eq {s t : State} (h : t.cond = s.cond ∧ t.map = s.map ∧ t.jrnl.candidate = s.jrnl.candidate ∧
    t.attn = s.attn) : MonitorKept s t := by
  obtain ⟨hc, hm, hj, ha⟩ := h
  exact ⟨hc, by rw [hm], ⟨by rw [hm], by rw [hm]⟩, hj, by rw [hasCause, ha, hasCause]⟩

/-- What the effects of an event can do to the table: an event is counted, the pending list is replaced and reported, the map
changes and its free spares are reported, or the thresholds are loaded. -/
inductive Monitored (s : State) : State → Prop
  | refl : Monitored s s
  | kept {x t : State} : Monitored s x → MonitorKept x t → Monitored s t
  | counted {x : State} (i : CondId) : i ≠ CondId.sparesRemaining → i ≠ CondId.pendingBlocks → Monitored s x →
      Monitored s (x.bump i)
  | listed {x : State} (l : List Nat) : l.length ≤ max 16 x.map.pendingLbns.length → Monitored s x →
      Monitored s (setPending l x)
  | mapped {x t : State} : Monitored s x → t.cond = x.cond → t.map.pendingLbns = x.map.pendingLbns →
      t.jrnl.candidate = x.jrnl.candidate → hasCause .health t = hasCause .health x → Monitored s (reportSpares t)
  | thresholds {x : State} : Monitored s x → Monitored s (loadThresholds x)

theorem Monitored.of_eq {s x t : State} (h : Monitored s x) (ht : t.cond = x.cond ∧ t.map = x.map ∧
    t.jrnl.candidate = x.jrnl.candidate ∧ t.attn = x.attn) : Monitored s t := h.kept (.of_eq ht)

/-! ## What holds after them -/

/-- No effect touches the scan candidate or HEALTH. -/
theorem Monitored.candidate_health {s t : State} (h : Monitored s t) :
    t.jrnl.candidate = s.jrnl.candidate ∧ hasCause .health t = hasCause .health s := by
  induction h with
  | refl => exact ⟨rfl, rfl⟩
  | kept _ hk ih =>
    obtain ⟨hc, hh⟩ := ih
    exact ⟨hk.candidate.trans hc, hk.health.trans hh⟩
  | counted | listed | thresholds => assumption
  | mapped _ _ _ hj hk ih =>
    obtain ⟨hc, hh⟩ := ih
    exact ⟨hj.trans hc, hk.trans hh⟩

/-- What a count, a report and a new threshold keep of a record holds of it after the effects. -/
theorem Monitored.record {s t : State} (h : Monitored s t) (i : CondId) {P : Condition → Prop} (hs : P (s.cond[i]))
    (hcount : i ≠ CondId.sparesRemaining → i ≠ CondId.pendingBlocks → ∀ c, P c → P (c.bump i))
    (hreport : i = CondId.sparesRemaining ∨ i = CondId.pendingBlocks → ∀ c v, P c → P (c.setRaw i v))
    (hthreshold : ∀ c n, P c → P { c with threshold := n }) : P (t.cond[i]) := by
  induction h with
  | refl => exact hs
  | kept _ hk ih => rwa [hk.cond]
  | counted j hspares hpending _ ih =>
    rw [bump_cond]
    split
    · rename_i hi
      exact hcount (hi ▸ hspares) (hi ▸ hpending) _ ih
    · exact ih
  | listed l _ _ ih =>
    rw [setPending_cond_eq]
    split
    · rename_i hi
      exact hreport (.inr hi) _ _ ih
    · exact ih
  | mapped _ hc _ _ _ ih =>
    rw [reportSpares_cond, hc]
    split
    · rename_i hi
      exact hreport (.inl hi) _ _ ih
    · exact ih
  | thresholds _ ih =>
    rw [loadThresholds_cond]
    exact hthreshold _ _ ih

/-- Condition 5 stays what it is if the map and its raw value do. -/
theorem SparesReported.of_raw {s t : State} (h : SparesReported s)
    (hraw : (t.cond[CondId.sparesRemaining]).raw = (s.cond[CondId.sparesRemaining]).raw) (hmap : RemapKept s t) :
    SparesReported t := by
  unfold SparesReported at *
  rw [hraw, h, freeSpares_of_remapKept hmap]

/-- Whatever changes the map reports its free spares (R101, R170). -/
theorem Monitored.sparesReported {s t : State} (h : Monitored s t) (hs : SparesReported s) : SparesReported t := by
  induction h with
  | refl => exact hs
  | kept _ hk ih => exact ih.of_raw (by rw [hk.cond]) hk.remap
  | counted i hi _ _ ih => exact ih.of_raw (by rw [bump_cond, if_neg hi.symm]) ⟨rfl, rfl⟩
  | listed l _ _ ih => exact ih.of_raw (by rw [setPending_cond _ _ _ (by decide)]) ⟨rfl, rfl⟩
  | mapped => exact reportSpares_reported _
  | thresholds _ ih => exact ih.of_raw (by rw [loadThresholds_cond]) ⟨rfl, rfl⟩

/-- Every record is in order, and condition 6 is the length of the pending list (R170, R172, R173). -/
structure TableOk (s : State) : Prop where
  records : ∀ i : CondId, (s.cond[i]).Ok i
  pending : (s.cond[CondId.pendingBlocks]).raw = s.map.pendingLbns.length

theorem conditionsOk_iff (s : State) : ConditionsOk s ↔ TableOk s ∧ SparesReported s := by
  constructor
  · rintro ⟨hrecords, hspares, hpending⟩
    refine ⟨⟨fun i => ?_, hpending⟩, hspares⟩
    obtain ⟨hpos, hle, hgrade, heq⟩ := hrecords i
    exact ⟨hpos, hle, hgrade, heq⟩
  · rintro ⟨⟨hrecords, hpending⟩, hspares⟩
    exact ⟨fun i => ⟨(hrecords i).worst_pos, (hrecords i).worst_le, (hrecords i).grade_le, (hrecords i).grade_eq⟩,
      hspares, hpending⟩

/-- Its grade bounds the pending list: at 17 LBNs condition 6 would have grade 0 (R172). -/
theorem TableOk.pending_le {s : State} (h : TableOk s) : s.map.pendingLbns.length ≤ 16 := by
  obtain ⟨hpos, hle, -, heq⟩ := h.records CondId.pendingBlocks
  have hgrade : (s.cond[CondId.pendingBlocks]).grade = 100 - 6 * s.map.pendingLbns.length := by
    rw [heq, h.pending]
    rfl
  omega

theorem freeSpares_length_le (s : State) : (freeSpares s).length ≤ 96 :=
  (List.length_filter_le ..).trans (by simp [spares])

theorem TableOk.congr {s t : State} (h : TableOk s) (hc : t.cond = s.cond)
    (hp : t.map.pendingLbns = s.map.pendingLbns) : TableOk t :=
  ⟨fun i => by rw [hc]; exact h.records i, by rw [hc, hp]; exact h.pending⟩

theorem TableOk.bump {s : State} (h : TableOk s) {i : CondId} (hspares : i ≠ CondId.sparesRemaining)
    (hpending : i ≠ CondId.pendingBlocks) : TableOk (s.bump i) := by
  refine ⟨fun j => ?_, ?_⟩
  · rw [bump_cond]
    split
    · rename_i hj
      exact (h.records j).bump (hj ▸ hspares) (hj ▸ hpending)
    · exact h.records j
  · rw [bump_cond, if_neg hpending.symm]
    exact h.pending

theorem TableOk.setPending {s : State} (h : TableOk s) {l : List Nat} (hl : l.length ≤ max 16 s.map.pendingLbns.length) :
    TableOk (setPending l s) := by
  have hbound := h.pending_le
  refine ⟨fun j => ?_, ?_⟩
  · rw [setPending_cond_eq]
    split
    · exact (h.records j).setRaw (gradeOf_range (fun hj => by omega) fun _ => by omega)
    · exact h.records j
  · rw [setPending_cond_eq, if_pos rfl, setRaw_raw]
    rfl

theorem TableOk.reportSpares {s : State} (h : TableOk s) : TableOk (reportSpares s) := by
  have hfree := freeSpares_length_le s
  refine ⟨fun j => ?_, ?_⟩
  · rw [reportSpares_cond]
    split
    · rename_i hj
      exact (h.records j).setRaw (gradeOf_range (fun _ => hfree) fun hp => absurd (hj.symm.trans hp) (by decide))
    · exact h.records j
  · rw [reportSpares_cond, if_neg (by decide)]
    exact h.pending

theorem TableOk.loadThresholds {s : State} (h : TableOk s) : TableOk (loadThresholds s) := by
  refine ⟨fun i => ?_, ?_⟩
  · rw [loadThresholds_cond]
    obtain ⟨hpos, hle, hgrade, heq⟩ := h.records i
    exact ⟨hpos, hle, hgrade, heq⟩
  · rw [loadThresholds_cond]
    exact h.pending

/-- Every act keeps the table in order. -/
theorem Monitored.tableOk {s t : State} (h : Monitored s t) (hs : TableOk s) : TableOk t := by
  induction h with
  | refl => exact hs
  | kept _ hk ih => exact ih.congr hk.cond hk.pending
  | counted i hspares hpending _ ih => exact ih.bump hspares hpending
  | listed l hl _ ih => exact ih.setPending hl
  | mapped _ hc hp _ _ ih => exact (ih.congr hc hp).reportSpares
  | thresholds _ ih => exact ih.loadThresholds

end Sys2Proof.Machine
end

section
/-! PROOFS. The effects of the completions on the condition table are acts of `Monitored` (R82, R83, R101, R104, R105, R118,
R142, R155, R156, R161). -/
namespace Sys2Proof.Machine

variable {s x : State}

/-! ## Causes other than HEALTH -/

theorem MonitorKept.refl (x : State) : MonitorKept x x := ⟨rfl, rfl, ⟨rfl, rfl⟩, rfl, rfl⟩

theorem MonitorKept.trans {s t u : State} (h : MonitorKept s t) (h' : MonitorKept t u) : MonitorKept s u :=
  ⟨h'.cond.trans h.cond, h'.pending.trans h.pending, ⟨h'.remap.1.trans h.remap.1, h'.remap.2.trans h.remap.2⟩,
    h'.candidate.trans h.candidate, h'.health.trans h.health⟩

/-- What the Monitor does not see may go before. -/
theorem MonitorKept.after {s t u : State} (h : MonitorKept t u) (ht : t.cond = s.cond ∧ t.map = s.map ∧
    t.jrnl.candidate = s.jrnl.candidate ∧ t.attn = s.attn) : MonitorKept s u := (MonitorKept.of_eq ht).trans h

theorem latch_kept {c : Cause} (hc : c ≠ .health) (x : State) : MonitorKept x (latch c x) := by
  refine ⟨rfl, rfl, ⟨rfl, rfl⟩, rfl, ?_⟩
  cases c with
  | health => exact absurd rfl hc
  | command | patrol | fault | port | cmdOverrun | start => simp [hasCause, latch_latched, Cause.mask, Cause.pos]

theorem completeCommand_kept (code : BitVec 8) (r : CmdResult) (x : State) : MonitorKept x (completeCommand code r x) := by
  have hlatch := latch_kept (c := .command) (by decide)
    { x with cmd := { x.cmd with running := none, result := r, resultCode := code } }
  exact hlatch.after ⟨rfl, rfl, rfl, rfl⟩

theorem setPatrolStatus_kept (st : PatrolStatus) (x : State) : MonitorKept x (setPatrolStatus st x) := by
  have hset : MonitorKept x { x with patrol := { x.patrol with status := st } } := .of_eq ⟨rfl, rfl, rfl, rfl⟩
  unfold setPatrolStatus
  dsimp only
  split
  · exact hset
  · exact hset.trans (latch_kept (by decide) _)

theorem failWaitingCommand_kept (x : State) : MonitorKept x (failWaitingCommand x) := by
  unfold failWaitingCommand
  split
  · exact .refl x
  · split
    · exact completeCommand_kept ..
    · exact .refl x

theorem releaseCommand_kept (q : Nat) (x : State) : MonitorKept x (releaseCommand q x) := by
  unfold releaseCommand
  split
  · exact .refl x
  · split
    · exact .refl x
    · split
      · exact completeCommand_kept ..
      · exact .refl x

theorem endStartUp_kept (x : State) : MonitorKept x (endStartUp x) :=
  (latch_kept (c := .start) (by decide) x).trans (.of_eq (by simp [endStartUp]))

theorem Monitored.foldl {α : Type} {g : State → α → State} (hg : ∀ x a, Monitored s x → Monitored s (g x a))
    (l : List α) (h : Monitored s x) : Monitored s (l.foldl g x) := by
  induction l generalizing x with
  | nil => exact h
  | cons a as ih => exact ih (hg x a h)

/-! ## The pending list -/

/-- A removal leaves the list no longer than it was (R121). -/
theorem Monitored.removePending (h : Monitored s x) (l : Nat) : Monitored s (removePending l x) := by
  unfold Machine.removePending
  split
  · exact h.listed _ ((List.length_erase_le ..).trans (Nat.le_max_right ..))
  · exact h

theorem Monitored.clearLists (h : Monitored s x) (l : Nat) : Monitored s (clearLists l x) :=
  (h.removePending l).kept ⟨rfl, rfl, ⟨rfl, rfl⟩, rfl, rfl⟩

/-- An offer appends only below 16 LBNs (R119). -/
theorem Monitored.offerPending (h : Monitored s x) (l : Nat) : Monitored s (offerPending l x) := by
  have hremoved : Monitored s (removeRefresh l x) := h.kept ⟨rfl, rfl, ⟨rfl, rfl⟩, rfl, rfl⟩
  unfold Machine.offerPending
  dsimp only
  split
  · exact hremoved
  · split
    · rename_i hlen
      refine hremoved.listed _ (le_max_of_le_left ?_)
      rw [List.length_append]
      exact hlen
    · exact hremoved.kept ⟨rfl, rfl, ⟨rfl, rfl⟩, rfl, rfl⟩

theorem Monitored.offerRefresh (h : Monitored s x) (l : Nat) : Monitored s (offerRefresh l x) :=
  h.kept ⟨by simp, by simp, ⟨by simp, by simp⟩, by simp, by simp [hasCause]⟩

theorem Monitored.handOff (h : Monitored s x) (l : Nat) (c : ReadClass) : Monitored s (handOff l c x) := by
  have hlists : Monitored s (handOffLists l c x) := by
    unfold handOffLists
    dsimp only
    split
    · split
      · exact (h.removePending l).offerRefresh l
      · exact h.removePending l
    · exact h.offerPending l
  cases c with
  | clean => exact hlists
  | corrected b => exact hlists.counted CondId.correctedReads (by decide) (by decide)
  | retryRecovered b => exact hlists.counted CondId.retryRecoveries (by decide) (by decide)
  | uncorrectable => exact hlists.counted CondId.uncorrectableReads (by decide) (by decide)

/-! ## Owed reallocations, and the change to READ_ONLY -/

theorem Monitored.endUnresolved (h : Monitored s x) (n : TagNo) (l : Nat) (st : Status) :
    Monitored s (endUnresolved n l st x) := (h.offerPending l).of_eq ⟨rfl, rfl, rfl, rfl⟩

theorem Monitored.exhaust (h : Monitored s x) (n : TagNo) (l : Nat) : Monitored s (exhaust n l x) := by
  refine (h.offerPending l).of_eq ?_
  unfold Machine.exhaust
  dsimp only
  split <;> exact ⟨rfl, rfl, rfl, rfl⟩

theorem Monitored.resolveOwedTag (h : Monitored s x) (n : TagNo) : Monitored s (resolveOwedTag x n) := by
  unfold Machine.resolveOwedTag
  dsimp only
  split
  · exact h
  · split
    · exact h
    · split
      · exact h.endUnresolved ..
      · split
        · exact h.endUnresolved ..
        · split
          · exact h.exhaust ..
          · exact h

theorem Monitored.resolveOwedRefresh (h : Monitored s x) : Monitored s (resolveOwedRefresh x) := by
  unfold Machine.resolveOwedRefresh
  split
  · exact h
  · rename_i b _
    split
    · have hgone : Monitored s { x with patrol := { x.patrol with refreshBlock := none } } := h.of_eq ⟨rfl, rfl, rfl, rfl⟩
      exact (hgone.offerPending b.lbn).of_eq ⟨rfl, rfl, rfl, rfl⟩
    · exact h

theorem Monitored.resolveOwed (h : Monitored s x) : Monitored s (resolveOwed x) :=
  (h.foldl (fun _ n hx => hx.resolveOwedTag n) x.req.queue).resolveOwedRefresh

theorem Monitored.readOnlyTag (h : Monitored s x) (n : TagNo) : Monitored s (readOnlyTag x n) := by
  unfold Machine.readOnlyTag
  dsimp only
  repeat' split
  case h_1.isTrue b _ _ => exact h.endUnresolved n b.lbn .writeProtected
  all_goals exact h.of_eq (by simp)

theorem Monitored.closeBgRead (h : Monitored s x) (r : BackgroundRead) (c : ReadClass) :
    Monitored s (closeBgRead r c x) := by
  have hdone : Monitored s { x with patrol := { x.patrol with bgRead := none } } := h.of_eq ⟨rfl, rfl, rfl, rfl⟩
  unfold Machine.closeBgRead
  dsimp only
  split
  · exact (hdone.handOff r.lbn c).of_eq ⟨rfl, rfl, rfl, rfl⟩
  · exact hdone.handOff r.lbn c

theorem Monitored.haltPatrol (h : Monitored s x) : Monitored s (haltPatrol x) := by
  have hscan : Monitored s (haltScan x) := by
    unfold haltScan
    split
    · exact h
    · exact h.kept ((setPatrolStatus_kept ..).after ⟨rfl, rfl, rfl, rfl⟩)
  have hwork : Monitored s (haltWork x) := Monitored.resolveOwedRefresh (hscan.of_eq ⟨rfl, rfl, rfl, rfl⟩)
  rcases haltPatrol_cases x with e | ⟨r, -, -, e⟩ <;> rw [e]
  · exact hwork
  · exact hwork.closeBgRead r .uncorrectable

theorem Monitored.becomeReadOnly (h : Monitored s x) : Monitored s (becomeReadOnly x) := by
  have hmode : Monitored s { x with jrnl := { x.jrnl with mode := .readOnly } } := h.of_eq ⟨rfl, rfl, rfl, rfl⟩
  have hfault := hmode.kept (latch_kept (c := .fault) (by decide) _)
  exact (hfault.foldl (fun _ n hx => hx.readOnlyTag n) x.req.queue).haltPatrol.kept (failWaitingCommand_kept _)

theorem Monitored.checkSequence (h : Monitored s x) : Monitored s (checkSequence x) := by
  unfold Machine.checkSequence
  split
  · exact h.becomeReadOnly
  · exact h

/-! ## Reads -/

/-- To the table a tag's read does what its hand-offs do. -/
theorem tagReadFinal_kept (n : TagNo) (o : ArrayOp) (l : Nat) (c : ReadClass) (x : State) :
    MonitorKept (handOff l c x) (tagReadFinal n o l c x) := by
  refine .of_eq ?_
  unfold tagReadFinal readTagFinal endRead
  dsimp only
  (repeat' split) <;> simp

theorem Monitored.tagReadDone (h : Monitored s x) (n : TagNo) (o : ArrayOp) (out : ReadOutcome) :
    Monitored s (tagReadDone n o out x) := by
  unfold Machine.tagReadDone
  dsimp only
  split
  · exact h
  · rename_i c _
    split
    · exact h.of_eq ⟨rfl, rfl, rfl, rfl⟩
    · exact (h.handOff c.lbn _).kept (tagReadFinal_kept ..)

theorem startGap_kept (x : State) : MonitorKept x (startGap x) := by
  unfold startGap
  split
  · exact (setPatrolStatus_kept ..).after ⟨rfl, rfl, rfl, rfl⟩
  · exact .of_eq ⟨rfl, rfl, rfl, rfl⟩

theorem Monitored.testEnds (h : Monitored s x) (l : Nat) : Monitored s (testEnds l x) := by
  have hreason : Monitored s (commitReason (x.bump CondId.patrolPasses)) :=
    (h.counted CondId.patrolPasses (by decide) (by decide)).of_eq ⟨rfl, rfl, rfl, rfl⟩
  have hpass : Monitored s (passEnd x) := hreason.kept (setPatrolStatus_kept .passDone _)
  have hidle : Monitored s (patrolIdle x) := h.of_eq ⟨rfl, rfl, rfl, rfl⟩
  unfold Machine.testEnds
  split
  · split
    · exact h
    · split
      · exact hidle.kept (setPatrolStatus_kept .segmentDone _)
      · exact h
    · split
      · exact Monitored.checkSequence (hpass.of_eq ⟨rfl, rfl, rfl, rfl⟩)
      · exact h
    · split
      · exact (hpass.kept (startGap_kept _)).checkSequence
      · exact h
  · exact h

theorem Monitored.patrolReadDone (h : Monitored s x) (o : ArrayOp) (out : ReadOutcome) :
    Monitored s (patrolReadDone o out x) := by
  unfold Machine.patrolReadDone
  dsimp only
  split
  · exact h
  · rename_i r _
    split
    · exact h.of_eq ⟨rfl, rfl, rfl, rfl⟩
    · have hclose := h.closeBgRead r (classify (decide (0 < r.retries)) out)
      have hkeep : Monitored s (if keepsWords x r (classify (decide (0 < r.retries)) out) then
            fillBuffer r.lbn o.pbn (Machine.closeBgRead r (classify (decide (0 < r.retries)) out) x)
          else Machine.closeBgRead r (classify (decide (0 < r.retries)) out) x) := by
        split
        · exact hclose.of_eq (by simp [fillBuffer_eq])
        · exact hclose
      split
      · exact hkeep.testEnds r.lbn
      · exact hkeep

theorem Monitored.orphanReadDone (h : Monitored s x) (o : ArrayOp) (out : ReadOutcome) :
    Monitored s (orphanReadDone o out x) := by
  unfold Machine.orphanReadDone
  split
  · exact h
  · rename_i l _
    exact (h.handOff l (classify (o.purpose == .retry) out)).of_eq (by simp)

/-! ## Programs -/

theorem Monitored.tagBlockPasses (h : Monitored s x) (n : TagNo) (r : Bool) : Monitored s (tagBlockPasses n r x) := by
  cases hb : (x.tag n).prog with
  | none =>
    unfold Machine.tagBlockPasses
    rwa [hb]
  | some b =>
    have hpassed : Monitored s (blockPassed n b r x) := h.of_eq (by simp [blockPassed])
    rw [tagBlockPasses_eq hb]
    rcases afterPass_cases n (blockPassed n b r x) with ⟨st, e⟩ | e | e <;> rw [e]
    · exact hpassed.of_eq ⟨rfl, rfl, rfl, rfl⟩
    · exact hpassed.of_eq ⟨rfl, rfl, rfl, rfl⟩
    · exact hpassed

theorem Monitored.tagOwes (h : Monitored s x) (n : TagNo) : Monitored s (tagOwes n x) :=
  Monitored.resolveOwed (x := x.modTag n Tag.owing) (h.of_eq ⟨rfl, rfl, rfl, rfl⟩)

theorem Monitored.refreshOwes (h : Monitored s x) : Monitored s (refreshOwes x) :=
  Monitored.resolveOwed (x := { x with patrol := x.patrol.owing }) (h.of_eq ⟨rfl, rfl, rfl, rfl⟩)

theorem Monitored.programFailed (h : Monitored s x) : Monitored s (x.bump CondId.programFailures) :=
  h.counted _ (by decide) (by decide)

/-- A reallocation's PASS is counted, and its change of the map reported (R101, R104). -/
theorem Monitored.remapped (h : Monitored s x) {y : State} (l p : Nat) (hc : y.cond = x.cond)
    (hm : y.map = (remapTo l p x).map) (hj : y.jrnl.candidate = x.jrnl.candidate) (ha : y.attn = x.attn) :
    Monitored s (reportSpares (y.bump CondId.reallocations)) := by
  refine (h.counted CondId.reallocations (by decide) (by decide)).mapped ?_ ?_ hj ?_
  · simp [State.bump, State.setCond, hc]
  · simp [hm]
  · simp [hasCause, ha]

/-- A reallocation's FAIL is counted, and its spare retired (R101, R105). -/
theorem Monitored.spareLost (h : Monitored s x) (p : Nat) :
    Monitored s (reportSpares (retire p (x.bump CondId.programFailures))) :=
  h.programFailed.mapped rfl rfl rfl rfl

theorem Monitored.tagProgramDone (h : Monitored s x) (n : TagNo) (l pbn : Nat) (r : Bool) (out : ProgramOutcome) :
    Monitored s (tagProgramDone n l pbn r out x) := by
  cases out <;> cases r
  case pass.false => exact ((h.clearLists l).of_eq (by simp)).tagBlockPasses n false
  case fail.false => exact (h.programFailed.of_eq (by simp)).tagOwes n
  case pass.true =>
    have hmapped := h.remapped (y := commitReasonFor n (remapTo l pbn x)) l pbn (by simp) (by simp) (by simp) (by simp)
    exact (((hmapped.clearLists l).of_eq (by simp)).tagBlockPasses n true).resolveOwed.checkSequence
  case fail.true => exact (((h.spareLost pbn).of_eq (by simp)).tagOwes n).checkSequence

theorem Monitored.remapped_reason (h : Monitored s x) (l p : Nat) :
    Monitored s (Machine.clearLists l (reportSpares ((commitReason (remapTo l p x)).bump CondId.reallocations))) :=
  (h.remapped (y := commitReason (remapTo l p x)) l p (by simp) (by simp) (by simp) (by simp)).clearLists l

theorem Monitored.refreshDone (h : Monitored s x) (l pbn : Nat) (r : Bool) (out : ProgramOutcome) :
    Monitored s (refreshDone l pbn r out x) := by
  cases out <;> cases r
  case pass.false =>
    exact ((h.clearLists l).counted CondId.refreshes (by decide) (by decide)).of_eq ⟨rfl, rfl, rfl, rfl⟩
  case fail.false => exact h.programFailed.refreshOwes
  case pass.true =>
    exact Monitored.checkSequence (Monitored.resolveOwed ((h.remapped_reason l pbn).of_eq ⟨rfl, rfl, rfl, rfl⟩))
  case fail.true => exact Monitored.checkSequence (Monitored.refreshOwes ((h.spareLost pbn).of_eq ⟨rfl, rfl, rfl, rfl⟩))

theorem Monitored.orphanProgramDone (h : Monitored s x) (l pbn : Nat) (r : Bool) (d : DataPlace) (out : ProgramOutcome) :
    Monitored s (orphanProgramDone l pbn r d out x) := by
  cases out <;> cases r
  case pass.false => exact (h.clearLists l).of_eq (by simp [Machine.orphanProgramDone])
  case fail.false =>
    have hcancelled : Monitored s (cancelPatrol l (x.bump CondId.programFailures)) := h.programFailed.of_eq (by simp)
    exact (hcancelled.offerPending l).of_eq (by simp [Machine.orphanProgramDone])
  case pass.true =>
    exact Monitored.checkSequence (Monitored.resolveOwed ((h.remapped_reason l pbn).of_eq (by simp)))
  case fail.true =>
    have hlost : Monitored s (cancelPatrol l (commitReason (reportSpares (retire pbn (x.bump CondId.programFailures))))) :=
      (h.spareLost pbn).of_eq (by simp)
    exact Monitored.checkSequence (Monitored.resolveOwed ((hlost.offerPending l).of_eq (by simp)))

theorem Monitored.patrolProgramDone (h : Monitored s x) (l pbn : Nat) (r : Bool) (out : ProgramOutcome) :
    Monitored s (patrolProgramDone l pbn r out x) := by
  unfold Machine.patrolProgramDone
  split
  · exact h.refreshDone ..
  · dsimp only
    split
    · exact (h.orphanProgramDone ..).counted CondId.refreshes (by decide) (by decide)
    · exact h.orphanProgramDone ..

/-! ## Commit attempts -/

theorem releaseWaiter_kept (q : Nat) (x : State) (n : TagNo) : MonitorKept x (releaseWaiter q x n) := by
  refine .of_eq ?_
  unfold releaseWaiter
  split <;> simp

theorem Monitored.commitPass (h : Monitored s x) : Monitored s (commitPass x) := by
  cases hc : x.jrnl.commit with
  | none =>
    unfold Machine.commitPass
    rwa [hc]
  | some c =>
    have hpassed : Monitored s { x with jrnl := x.jrnl.passed c } := h.of_eq ⟨rfl, rfl, rfl, rfl⟩
    have hreleased : Monitored s (commitReleased c x) :=
      ((hpassed.counted CondId.journalCommits (by decide) (by decide)).foldl
        (fun _ n hx => hx.kept (releaseWaiter_kept c.sequence _ n)) x.req.queue).kept (releaseCommand_kept c.sequence _)
    rw [commitPass_eq hc]
    split
    · exact hreleased.kept (endStartUp_kept _)
    · exact hreleased

theorem Monitored.commitFail (h : Monitored s x) : Monitored s (commitFail x) := by
  cases hc : x.jrnl.commit with
  | none =>
    unfold Machine.commitFail
    rwa [hc]
  | some c =>
    have hskipped : Monitored s (commitSkipped x) :=
      Monitored.counted CondId.journalSkips (by decide) (by decide) (h.of_eq ⟨rfl, rfl, rfl, rfl⟩)
    have hdropped : Monitored s (commitDropped x) := hskipped.of_eq ⟨rfl, rfl, rfl, rfl⟩
    rw [commitFail_eq hc]
    split
    · exact hdropped
    · split
      · exact hskipped
      · split
        · exact hdropped.becomeReadOnly.kept (endStartUp_kept _)
        · exact hdropped.becomeReadOnly

theorem Monitored.programDone (h : Monitored s x) (o : ArrayOp) (out : ProgramOutcome) :
    Monitored s (programDone o out x) := by
  unfold Machine.programDone
  dsimp only
  split
  · exact h.tagProgramDone ..
  · exact h.patrolProgramDone ..
  · split
    · exact h.commitPass
    · exact h.commitFail
  · exact h.orphanProgramDone ..

end Sys2Proof.Machine
end

section
/-! PROOFS. How every command ends for the Condition Monitor: its effects and the close of the event; a ring read of the scan;
the loss of power; or nothing that the table sees (R164, R170, R176, R199). -/
namespace Sys2Proof.Machine

/-! ## The four ends -/

/-- The table and what it reports are as before; no invalid image becomes the candidate, and HEALTH is not latched. -/
structure MonitorUnmoved (s t : State) : Prop where
  cond : t.cond = s.cond
  pending : t.map.pendingLbns = s.map.pendingLbns
  remap : RemapKept s t
  candidate : CandidateOk s → CandidateOk t
  health : hasCause .health t = true → hasCause .health s = true

/-- How a command ends, as the Condition Monitor sees it. -/
inductive MonitorEnd (c : Instr) (s : State) : State → Prop
  | settled {x : State} : Monitored s x → MonitorEnd c s (settle s x)
  | unmoved {t : State} : MonitorUnmoved s t → MonitorEnd c s t
  | scanned {o : ArrayOp} (out : ReadOutcome) : s.array.op = some o → o.operation = .readBlock → o.requester = .journal →
      MonitorEnd c s (settle s (ringReadDone o out (idleUnit s)))
  | powerLost : c = .powerOnReset → MonitorEnd c s (powerLost s)

variable {c : Instr} {s : State}

theorem MonitorEnd.kept {t : State} (h : MonitorKept s t) : MonitorEnd c s t :=
  .unmoved ⟨h.cond, h.pending, h.remap, (·.congr h.candidate), fun hh => h.health ▸ hh⟩

theorem MonitorEnd.refl : MonitorEnd c s s := .kept (.refl s)

theorem MonitorEnd.of_eq {t : State} (h : t.cond = s.cond ∧ t.map = s.map ∧ t.jrnl.candidate = s.jrnl.candidate ∧
    t.attn = s.attn) : MonitorEnd c s t := .kept (.of_eq h)

theorem arbitrate_kept (x : State) : MonitorKept x (arbitrate x) :=
  ⟨by simp, by simp, ⟨by simp, by simp⟩, by simp, by simp [hasCause]⟩

theorem MonitorEnd.arbitrate {x : State} (h : MonitorKept s x) : MonitorEnd c s (arbitrate x) :=
  .kept (h.trans (arbitrate_kept x))

/-! ## Requests, port and service list -/

theorem submit_monitorEnd (v : Word) : MonitorEnd c s (submit v s) := by
  unfold submit
  split
  · exact .of_eq ⟨rfl, rfl, rfl, rfl⟩
  · refine .settled (Monitored.refl.of_eq ?_)
    simp [accept_eq, setQResult, enqueued, numbered, endQuiet, apply_ite State.map, apply_ite State.jrnl,
      apply_ite State.cond, apply_ite State.attn, renumber]

theorem Monitored.abortTag {x : State} (h : Monitored s x) (n : TagNo) : Monitored s (abortTag x n) := by
  unfold Machine.abortTag
  dsimp only
  split
  case h_3 | h_4 => exact h.of_eq (by simp)
  case h_5 | h_6 =>
    split
    · split
      · exact h
      · exact h.of_eq (by simp)
    · split
      · rename_i c _
        exact (h.handOff c.lbn .uncorrectable).of_eq (by simp)
      · exact h.endUnresolved ..
      · exact h.of_eq (by simp)
  all_goals exact h

theorem Monitored.abortOne {x : State} (h : Monitored s x) (n : TagNo) : Monitored s (abortOne n x) := by
  unfold Machine.abortOne
  dsimp only
  split
  case h_1 => exact h.of_eq ⟨rfl, rfl, rfl, rfl⟩
  case h_2 => exact h
  all_goals
    split
    · exact h
    · exact (h.abortTag n).of_eq ⟨rfl, rfl, rfl, rfl⟩

theorem Monitored.abortEvery {x : State} (h : Monitored s x) : Monitored s (abortEvery x) := by
  have hall := h.foldl (fun _ n hx => hx.abortTag n) x.req.queue
  unfold Machine.abortEvery
  dsimp only
  split
  · exact h.of_eq ⟨rfl, rfl, rfl, rfl⟩
  · split
    · exact hall.of_eq ⟨rfl, rfl, rfl, rfl⟩
    · exact hall

theorem requestAbort_monitorEnd (v : Word) : MonitorEnd c s (requestAbort v s) := by
  have hreg : Monitored s { s with req := { s.req with qabort := v } } := Monitored.refl.of_eq ⟨rfl, rfl, rfl, rfl⟩
  unfold requestAbort
  dsimp only
  refine .settled ?_
  split
  · exact hreg.abortEvery
  · split
    · exact hreg.abortOne _
    · exact hreg.of_eq ⟨rfl, rfl, rfl, rfl⟩

theorem portMiss_kept (s : State) : MonitorKept s (portMiss s) :=
  (latch_kept (c := .port) (by decide) { s with port := { s.port with miss := true } }).after ⟨rfl, rfl, rfl, rfl⟩

theorem readPort_monitorEnd : MonitorEnd c s (readPort s) := by
  unfold readPort
  split
  · exact .kept ((portMiss_kept s).trans (.of_eq ⟨rfl, rfl, rfl, rfl⟩))
  · dsimp only
    split
    · exact .of_eq ⟨rfl, rfl, rfl, rfl⟩
    · refine .settled (Monitored.refl.of_eq ?_)
      unfold deliver
      dsimp only
      split <;> exact ⟨rfl, rfl, rfl, rfl⟩

theorem writePort_monitorEnd (v : Word) : MonitorEnd c s (writePort v s) := by
  unfold writePort
  split
  · exact .kept (portMiss_kept s)
  · dsimp only
    split
    · exact .of_eq ⟨rfl, rfl, rfl, rfl⟩
    · exact .settled (Monitored.refl.of_eq ⟨rfl, rfl, rfl, rfl⟩)

theorem pop_monitorEnd : MonitorEnd c s (pop s) := by
  unfold pop
  dsimp only
  split <;> exact .of_eq ⟨rfl, rfl, rfl, rfl⟩

/-! ## The Command Unit -/

theorem requestCommand_monitorEnd (k : Command) {take : State → State} (h : MonitorEnd c s (take s)) :
    MonitorEnd c s (requestCommand k take s) := by
  unfold requestCommand
  split
  · exact .kept (latch_kept (by decide) s)
  · split
    · exact .kept (completeCommand_kept ..)
    · split
      · exact .kept (completeCommand_kept ..)
      · exact h

theorem beginPatrol_kept (m : PatrolMode) (s : State) : MonitorKept s (beginPatrol m s) :=
  (setPatrolStatus_kept ..).after ⟨rfl, rfl, rfl, rfl⟩

theorem startPatrol_kept (m : PatrolMode) (s : State) : MonitorKept s (startPatrol m s) := by
  unfold startPatrol
  split
  · exact beginPatrol_kept m s
  · exact .of_eq ⟨rfl, rfl, rfl, rfl⟩
  · exact .of_eq ⟨rfl, rfl, rfl, rfl⟩
  · split
    · exact .refl s
    all_goals exact beginPatrol_kept _ s

theorem stopPatrol_kept (s : State) : MonitorKept s (stopPatrol s) := by
  unfold stopPatrol
  split
  · exact .refl s
  all_goals exact (setPatrolStatus_kept ..).after ⟨rfl, rfl, rfl, rfl⟩

theorem takeStart_monitorEnd (k : Command) (m : PatrolMode) : MonitorEnd c s (takeStart k m s) :=
  .arbitrate ((startPatrol_kept m s).trans (completeCommand_kept ..))

theorem requestStop_monitorEnd : MonitorEnd c s (requestStop s) :=
  requestCommand_monitorEnd _ (.kept ((stopPatrol_kept s).trans (completeCommand_kept ..)))

theorem requestReport_monitorEnd : MonitorEnd c s (requestReport s) :=
  requestCommand_monitorEnd _ (.of_eq ⟨rfl, rfl, rfl, rfl⟩)

theorem Monitored.waitForCommit {x : State} (h : Monitored s x) (r : Nat → Running) : Monitored s (waitForCommit r x) :=
  Monitored.checkSequence (h.of_eq ⟨rfl, rfl, rfl, rfl⟩)

theorem requestThresholds_monitorEnd : MonitorEnd c s (requestThresholds s) := by
  refine requestCommand_monitorEnd _ ?_
  unfold takeThresholds
  split
  · exact .settled (Monitored.refl.thresholds.waitForCommit _)
  · exact .kept (completeCommand_kept ..)

theorem requestSave_monitorEnd : MonitorEnd c s (requestSave s) :=
  requestCommand_monitorEnd _ (.settled (Monitored.refl.waitForCommit _))

theorem writeCmd_monitorEnd (v : Word) : MonitorEnd c s (writeCmd v s) := by
  unfold writeCmd
  cases commandOf (lowByte v) with
  | none =>
    unfold refuseCode
    dsimp only
    split
    · exact .kept (latch_kept (by decide) s)
    · exact .kept (completeCommand_kept ..)
  | some k =>
    cases k with
    | patrolSegment | patrolPass | patrolAuto => exact requestCommand_monitorEnd _ (takeStart_monitorEnd ..)
    | patrolStop => exact requestStop_monitorEnd
    | reportBuild => exact requestReport_monitorEnd
    | thresholdLoad => exact requestThresholds_monitorEnd
    | conditionSave => exact requestSave_monitorEnd

theorem readReport_monitorEnd : MonitorEnd c s (readReport s) := by
  unfold readReport
  split <;> exact .of_eq ⟨rfl, rfl, rfl, rfl⟩

theorem writeReport_monitorEnd (v : Word) : MonitorEnd c s (writeReport v s) := by
  unfold writeReport
  split <;> exact .of_eq ⟨rfl, rfl, rfl, rfl⟩

/-! ## Registers and resets -/

/-- ACAUSE clears causes and latches none (R195). -/
theorem clearCauses_monitorEnd (v : Word) : MonitorEnd c s (clearCauses v s) :=
  .unmoved ⟨rfl, rfl, ⟨rfl, rfl⟩, id, fun h => by
    simp only [clearCauses, hasCause, BitVec.getLsbD_and, Bool.and_eq_true] at h
    exact h.1⟩

theorem writeCfga_monitorEnd (v : Word) : MonitorEnd c s (writeCfga v s) := by
  unfold writeCfga
  dsimp only
  split
  · exact .of_eq ⟨rfl, rfl, rfl, rfl⟩
  · exact .arbitrate ⟨by simp, by simp, ⟨by simp, by simp⟩, by simp, by simp [hasCause]⟩

/-- A soft reset leaves the health data and clears every latched cause (R198). -/
theorem softReset_monitorEnd : MonitorEnd c s (softReset s) := by
  unfold softReset
  split
  · exact .refl
  · have hstart : MonitorKept (resetBlocks s) (arbitrate (startQuiet (resetBlocks s))) :=
      (MonitorKept.of_eq (by simp)).trans (arbitrate_kept _)
    refine .unmoved ⟨hstart.cond, hstart.pending, hstart.remap, (CandidateOk.congr · hstart.candidate), fun h => ?_⟩
    rw [hstart.health] at h
    simp [resetBlocks, hasCause] at h

theorem writeRegister_monitorEnd (a : RegAddr) (v : Word) : MonitorEnd c s (writeRegister a v s) := by
  unfold writeRegister
  split
  case h_1 => exact clearCauses_monitorEnd v
  case h_5 => exact submit_monitorEnd v
  case h_7 => exact writePort_monitorEnd v
  case h_8 => exact requestAbort_monitorEnd v
  case h_9 => exact writeCmd_monitorEnd v
  case h_11 => exact writeReport_monitorEnd v
  case h_12 => exact writeCfga_monitorEnd v
  case h_15 =>
    split
    · exact softReset_monitorEnd
    · exact .refl
  all_goals exact .kept ⟨rfl, rfl, ⟨rfl, rfl⟩, rfl, rfl⟩

/-- The scan begins with no candidate (R163). -/
theorem startScan_monitorEnd : MonitorEnd c s (startScan s) :=
  .unmoved ⟨by simp [startScan], by simp [startScan], ⟨by simp [startScan], by simp [startScan]⟩,
    fun _ => by simp [startScan, CandidateOk], by simp [startScan, hasCause]⟩

/-! ## Every command -/

theorem busAccess_monitorEnd {t : State} {f : State → State} (h : MonitorEnd c s (f s)) (ht : busAccess s f = .next t) :
    MonitorEnd c s t := by
  cases hr : s.rstnLow with
  | true =>
    rw [busAccess_low s f hr] at ht
    cases next_inj ht
    exact .refl
  | false =>
    rw [busAccess_high s f hr] at ht
    cases next_inj ht
    exact h

/-- The read's requester decides: a ring read's end is the scan's, any other's is an effect (R67). -/
theorem readDone_monitorEnd {o : ArrayOp} (out : ReadOutcome) (ho : s.array.op = some o) (hop : o.operation = .readBlock) :
    MonitorEnd c s (settle s (readDone o out (idleUnit s))) := by
  have hidle : Monitored s (idleUnit s) := Monitored.refl.of_eq ⟨rfl, rfl, rfl, rfl⟩
  unfold readDone
  split
  · exact .settled (hidle.tagReadDone ..)
  · exact .settled (hidle.patrolReadDone ..)
  · rename_i hr
    exact .scanned out ho hop hr
  · exact .settled (hidle.orphanReadDone ..)

theorem exec_monitorEnd {t : State} (ht : exec c s = .next t) : MonitorEnd c s t := by
  cases c with
  | submission v => exact busAccess_monitorEnd (submit_monitorEnd v) ht
  | abortRequest v => exact busAccess_monitorEnd (requestAbort_monitorEnd v) ht
  | ptagWrite | aenableWrite | cfgbWrite => exact busAccess_monitorEnd (.kept ⟨rfl, rfl, ⟨rfl, rfl⟩, rfl, rfl⟩) ht
  | pdataRead => exact busAccess_monitorEnd readPort_monitorEnd ht
  | pdataWrite v => exact busAccess_monitorEnd (writePort_monitorEnd v) ht
  | svcnextPop => exact busAccess_monitorEnd pop_monitorEnd ht
  | patrolSegment | patrolPass | patrolAuto =>
    exact busAccess_monitorEnd (requestCommand_monitorEnd _ (takeStart_monitorEnd ..)) ht
  | patrolStop => exact busAccess_monitorEnd requestStop_monitorEnd ht
  | reportBuild => exact busAccess_monitorEnd requestReport_monitorEnd ht
  | reportBuildCompletion =>
    cases next_inj ht
    split
    · exact .kept ((completeCommand_kept ..).after ⟨rfl, rfl, rfl, rfl⟩)
    all_goals exact .refl
  | thresholdLoad => exact busAccess_monitorEnd requestThresholds_monitorEnd ht
  | conditionSave => exact busAccess_monitorEnd requestSave_monitorEnd ht
  | badCommand v => exact busAccess_monitorEnd (writeCmd_monitorEnd v) ht
  | rdataRead => exact busAccess_monitorEnd readReport_monitorEnd ht
  | rdataWrite v => exact busAccess_monitorEnd (writeReport_monitorEnd v) ht
  | acauseWrite v => exact busAccess_monitorEnd (clearCauses_monitorEnd v) ht
  | cfgaWrite v => exact busAccess_monitorEnd (writeCfga_monitorEnd v) ht
  | registerWrite a v => exact busAccess_monitorEnd (writeRegister_monitorEnd a v) ht
  | softReset => exact busAccess_monitorEnd softReset_monitorEnd ht
  | powerOnReset =>
    rw [exec_powerOnReset] at ht
    cases next_inj ht
    exact .powerLost rfl
  | startUp =>
    cases next_inj ht
    split
    · exact startScan_monitorEnd
    · exact .refl
  | readBlockCompletion out =>
    cases next_inj ht
    split
    · rename_i o ho
      split
      · rename_i hop
        exact readDone_monitorEnd out ho hop
      · exact .refl
    · exact .refl
  | programBlockCompletion out =>
    cases next_inj ht
    split
    · rename_i o _
      split
      · have hprog : Monitored s (programmed o out s) := Monitored.refl.of_eq ⟨rfl, rfl, rfl, rfl⟩
        exact .settled (hprog.programDone o out)
      · exact .refl
    · exact .refl
  | quietTimerExpiry =>
    cases next_inj ht
    split
    · exact .arbitrate (.of_eq (by simp))
    · exact .refl
  | gapTimerExpiry =>
    cases next_inj ht
    split
    · exact .arbitrate ((setPatrolStatus_kept ..).after ⟨rfl, rfl, rfl, rfl⟩)
    · exact .refl

end Sys2Proof.Machine
end

section
/-! PROOFS. O50, O51, O55: the condition table after the scan and after a loss of power, and what every command keeps of it
(R165, R166, R169 to R173, R183, R199). -/
namespace Sys2Proof.Machine

/-! ## A table set anew -/

/-- The table is set as a whole, from an image or to its power-on values, and what it reports with it. -/
structure TableSet (s y : State) : Prop where
  graded : ∀ i : CondId, (y.cond[i]).grade = gradeOf i (y.cond[i]).raw
  table : CandidateOk s → TableOk y
  spares : SparesReported y
  candidate : CandidateOk y
  health : hasCause .health y = true → hasCause .health s = true

/-- What the tests of R151 say of the worst grades that an image holds. -/
theorem fieldsValid_worst {i : StateImage} (h : fieldsValid i = true) (k : Nat) :
    1 ≤ i.worst.getD k 100 := by
  simp only [fieldsValid, listsValid, Bool.and_eq_true, decide_eq_true_eq, List.all_eq_true] at h
  obtain ⟨-, ⟨-, hworst⟩, -⟩ := h
  by_cases hk : k < i.worst.length
  · obtain ⟨hpos, -⟩ := hworst _ (List.getElem_mem hk)
    rwa [List.getD_eq_getElem _ _ hk]
  · rw [List.getD_eq_default _ _ (Nat.not_lt.1 hk)]
    decide

theorem imageLoaded_graded (k : Candidate) (s : State) (i : CondId) :
    ((imageLoaded k s).cond[i]).grade = gradeOf i ((imageLoaded k s).cond[i]).raw := by
  obtain ⟨-, hgrade, -⟩ := imageLoaded_cond k s i
  exact hgrade

/-- The image of a candidate that has passed the tests sets a table in order (R151, R183). -/
theorem imageLoaded_set {k : Candidate} {s : State} (hk : s.jrnl.candidate = some k) : TableSet s (imageLoaded k s) := by
  have hraw := imageLoaded_raw k s
  refine ⟨imageLoaded_graded k s, fun hs => ?_, ?_, nofun, id⟩
  · have hvalid := hs k hk
    obtain ⟨-, hlen, -⟩ := fieldsValid_map hvalid
    have hfree := freeSpares_length_le (imageLoaded k s)
    refine ⟨fun i => ?_, by rw [hraw]; rfl⟩
    have hgrade := imageLoaded_graded k s i
    obtain ⟨-, -, hworst⟩ := imageLoaded_cond k s i
    have hrange : 1 ≤ gradeOf i ((imageLoaded k s).cond[i]).raw ∧ gradeOf i ((imageLoaded k s).cond[i]).raw ≤ 100 := by
      refine gradeOf_range (fun hi => ?_) fun hi => ?_
      · rw [hraw, if_pos hi]
        exact hfree
      · rw [hraw, if_neg (by rw [hi]; decide), if_pos hi]
        exact hlen
    rw [← hgrade] at hrange
    obtain ⟨hpos, hle⟩ := hrange
    exact ⟨hworst ▸ Nat.le_min.2 ⟨fieldsValid_worst hvalid _, hpos⟩, hworst ▸ Nat.min_le_right .., hle, hgrade⟩
  · unfold SparesReported
    rw [hraw, if_pos rfl]

/-- The power-on table reports 96 free spares and no pending LBN (R183). -/
theorem powerOn_set {s y : State} (hc : y.cond = powerOnConditions) (hp : y.map.pendingLbns = []) (hr : y.map.remap = [])
    (ht : y.map.retired = []) (hj : y.jrnl.candidate = none)
    (hh : hasCause .health y = true → hasCause .health s = true) : TableSet s y := by
  have hrecords : ∀ i : CondId, (powerOnConditions[i]).worst = 100 ∧ (powerOnConditions[i]).grade = 100 ∧
      gradeOf i (powerOnConditions[i]).raw = 100 := by decide
  have hfree : freeSpares y = freeSpares State.reset := freeSpares_of_remapKept ⟨hr, ht⟩
  refine ⟨fun i => ?_, fun _ => ⟨fun i => ?_, ?_⟩, ?_, fun k hk => ?_, hh⟩
  · obtain ⟨-, hgrade, hformula⟩ := hrecords i
    rw [hc, hgrade, hformula]
  · obtain ⟨hworst, hgrade, hformula⟩ := hrecords i
    rw [hc]
    exact ⟨hworst ▸ by decide, (hworst.trans hgrade.symm).le, hgrade.le, hgrade.trans hformula.symm⟩
  · rw [hc, hp]
    rfl
  · unfold SparesReported
    rw [hc, hfree]
    decide
  · rw [hj] at hk
    cases hk

theorem powerLost_set (s : State) : TableSet s (powerLost s) :=
  powerOn_set rfl rfl rfl rfl rfl fun h => by simp [hasCause, powerLost, State.reset] at h

/-! ## The scan -/

/-- An image becomes the candidate only if it passes the tests (R151, R164). -/
theorem considerImage_candidateOk (p : Nat) (i : StateImage) {s : State} (h : CandidateOk s) :
    CandidateOk (considerImage p i s) := by
  by_cases hv : imageValid i = true
  · have hvalid : fieldsValid i = true := (Bool.and_eq_true_iff.1 hv).2
    rcases considerImage_cases p i s with e | e <;> rw [e]
    · exact h
    · intro c hc
      cases hc
      exact hvalid
  · have hsame : considerImage p i s = s := if_neg fun hb => hv (Bool.and_eq_true_iff.1 hb).1
    rwa [hsame]

theorem ringTaken_unmoved (o : ArrayOp) (out : ReadOutcome) (s : State) : MonitorUnmoved s (ringTaken o out s) := by
  obtain ⟨b, e⟩ := ringTaken_shape o out s
  refine ⟨by rw [e], by rw [e], ⟨by rw [e], by rw [e]⟩, fun h => ?_, by rw [e]; exact id⟩
  have hbuf : ∀ b, CandidateOk { s with jrnl := { s.jrnl with imageBuffer := b } } := fun b => h.congr rfl
  unfold ringTaken
  split
  · exact h
  · split
    · exact considerImage_candidateOk _ _ (hbuf _)
    all_goals exact hbuf _

theorem ringReadDone_unmoved {o : ArrayOp} (out : ReadOutcome) (s : State) (hp : o.pbn - 4064 < 31) :
    MonitorUnmoved s (ringReadDone o out s) := by
  obtain ⟨hc, hpend, hremap, hcand, hhealth⟩ := ringTaken_unmoved o out s
  rw [ringReadDone_eq, if_pos hp]
  exact ⟨hc, hpend, hremap, hcand, hhealth⟩

/-- The state with the fresh table and map in place, before the start is counted (R166). -/
def freshStored (s : State) : State :=
  { s with
    map := { s.map with remap := [], retired := [], pendingLbns := [] }
    patrol := { s.patrol with resume := 0 }
    cond := powerOnConditions }

theorem freshState_eq (s : State) : freshState s = commitReason ((freshStored s).bump CondId.powerStarts) := rfl

/-- The last ring read sets the table, and counts the start (R165, R166). -/
theorem ringReadDone_set {o : ArrayOp} (out : ReadOutcome) (s : State) (hp : ¬ o.pbn - 4064 < 31) :
    ∃ y, TableSet s y ∧ Monitored y (ringReadDone o out s) := by
  have htaken := ringTaken_unmoved o out s
  rw [ringReadDone_eq, if_neg hp]
  have hset : ∀ {y}, TableSet (ringTaken o out s) y → TableSet s y := fun h =>
    ⟨h.graded, fun hs => h.table (htaken.candidate hs), h.spares, h.candidate, fun hh => htaken.health (h.health hh)⟩
  cases hk : (ringTaken o out s).jrnl.candidate with
  | some k =>
    rw [endScan_of_candidate hk, loadImage_eq]
    exact ⟨_, hset (imageLoaded_set hk), (Monitored.refl.counted _ (by decide) (by decide)).kept (endStartUp_kept _)⟩
  | none =>
    rw [endScan_of_none hk, freshState_eq]
    exact ⟨freshStored (ringTaken o out s), hset (powerOn_set rfl rfl rfl rfl hk id),
      (Monitored.refl.counted _ (by decide) (by decide)).of_eq ⟨rfl, rfl, rfl, rfl⟩⟩

/-! ## O55 -/

theorem settle_cond (s₀ x : State) : (settle s₀ x).cond = x.cond := by simp

/-- The close of an event leaves the table and what it reports (R34, R51, R68, R176). -/
theorem settle_conditionsOk {x : State} (s₀ : State) (hc : ConditionsOk x) (hk : CandidateOk x) :
    ConditionsOk (settle s₀ x) ∧ CandidateOk (settle s₀ x) := by
  rw [conditionsOk_iff] at hc ⊢
  obtain ⟨htable, hspares⟩ := hc
  exact ⟨⟨htable.congr (by simp) (by simp), hspares.of_raw (by simp) ⟨by simp, by simp⟩⟩, hk.congr (by simp)⟩

theorem MonitorUnmoved.conditionsOk {s t : State} (h : MonitorUnmoved s t) (hs : ConditionsOk s) : ConditionsOk t := by
  rw [conditionsOk_iff] at hs ⊢
  obtain ⟨htable, hspares⟩ := hs
  exact ⟨htable.congr h.cond h.pending, hspares.of_raw (by rw [h.cond]) h.remap⟩

theorem Monitored.conditionsOk {s t : State} (h : Monitored s t) (hs : ConditionsOk s) : ConditionsOk t := by
  rw [conditionsOk_iff] at hs ⊢
  obtain ⟨htable, hspares⟩ := hs
  exact ⟨h.tableOk htable, h.sparesReported hspares⟩

theorem TableSet.conditionsOk {s y : State} (h : TableSet s y) (hk : CandidateOk s) : ConditionsOk y :=
  (conditionsOk_iff y).2 ⟨h.table hk, h.spares⟩

theorem MonitorEnd.conditionsOk {c : Instr} {s t : State} (h : MonitorEnd c s t) (hs : ConditionsOk s)
    (hk : CandidateOk s) : ConditionsOk t ∧ CandidateOk t := by
  cases h with
  | settled hx =>
    obtain ⟨hcand, -⟩ := hx.candidate_health
    exact settle_conditionsOk s (hx.conditionsOk hs) (hk.congr hcand)
  | unmoved hu => exact ⟨hu.conditionsOk hs, hu.candidate hk⟩
  | @scanned o out =>
    by_cases hp : o.pbn - 4064 < 31
    · have hu := ringReadDone_unmoved (o := o) out (idleUnit s) hp
      exact settle_conditionsOk s (hu.conditionsOk hs) (hu.candidate hk)
    · obtain ⟨y, hy, hx⟩ := ringReadDone_set (o := o) out (idleUnit s) hp
      obtain ⟨hcand, -⟩ := hx.candidate_health
      exact settle_conditionsOk s (hx.conditionsOk (hy.conditionsOk hk)) (hy.candidate.congr hcand)
  | powerLost =>
    have hset := powerLost_set s
    exact ⟨hset.conditionsOk hk, hset.candidate⟩

/-- Settles O55: the effects of an event keep the table in order act by act (`Monitored.conditionsOk`), the scan's end and a
loss of power set it in order (`TableSet`), and no command does anything else to it (`exec_monitorEnd`). -/
theorem conditionTableKept : Obligations.ConditionTableKept :=
  kept_of_commands (fun _ _ h => h) fun _ _ _ ⟨hs, hk⟩ ht => (exec_monitorEnd ht).conditionsOk hs hk

/-! ## O50 -/

/-- A record whose raw value is not `r` has the grade of its raw value. -/
def Condition.GradedFrom (i : CondId) (r : Nat) (c : Condition) : Prop := c.raw ≠ r → c.grade = gradeOf i c.raw

theorem Condition.GradedFrom.setRaw {i : CondId} {r : Nat} {c : Condition} (h : c.GradedFrom i r) (v : Nat) :
    (c.setRaw i v).GradedFrom i r := by
  unfold Condition.setRaw
  split
  · exact h
  · exact fun _ => rfl

theorem Condition.GradedFrom.bump {i : CondId} {r : Nat} {c : Condition} (h : c.GradedFrom i r) :
    (c.bump i).GradedFrom i r := by
  unfold Condition.bump
  split
  · exact h
  · exact h.setRaw _

theorem Monitored.graded {s t : State} (h : Monitored s t) {i : CondId} {r : Nat} (hs : (s.cond[i]).GradedFrom i r) :
    (t.cond[i]).GradedFrom i r :=
  h.record i (P := (·.GradedFrom i r)) hs (fun _ _ _ hc => hc.bump) (fun _ _ v hc => hc.setRaw v) fun _ _ hc => hc

/-- A table set anew has every grade by its formula, and the count of the start keeps it so. -/
theorem TableSet.graded_after {s y t : State} (h : TableSet s y) (ht : Monitored y t) (i : CondId) :
    (t.cond[i]).grade = gradeOf i (t.cond[i]).raw :=
  ht.record i (P := fun c => c.grade = gradeOf i c.raw) (h.graded i)
    (fun _ _ c hc => by
      unfold Condition.bump
      split
      · exact hc
      · exact setRaw_grade i _ c hc)
    (fun _ c v hc => setRaw_grade i v c hc) fun _ _ hc => hc

theorem MonitorEnd.graded {c : Instr} {s t : State} (h : MonitorEnd c s t) (i : CondId) :
    (t.cond[i]).GradedFrom i (s.cond[i]).raw := by
  cases h with
  | settled hx =>
    rw [settle_cond]
    exact hx.graded fun hne => absurd rfl hne
  | unmoved hu =>
    rw [hu.cond]
    exact fun hne => absurd rfl hne
  | @scanned o out =>
    rw [settle_cond]
    by_cases hp : o.pbn - 4064 < 31
    · rw [(ringReadDone_unmoved out (idleUnit s) hp).cond]
      exact fun hne => absurd rfl hne
    · obtain ⟨y, hy, hx⟩ := ringReadDone_set (o := o) out (idleUnit s) hp
      exact fun _ => hy.graded_after hx i
  | powerLost => exact fun _ => (powerLost_set s).graded i

/-- Settles O50: `MonitorEnd.graded` at every command, and the last ring read sets the table anew (`ringReadDone_set`). -/
theorem gradesFollowRawValues : Obligations.GradesFollowRawValues := by
  unfold Obligations.GradesFollowRawValues
  intro f
  have hf : ∀ i raw, f i raw = gradeOf i raw := fun i raw => by fin_cases i <;> rfl
  refine ⟨fun c s t ht i hne => ?_, fun o out s t ho hop hr hpbn ht i => ?_, ?_⟩
  · rw [hf]
    exact (exec_monitorEnd ht).graded i hne
  · obtain ⟨y, hy, hx⟩ := ringReadDone_set (o := o) out (idleUnit s) (by omega)
    have ht' : settle s (ringReadDone o out (idleUnit s)) = t := by
      have hexec : execReadBlockCompletion out s = .next (settle s (ringReadDone o out (idleUnit s))) := by
        simp [execReadBlockCompletion, ho, hop, readDone, hr]
      exact next_inj (hexec.symm.trans ht)
    rw [hf, ← ht', settle_cond]
    exact hy.graded_after hx i
  · simp only [hf]
    decide

/-! ## O51 -/

/-- A record after events that count it: its raw value has not fallen, and its limit stops it (R169, R171). -/
structure Condition.CountedFrom (c d : Condition) : Prop where
  raw_le : c.raw ≤ d.raw
  bounded : c.raw ≤ max32 → d.raw ≤ max32
  stays : c.raw = max32 → d.grade = c.grade ∧ d.worst = c.worst

theorem Condition.CountedFrom.refl (c : Condition) : c.CountedFrom c := ⟨le_rfl, id, fun _ => ⟨rfl, rfl⟩⟩

theorem Condition.CountedFrom.bump {c d : Condition} (h : c.CountedFrom d) (i : CondId) : c.CountedFrom (d.bump i) := by
  obtain ⟨hle, hbound, hstays⟩ := h
  have hraw := bump_raw i d
  unfold oneMore at hraw
  split at hraw
  · rename_i hmax
    have hsame : d.bump i = d := if_pos hmax
    rw [hsame]
    exact ⟨hle, hbound, hstays⟩
  · exact ⟨by omega, fun _ => by omega, fun _ => by omega⟩

theorem Monitored.countedFrom {s t : State} (h : Monitored s t) {i : CondId} (hspares : i ≠ CondId.sparesRemaining)
    (hpending : i ≠ CondId.pendingBlocks) : (s.cond[i]).CountedFrom (t.cond[i]) :=
  h.record i (P := (s.cond[i]).CountedFrom) (.refl _) (fun _ _ _ hc => hc.bump i)
    (fun hi => absurd hi (not_or.2 ⟨hspares, hpending⟩)) fun _ _ ⟨hle, hbound, hstays⟩ => ⟨hle, hbound, hstays⟩

/-- Settles O51: without a ring read or a loss of power a cumulative record is only counted (`Monitored.countedFrom`). -/
theorem cumulativeCountsSaturate : Obligations.CumulativeCountsSaturate := by
  intro c s t ht hpower hscan i hspares hpending
  have hcounted : (s.cond[i]).CountedFrom (t.cond[i]) := by
    cases exec_monitorEnd ht with
    | settled hx =>
      rw [settle_cond]
      exact hx.countedFrom hspares hpending
    | unmoved hu =>
      rw [hu.cond]
      exact .refl _
    | scanned _ ho hop hr => exact absurd hop (hscan _ ho hr)
    | powerLost hc => exact absurd hc hpower
  exact ⟨hcounted.raw_le, hcounted.bounded, hcounted.stays⟩

end Sys2Proof.Machine
end

section
/-! PROOFS. O52: tripping, the verdict and HEALTH (R174, R175, R176). -/
namespace Sys2Proof.Machine

/-! ## Tripping and the verdict -/

/-- The threshold of condition `i` is active, and its grade has come down to it (R174). -/
def Trips (s : State) (i : CondId) : Prop := 1 ≤ (s.cond[i]).threshold ∧ (s.cond[i]).grade ≤ (s.cond[i]).threshold

/-- INFO conditions never trip (R174). -/
theorem isTripped_iff (s : State) (i : CondId) : isTripped s i = true ↔ condClass i ≠ .info ∧ Trips s i := by
  simp [isTripped, Condition.tripped, Trips, and_assoc]

/-- Whether a condition of a class that can trip has tripped. -/
theorem trippedSet_any (s : State) {k : CondClass} (hk : k ≠ .info) :
    (trippedSet s).any (fun i => condClass i == k) = true ↔ ∃ i, condClass i = k ∧ Trips s i := by
  simp only [trippedSet, List.any_eq_true, List.mem_filter, List.mem_finRange, true_and, beq_iff_eq, isTripped_iff]
  constructor
  · rintro ⟨i, ⟨-, ht⟩, hi⟩
    exact ⟨i, hi, ht⟩
  · rintro ⟨i, hi, ht⟩
    exact ⟨i, ⟨hi ▸ hk, ht⟩, hi⟩

/-- The verdict (R175). -/
theorem verdict_eq (s : State) :
    ((∃ i, condClass i = .prefail ∧ Trips s i) → verdict s = .failing) ∧
    ((¬ ∃ i, condClass i = .prefail ∧ Trips s i) → (∃ i, condClass i = .advisory ∧ Trips s i) → verdict s = .advisory) ∧
    ((¬ ∃ i, condClass i = .prefail ∧ Trips s i) → (¬ ∃ i, condClass i = .advisory ∧ Trips s i) →
      verdict s = .good) := by
  rw [← trippedSet_any s (k := .prefail) nofun, ← trippedSet_any s (k := .advisory) nofun]
  unfold verdict
  dsimp only
  exact ⟨fun hp => if_pos hp, fun hp ha => by rw [if_neg hp, if_pos ha], fun hp ha => by rw [if_neg hp, if_neg ha]⟩

/-- The classes of the conditions, listed (R168). -/
theorem condClass_lists (i : CondId) :
    (i ∈ ([1, 2, 3, 4, 5, 10] : List CondId) ↔ condClass i = .prefail) ∧
      (i ∈ ([0, 6, 8] : List CondId) ↔ condClass i = .advisory) := by
  revert i
  decide

theorem condClass_ne_info_iff (i : CondId) :
    condClass i ≠ .info ↔ i ∈ ([1, 2, 3, 4, 5, 10] ++ [0, 6, 8] : List CondId) := by
  revert i
  decide

/-! ## HEALTH -/

/-- A condition is tripped in `t` that was not in `s` (R176). -/
def TripsAnew (s t : State) : Prop := ∃ i, isTripped t i = true ∧ isTripped s i = false

theorem not_tripsAnew_of_cond {s t : State} (h : t.cond = s.cond) : ¬ TripsAnew s t := by
  rintro ⟨i, ht, hs⟩
  rw [isTripped, h] at ht
  exact Bool.false_ne_true (hs.symm.trans ht)

theorem TripsAnew.congr {s t u : State} (h : t.cond = u.cond) : TripsAnew s t ↔ TripsAnew s u := by
  simp only [TripsAnew, isTripped, h]

theorem latchHealth_health (s₀ s : State) :
    hasCause .health (latchHealth s₀ s) = true ↔ hasCause .health s = true ∨ TripsAnew s₀ s := by
  have hany : (List.finRange 12).any (fun i => isTripped s i && !isTripped s₀ i) = true ↔ TripsAnew s₀ s := by
    simp [TripsAnew]
  unfold latchHealth
  split
  · rename_i h
    exact iff_of_true (latch_sets .health s) (.inr (hany.1 h))
  · rename_i h
    exact ⟨.inl, fun hor => hor.resolve_right fun hnew => h (hany.2 hnew)⟩

/-- The close of an event latches HEALTH for what it finds tripped anew (R176). -/
theorem settle_health (s₀ x : State) :
    hasCause .health (settle s₀ x) = true ↔ hasCause .health x = true ∨ TripsAnew s₀ (settle s₀ x) := by
  have hgrants : hasCause .health (grantSlots 8 (closeQueue s₀ x)) = hasCause .health x := by simp [hasCause]
  have hcond : (settle s₀ x).cond = (grantSlots 8 (closeQueue s₀ x)).cond := by simp
  rw [TripsAnew.congr hcond, settle, (arbitrate_kept _).health, latchHealth_health, hgrants]

/-- HEALTH is present after a command for what the command tripped, or because it was before. -/
structure HealthFollows (s t : State) : Prop where
  latched : TripsAnew s t → hasCause .health t = true
  cause : hasCause .health t = true → hasCause .health s = true ∨ TripsAnew s t

theorem HealthFollows.settle {s x : State} (h : hasCause .health x = true → hasCause .health s = true) :
    HealthFollows s (settle s x) :=
  ⟨fun hnew => (settle_health s x).2 (.inr hnew), fun ht => ((settle_health s x).1 ht).imp_left h⟩

/-- No factory threshold reaches grade 100 (R168, R183). -/
theorem powerLost_not_tripped (s : State) (i : CondId) : isTripped (powerLost s) i = false := by
  have hnone : ∀ j : CondId, (powerOnConditions[j]).tripped j = false := by decide
  exact hnone i

theorem MonitorEnd.health {c : Instr} {s t : State} (h : MonitorEnd c s t) : HealthFollows s t := by
  cases h with
  | settled hx =>
    obtain ⟨-, hhealth⟩ := hx.candidate_health
    exact .settle fun hh => hhealth ▸ hh
  | unmoved hu => exact ⟨fun hnew => absurd hnew (not_tripsAnew_of_cond hu.cond), fun ht => .inl (hu.health ht)⟩
  | @scanned o out =>
    refine .settle fun hh => ?_
    by_cases hp : o.pbn - 4064 < 31
    · exact (ringReadDone_unmoved out (idleUnit s) hp).health hh
    · obtain ⟨y, hy, hx⟩ := ringReadDone_set (o := o) out (idleUnit s) hp
      obtain ⟨-, hhealth⟩ := hx.candidate_health
      exact hy.health (hhealth ▸ hh)
  | powerLost =>
    refine ⟨fun ⟨i, hi, _⟩ => ?_, fun ht => .inl ((powerLost_set s).health ht)⟩
    rw [powerLost_not_tripped] at hi
    cases hi

/-- Settles O52: STAT shows `verdict`, and HEALTH follows what each command trips (`MonitorEnd.health`). -/
theorem verdictAndHealthFollowTripping : Obligations.VerdictAndHealthFollowTripping := by
  unfold Obligations.VerdictAndHealthFollowTripping
  intro tripped prefail advisory gains
  have hprefail : ∀ s, (∃ i ∈ prefail, tripped s i) ↔ ∃ i, condClass i = .prefail ∧ Trips s i := fun s =>
    exists_congr fun i => and_congr_left' (condClass_lists i).1
  have hadvisory : ∀ s, (∃ i ∈ advisory, tripped s i) ↔ ∃ i, condClass i = .advisory ∧ Trips s i := fun s =>
    exists_congr fun i => and_congr_left' (condClass_lists i).2
  have hgains : ∀ s t, gains s t ↔ TripsAnew s t := fun s t => exists_congr fun i => by
    rw [← Bool.not_eq_true, isTripped_iff, isTripped_iff, ← condClass_ne_info_iff]
    exact ⟨fun ⟨hi, ht, hs⟩ => ⟨⟨hi, ht⟩, fun h => hs h.2⟩, fun ⟨⟨hi, ht⟩, hs⟩ => ⟨hi, ht, fun h => hs ⟨hi, h⟩⟩⟩
  refine ⟨fun s => ?_, fun c s t ht => ?_⟩
  · obtain ⟨-, hshown, -⟩ := statWord_shows s
    obtain ⟨hfailing, hadv, hgood⟩ := verdict_eq s
    have shows : ∀ {v : Verdict}, verdict s = v → (regRead s 0x01).toNat / 4 % 4 = v.code := fun hv => hv ▸ hshown
    rw [← hprefail] at hfailing hadv hgood
    rw [← hadvisory] at hadv hgood
    refine ⟨fun hp => shows (hfailing hp), fun hp ha => shows (hadv ?_ ha), fun hn => shows (hgood ?_ ?_)⟩
    · exact fun ⟨i, hi, ht⟩ => hp i hi ht
    · exact fun ⟨i, hi, ht⟩ => hn i (List.mem_append_left _ hi) ht
    · exact fun ⟨i, hi, ht⟩ => hn i (List.mem_append_right _ hi) ht
  · have hhealth := (exec_monitorEnd ht).health
    rw [hgains]
    refine ⟨hhealth.latched, fun hs h => (hhealth.cause h).resolve_left fun h' => ?_⟩
    exact Bool.false_ne_true (hs.symm.trans h')

end Sys2Proof.Machine
end

section
/-! PROOFS. O41: the entries and the checksum of a report (R179). -/
namespace Sys2Proof.Machine

/-! ## The sum of words -/

theorem foldl_add_toNat (l : Words) (a : Word) : (l.foldl (· + ·) a).toNat = (a.toNat + (l.map (·.toNat)).sum) % 65536 := by
  induction l generalizing a with
  | nil => simp [Nat.mod_eq_of_lt a.isLt]
  | cons b l ih => simp [ih, BitVec.toNat_add, Nat.add_assoc]

/-- The sum of words is the sum of their values modulo 65536 (R179). -/
theorem sumWords_toNat (l : Words) : (sumWords l).toNat = (l.map (·.toNat)).sum % 65536 := by
  exact (foldl_add_toNat l 0).trans (by simp)

theorem sumWords_eq_zero_iff (l : Words) : sumWords l = 0 ↔ (l.map (·.toNat)).sum % 65536 = 0 := by
  rw [← sumWords_toNat]
  exact BitVec.toNat_inj.symm

theorem sumWords_concat (l : Words) (w : Word) : sumWords (l ++ [w]) = sumWords l + w := by
  simp [sumWords]

/-! ## The words of a report -/

theorem reportOf_getElem (s : State) {k : Nat} (h : k < 255) :
    (reportOf s)[k] = reportWord s k := by
  rw [reportOf, Vector.getElem_ofFn, if_neg h.ne]

/-- A report is its first 255 words and the checksum that they give (R179). -/
theorem reportOf_toList (s : State) :
    (reportOf s).toList = (List.range 255).map (reportWord s) ++ [reportChecksum s] := by
  refine List.ext_getElem (by simp) fun k hk _ => ?_
  rw [Vector.getElem_toList]
  by_cases h : k < 255
  · rw [reportOf_getElem s h, List.getElem_append_left (by simpa using h)]
    simp
  · obtain rfl : k = 255 := by
      simp at hk
      omega
    simp [reportOf]

theorem reportOf_sum (s : State) : ((reportOf s).toList.map (·.toNat)).sum % 65536 = 0 := by
  rw [← sumWords_eq_zero_iff, reportOf_toList, sumWords_concat, reportChecksum]
  exact add_sub_cancel ..

theorem reportOf_entry (s : State) (i : CondId) (j : Fin 8) :
    (reportOf s)[16 + 8 * i.val + j.val]'(by have := i.isLt; have := j.isLt; omega) = entryWord s i j.val := by
  have hi := i.isLt
  have hj := j.isLt
  have hentry : (⟨(16 + 8 * i.val + j.val - 16) / 8, by omega⟩ : CondId) = i := Fin.ext (by simp; omega)
  rw [reportOf_getElem s (by omega), reportWord, if_neg (by omega), dif_pos (by omega), hentry]
  congr 1
  omega

theorem reportOf_zeros (s : State) {k : Nat} (hlo : 112 ≤ k) (hk : k < 255) : (reportOf s)[k] = 0 := by
  rw [reportOf_getElem s hk, reportWord, if_neg (by omega), dif_neg (by omega)]

/-! ## The entry of a condition -/

theorem at16_low_toNat {v : Nat} (h : v < 65536) : (at16 0 v).toNat = v := by
  rw [at16_zero, BitVec.toNat_ofNat, Nat.mod_eq_of_lt h]

theorem condClass_code_lt (k : CondClass) : k.code < 16 := by cases k <;> decide
theorem condCollection_code_lt (k : Collection) : k.code < 4 := by cases k <;> decide

/-- Word 1 of an entry holds the class and the collection (R179, R200). -/
theorem entryWord_codes (s : State) (i : CondId) :
    (entryWord s i 1).toNat = (condClass i).code + 16 * (condCollection i).code := by
  have hclass := condClass_code_lt (condClass i)
  have hcollection := condCollection_code_lt (condCollection i)
  have hlow : (at16 0 (condClass i).code).toNat = (condClass i).code := at16_low_toNat (by omega)
  rw [Nat.mul_comm]
  exact or_at16_toNat (lo := 4) hlow hclass (by omega)

/-- The two halves of a 32-bit value make it up. -/
theorem halves_toNat {v : Nat} (h : v ≤ 4294967295) : (lowHalf v).toNat + 65536 * (highHalf v).toNat = v := by
  rw [lowHalf, highHalf, BitVec.toNat_ofNat, BitVec.toNat_ofNat]
  omega

theorem highHalf_of_small {v : Nat} (h : v < 65536) : (highHalf v).toNat = 0 := by
  rw [highHalf, Nat.div_eq_of_lt h]
  rfl

/-- Conditions 5 and 6 fit in the low half of their raw value (R170). -/
theorem ConditionsOk.raw_small {s : State} (h : ConditionsOk s) {i : CondId}
    (hi : i = CondId.sparesRemaining ∨ i = CondId.pendingBlocks) : (s.cond[i]).raw < 65536 := by
  obtain ⟨htable, hspares⟩ := (conditionsOk_iff s).1 h
  have hlen := htable.pending_le
  have hfree := freeSpares_length_le s
  rcases hi with rfl | rfl
  · rw [hspares]
    omega
  · rw [htable.pending]
    omega

/-- Settles O41: the report taken is `reportOf` of the state, its entries are `entryWord`, and its checksum makes the sum 0
(`reportOf_sum`). -/
theorem reportEntriesAndChecksum : Obligations.ReportEntriesAndChecksum := by
  intro hi s hr hn hm hok _ hbounds
  refine ⟨reportOf s, exec_reportBuild hi hr hn hm, fun i => ?_, fun k hlo hk => reportOf_zeros s hlo hk, reportOf_sum s⟩
  have hword : ∀ j : Fin 8, ((reportOf s)[16 + 8 * i.val + j.val]'(by have := i.isLt; have := j.isLt; omega)).toNat =
      (entryWord s i j.val).toNat := fun j => by rw [reportOf_entry]
  simp only [hword]
  obtain ⟨htable, -⟩ := (conditionsOk_iff s).1 hok
  obtain ⟨-, hworst, hgrade, -⟩ := htable.records i
  obtain ⟨hraw, hthreshold⟩ := hbounds i
  exact ⟨at16_low_toNat (by omega), entryWord_codes s i, at16_low_toNat (by omega), at16_low_toNat (by omega),
    at16_low_toNat (by omega), halves_toNat hraw, rfl, fun hi => highHalf_of_small (hok.raw_small hi)⟩

end Sys2Proof.Machine
end

section
/-! PROOFS. O42: the tests of THRESHOLD_LOAD (R180). -/
namespace Sys2Proof.Machine

/-- The four tests of R180, in the words of its table. -/
theorem thresholdsValid_iff (b : Vector Word 256) :
    thresholdsValid b = true ↔ b[0] = 0x0301#16 ∧ (b.toList.map (·.toNat)).sum % 65536 = 0 ∧
      (∀ i : CondId, (b[16 + 8 * i.val]'(by have := i.isLt; omega)).toNat = i.val + 1) ∧
      (∀ i : CondId, (b[20 + 8 * i.val]'(by have := i.isLt; omega)).toNat ≤ 255) := by
  simp only [thresholdsValid, Bool.and_eq_true, beq_iff_eq, sumWords_eq_zero_iff, List.all_eq_true, List.mem_finRange,
    true_implies, decide_eq_true_eq, and_assoc]
  exact Iff.rfl

/-- A THRESHOLD_LOAD that is not taken completes with its result, and changes nothing else (R180, R187). -/
theorem exec_thresholdLoad_refused {hi : BitVec 8} {s : State} {r : CmdResult} (hr : s.rstnLow = false)
    (h : requestThresholds s = completeCommand (Command.code .thresholdLoad) r s) :
    exec (.thresholdLoad hi) s = .next (completedWith 0x11#8 r s) := by
  change busAccess s requestThresholds = _
  rw [busAccess_high s _ hr, h, completeCommand_eq]
  rfl

/-- RDATA is closed while THRESHOLD_LOAD runs (R190). -/
theorem exec_rdata_closed {s : State} (hr : s.rstnLow = false) (h : bufferClosed s = true) :
    exec .rdataRead s = .next { s with lastRead := 0xFFFF#16 } ∧ ∀ v, exec (.rdataWrite v) s = .next s := by
  refine ⟨?_, fun v => ?_⟩
  · change busAccess s readReport = _
    rw [busAccess_high s _ hr, readReport, if_pos h]
    rfl
  · change busAccess s (writeReport v) = _
    rw [busAccess_high s _ hr, writeReport, if_pos h]

/-- Settles O42: the checks of R187 and the four tests (`thresholdsValid_iff`) refuse the command, and a buffer that passes is
loaded before the command waits (`settle_waiting`). -/
theorem thresholdLoadTestsTheBuffer : Obligations.ThresholdLoadTestsTheBuffer := by
  intro hi s hr b passes
  have hvalid : thresholdsValid s.cmd.buffer = true ↔ passes := thresholdsValid_iff b
  refine ⟨fun hn => ⟨fun hm => ?_, fun hm => ?_, fun ⟨hm, hfails⟩ => ?_, fun ⟨hm, hpasses⟩ hlt => ?_⟩, fun q hrun => ?_⟩
  · exact exec_thresholdLoad_refused hr (by simp [requestThresholds, requestCommand, hn, hm])
  · exact exec_thresholdLoad_refused hr (by simp [requestThresholds, requestCommand, hn, hm, Command.needsReady])
  · have hinvalid : thresholdsValid s.cmd.buffer = false := Bool.eq_false_iff.2 (hfails ∘ hvalid.1)
    exact exec_thresholdLoad_refused hr (by simp [requestThresholds, requestCommand, takeThresholds, hn, hm, hinvalid])
  · obtain ⟨-, hrun, hcond⟩ := settle_waiting (r := .thresholdLoad) (loadThresholds_same s) hm hlt
    refine ⟨_, exec_thresholdLoad hr hn hm (hvalid.2 hpasses), fun i => ?_, hrun⟩
    rw [hcond, loadThresholds_cond]
    rfl
  · exact exec_rdata_closed hr (by rw [bufferClosed, hrun])

end Sys2Proof.Machine
end
